-- ==== Sys2Proof/Word.lean ====
section
/-! DEFINITION. The plain types of the VX-B32 model: bytes, register words, floating-point words (R5-R9 of 00_scope.md,
IEEE 754 formats), the numbers of Wings and Classrooms (R21), and the sparse table every indexed piece of state uses. -/

namespace Sys2Proof

/-- One byte. -/
abbrev Byte := BitVec 8

/-- A setup register: 64 bits (R9). -/
abbrev Reg := BitVec 64

/-- A binary32 word (`fp32` of 00_scope.md). -/
abbrev F32 := BitVec 32

/-- A bf16 word: the upper 16 bits of a binary32. -/
abbrev BF16 := BitVec 16

/-- Wing number, 0-3 (R21). -/
abbrev Wing := Fin 4

/-- Classroom number within a Wing, 0-7 (R21). -/
abbrev Room := Fin 8

/-- A table indexed by numbers that lists only the entries that differ from a stated default.
Its canonical form (`Sparse.wf`) is: keys strictly rising, no listed entry equal to the default of its key. -/
abbrev Sparse (α : Type) := List (Nat × α)

/-- A byte-addressed memory: `Host.Cell`s (address, byte) in the canonical form of `Sparse`. -/
abbrev Memory := List Host.Cell

/-- Classroom `c` of Wing `w` in the module-wide numbering 0-31. -/
def roomIndex (w : Wing) (c : Room) : Fin 32 := ⟨8 * w.val + c.val, by omega⟩

end Sys2Proof
end

