-- ==== Sys2Proof/Syntax.lean ====
section
/-! DEFINITION. The commands of the VX-B32 block, one constructor per row of opcode_table.json, with their operands. -/

namespace Sys2Proof

/-! ### Slot operations: their operand fields as the period word carries them (R133, R134) -/

/-- FEED (R40, R134): COUNT is carried as n - 1, GROUPS as the two-bit code. -/
structure FeedOp where
  swap : Bool
  count : BitVec 9
  slate : BitVec 11
  token : BitVec 9
  acc : Bool
  groups : BitVec 2
deriving DecidableEq, Repr

/-- EXP_TILE (R106): BUDGET is carried as B - 1. -/
structure ExpTileOp where
  src : BitVec 15
  cb : BitVec 5
  budget : BitVec 9
deriving DecidableEq, Repr

/-- EXP_PLANES (R106): P is carried as p - 1, COUNT as O - 1, G as GROUPS. -/
structure ExpPlanesOp where
  src : BitVec 15
  p : BitVec 3
  g : BitVec 2
  count : BitVec 9
deriving DecidableEq, Repr

/-- EXP_ACT (R106): BUDGET is carried as B - 1. -/
structure ExpActOp where
  src : BitVec 15
  dst : BitVec 14
  budget : BitVec 9
deriving DecidableEq, Repr

/-- EXP_BF16 (R106): COUNT is carried as n - 1. -/
structure ExpBf16Op where
  src : BitVec 15
  side : BitVec 15
  dst : BitVec 14
  count : BitVec 4
deriving DecidableEq, Repr

/-- EXP_LOAD (R106). -/
structure ExpLoadOp where
  mode : BitVec 2
  p : BitVec 4
  selbuf : Bool
deriving DecidableEq, Repr

/-- EXP_CBLOAD (R106). -/
structure ExpCbloadOp where
  slot : BitVec 4
  src : BitVec 15
deriving DecidableEq, Repr

/-- LOC_PACK (R115): BLOCKS is carried as n. -/
structure LocPackOp where
  src : BitVec 11
  dst : BitVec 15
  blocks : BitVec 7
deriving DecidableEq, Repr

/-- VEC_DRAIN (R171): NTOK is carried as n - 1. -/
structure VecDrainOp where
  token : BitVec 9
  ntok : BitVec 9
  scales : BitVec 19
  fold : Bool
deriving DecidableEq, Repr

/-- A VEC_APPLY function's operands (R134): NTOK is carried as n - 1, ARG in 16-byte units. -/
structure VecApplyOp where
  token : BitVec 9
  ntok : BitVec 9
  arg : BitVec 16
deriving DecidableEq, Repr

/-- The defined VEC_APPLY functions (R134, *Table: VEC_APPLY functions*). -/
inductive VecFunc where
  | scaleCols | scaleRows | addRows | sumsq | normRows | siluMul | rotate | softmaxBlock | softmaxEnd | marginH | marginAdd
deriving DecidableEq, Repr

/-- QUANT (R66): BLOCKS as n - 1, LEN as L - 1. -/
structure QuantOp where
  param : BitVec 16
  out : BitVec 14
  blocks : BitVec 9
  len : BitVec 9
  scales : BitVec 19
  log : BitVec 27
  accToken : BitVec 9
  accCol : BitVec 9
deriving DecidableEq, Repr

/-- RED_TOPK (R237): NBLK as n - 1, K as k - 1. -/
structure RedTopkOp where
  src : BitVec 15
  nblk : BitVec 7
  k : BitVec 6
  dst : BitVec 15
deriving DecidableEq, Repr

/-- RED_MAXSUM (R273): NBLK as n - 1. -/
structure RedMaxsumOp where
  src : BitVec 15
  nblk : BitVec 7
  dst : BitVec 15
deriving DecidableEq, Repr

/-- MOV_COPY (R134): LEN in sectors as n - 1, ADDR in 32-byte units. -/
structure MovCopyOp where
  slate : BitVec 15
  out : Bool
  len : BitVec 13
  due : BitVec 16
  hint : BitVec 2
  addr : BitVec 43
  cls : BitVec 2
  base : BitVec 3
deriving DecidableEq, Repr

/-- MOV_ITEM (R134). -/
structure MovItemOp where
  slate : BitVec 15
  due : BitVec 16
  hint : BitVec 2
  index : BitVec 24
  model : BitVec 6
deriving DecidableEq, Repr

/-- MOV_PAGE (R134, R226). -/
structure MovPageOp where
  slate : BitVec 15
  due : BitVec 16
  part : BitVec 2
  entry : BitVec 20
deriving DecidableEq, Repr

/-- SLT_FILL (R166): LEN in sectors as n - 1. -/
structure SltFillOp where
  dst : BitVec 15
  len : BitVec 13
  value : BitVec 16
deriving DecidableEq, Repr

/-- SLT_COPY (R167): LEN in sectors as n - 1. -/
structure SltCopyOp where
  src : BitVec 15
  dst : BitVec 15
  len : BitVec 13
deriving DecidableEq, Repr

/-- LOOP (R140): COUNT is n - 1 when immediate, a count table entry when from the Roster. -/
structure LoopOp where
  roster : Bool
  count : BitVec 16
  body : BitVec 16
deriving DecidableEq, Repr

/-- CALL (R142). -/
structure CallOp where
  lesson : BitVec 8
deriving DecidableEq, Repr

/-- A slot op of a period word, as one operation with its operand fields. -/
inductive SlotOp where
  | feed (o : FeedOp)
  | expTile (o : ExpTileOp)
  | expPlanes (o : ExpPlanesOp)
  | expAct (o : ExpActOp)
  | expBf16 (o : ExpBf16Op)
  | expLoad (o : ExpLoadOp)
  | expCbload (o : ExpCbloadOp)
  | locPack (o : LocPackOp)
  | vecDrain (o : VecDrainOp)
  | vecApply (f : VecFunc) (o : VecApplyOp)
  | quant (o : QuantOp)
  | redTopk (o : RedTopkOp)
  | redMaxsum (o : RedMaxsumOp)
  | movCopy (o : MovCopyOp)
  | movItem (o : MovItemOp)
  | movPage (o : MovPageOp)
  | sltFill (o : SltFillOp)
  | sltCopy (o : SltCopyOp)
  | loop (o : LoopOp)
  | call (o : CallOp)
deriving DecidableEq, Repr

/-- A Classroom of a Wing. -/
structure Cr where
  w : Wing
  c : Room
deriving DecidableEq, Repr

/-- A Mover of a Classroom: Mover 1 when `m`. -/
structure MoverId where
  w : Wing
  c : Room
  m : Bool
deriving DecidableEq, Repr

/-- The causes of a Hold (R146). -/
inductive HoldCause where
  | dataLate | expanderLate | bellWait | codebookBusy | narrowStarved
deriving DecidableEq, Repr

/-- Clock cycles counted while the Timetable counter was held: the total and the share of each cause (R146). -/
structure HeldCycles where
  total : Nat
  dataLate : Nat
  expanderLate : Nat
  bellWait : Nat
  codebookBusy : Nat
  narrowStarved : Nat
deriving DecidableEq, Repr

/-- Clock cycles in which requesters of one Classroom's Slate lost a bank path: `wide` those of Wide requesters (R161), `narrow` the cycles that Narrow requests waited (R163),
those that NARROW_STARVED and the debug window's own commands count aside. -/
structure SlateWaits where
  room : Room
  wide : Nat
  narrow : Nat
deriving DecidableEq, Repr

/-- A start record (R127). -/
structure StartRec where
  lesson : BitVec 8
  buffer : Bool
  step : BitVec 64
deriving DecidableEq, Repr

/-- The number of a Classroom in the module, 0-31. -/
def Cr.idx (u : Cr) : Fin 32 := roomIndex u.w u.c

/-- The Classroom of a Mover. -/
def MoverId.cr (m : MoverId) : Cr := { w := m.w, c := m.c }

/-! ### Descriptors and their operands (R323, R326-R335, R423) -/

/-- What reads of T2 and T3 met during one operation: bytes of host memory and of peers' exports as they read, whether a host read
completed with an error, and whether a peer stopped answering. -/
structure Ext where
  host : List Host.Cell
  peer : List Host.Cell
  hostFail : Bool
  peerStatus : BitVec 8
deriving DecidableEq, Repr

/-- Nothing read from outside. -/
def Ext.none : Ext := { host := [], peer := [], hostFail := false, peerStatus := 0#8 }

/-- The header of a delivered descriptor (R323) with the submission ring and ring index it came from; `rsv` says that a reserved bit of
the descriptor is nonzero. -/
structure Desc where
  ring : BitVec 10
  index : BitVec 64
  fence : Bool
  handle : BitVec 32
  tag : BitVec 64
  rsv : Bool
deriving DecidableEq, Repr

/-- RING_CREATE operands (*Table: RING_CREATE operands*). -/
structure RingCreateOp where
  base : BitVec 48
  kind : BitVec 2
  log2 : BitVec 5
  priv : Bool
  pasidEn : Bool
  pasid : BitVec 20
  tenant : BitVec 10
  cq : BitVec 12
  vector : BitVec 11
  modCount : BitVec 16
  modUs : BitVec 16
  batchK : BitVec 7
deriving DecidableEq, Repr

/-- HOST_WINDOW: the window entry of R207. -/
structure HostWindowOp where
  pasid : BitVec 20
  tenant : BitVec 10
  write : Bool
  valid : Bool
  pages : BitVec 32
  host : BitVec 64
deriving DecidableEq, Repr

/-- TENANT_QUOTA operands (R329). -/
structure QuotaOp where
  pageLimit : BitVec 32
  t2Limit : BitVec 64
  marginLimit : BitVec 13
  ways : BitVec 16
deriving DecidableEq, Repr

/-- LESSON_INSTALL operands (R330). -/
structure LessonInstallOp where
  src : BitVec 48
  dest : BitVec 30
  wings : BitVec 4
deriving DecidableEq, Repr

/-- MEM_CLASS operands (R331). -/
structure MemClassOp where
  addr : BitVec 48
  count : BitVec 32
  checked : Bool
deriving DecidableEq, Repr

/-- KV_POOL operands (R332): BASE and LOG2 of each Wing. -/
structure KvPoolOp where
  records : BitVec 48
  recLog2 : BitVec 5
  base0 : BitVec 48
  log0 : BitVec 5
  base1 : BitVec 48
  log1 : BitVec 5
  base2 : BitVec 48
  log2 : BitVec 5
  base3 : BitVec 48
  log3 : BitVec 5
deriving DecidableEq, Repr

/-- MEM_COPY operands (R333). -/
structure MemCopyOp where
  src : BitVec 48
  dst : BitVec 48
  length : BitVec 32
  fill : Bool
  pattern : BitVec 64
deriving DecidableEq, Repr

/-- MODEL_LOAD operands. -/
structure ModelLoadOp where
  src : BitVec 48
  golden : BitVec 48
  golden2 : BitVec 48
deriving DecidableEq, Repr

/-- MSET_INSTALL operands. -/
structure MsetInstallOp where
  set : BitVec 16
  tenant : BitVec 10
  src : BitVec 48
  base : BitVec 48
  golden : BitVec 48
deriving DecidableEq, Repr

/-- SESSION_OPEN operands. -/
structure SessionOpenOp where
  evictable : Bool
  batch : Bool
  publish : Bool
  model : BitVec 6
  tdLog2 : BitVec 3
  tenant : BitVec 10
  ring : BitVec 12
  domain : BitVec 16
  kvmap : BitVec 48
  tray : BitVec 30
  seed : BitVec 64
deriving DecidableEq, Repr

/-- TURN operands. -/
structure TurnOp where
  input : BitVec 48
  count : BitVec 32
  set : BitVec 16
  stopset : BitVec 16
  temp : BitVec 16
  topK : BitVec 7
  topP : BitVec 16
  maxTokens : BitVec 32
deriving DecidableEq, Repr

/-- PAUSE operands. -/
structure PauseOp where
  window : BitVec 12
  width : BitVec 4
  ttl : BitVec 32
  offset : BitVec 32
  length : BitVec 32
deriving DecidableEq, Repr

/-- FW_STAGE and RBK_FW_STAGE operands (R423). -/
structure StageOp where
  src : BitVec 48
  length : BitVec 32
deriving DecidableEq, Repr

/-- A descriptor's operation with its operands. -/
inductive DescOp where
  | nop
  | ringCreate (o : RingCreateOp)
  | ringDestroy (kind : BitVec 2)
  | ringReset
  | hostWindow (o : HostWindowOp)
  | tenantQuota (o : QuotaOp)
  | tenantRules (weight : BitVec 8)
  | stopsetWrite (src : BitVec 48) (x : Ext)
  | lessonInstall (o : LessonInstallOp) (x : Ext)
  | lessonRemove (wings : BitVec 4)
  | memClass (o : MemClassOp)
  | kvPool (o : KvPoolOp)
  | memCopy (o : MemCopyOp) (x : Ext)
  | modelLoad (o : ModelLoadOp) (x : Ext)
  | modelUnload
  | modelGolden (golden golden2 : BitVec 48)
  | modelQuery (dst : BitVec 48) (x : Ext)
  | msetInstall (o : MsetInstallOp) (x : Ext)
  | msetRemove (set : BitVec 16)
  | msetQuery (dst : BitVec 48) (x : Ext)
  | sessionOpen (o : SessionOpenOp)
  | turn (o : TurnOp) (x : Ext)
  | abortTurn
  | pause (o : PauseOp)
  | resume
  | sessionEnd
  | sessionRewind (count : BitVec 32)
  | sessionQuery (dst : BitVec 48) (x : Ext)
  | undefined (opcode : BitVec 8)
  | fwQuery (dst : BitVec 48) (x : Ext)
  | fwStage (o : StageOp) (x : Ext)
  | fwActivate (bank : Bool)
  | fwCommit (kind : BitVec 8)
  | rbkFwStage (o : StageOp) (x : Ext)
  | ownerEnroll (src : BitVec 48) (x : Ext)
  | configWrite (src : BitVec 48) (x : Ext)
  | permitInstall (src : BitVec 48) (x : Ext)
  | permitRevoke
deriving DecidableEq, Repr

/-- The opcode of a descriptor's operation (*Table: Opcodes*, *Table: Security opcodes*). -/
def DescOp.opcode : DescOp → Nat
  | .nop => 0x00
  | .ringCreate _ => 0x01
  | .ringDestroy _ => 0x02
  | .ringReset => 0x03
  | .hostWindow _ => 0x04
  | .tenantQuota _ => 0x05
  | .tenantRules _ => 0x06
  | .stopsetWrite _ _ => 0x07
  | .lessonInstall _ _ => 0x08
  | .lessonRemove _ => 0x09
  | .memClass _ => 0x0A
  | .kvPool _ => 0x0B
  | .memCopy _ _ => 0x0C
  | .modelLoad _ _ => 0x10
  | .modelUnload => 0x11
  | .modelGolden _ _ => 0x12
  | .modelQuery _ _ => 0x13
  | .msetInstall _ _ => 0x18
  | .msetRemove _ => 0x19
  | .msetQuery _ _ => 0x1A
  | .sessionOpen _ => 0x20
  | .turn _ _ => 0x21
  | .abortTurn => 0x22
  | .pause _ => 0x23
  | .resume => 0x24
  | .sessionEnd => 0x25
  | .sessionRewind _ => 0x26
  | .sessionQuery _ _ => 0x27
  | .undefined c => c.toNat
  | .fwQuery _ _ => 0x40
  | .fwStage _ _ => 0x41
  | .fwActivate _ => 0x42
  | .fwCommit _ => 0x43
  | .rbkFwStage _ _ => 0x44
  | .ownerEnroll _ _ => 0x45
  | .configWrite _ _ => 0x46
  | .permitInstall _ _ => 0x47
  | .permitRevoke => 0x48

/-! ### Operands of events -/

/-- An access of the host to BAR4, the MSI-X table and its pending bits (R304): a read of so many bytes, or a write. -/
inductive Bar4In where
  | read (off : BitVec 16) (bytes : Nat)
  | write (off : BitVec 16) (data : List Byte)
deriving DecidableEq, Repr

/-- What a poll of the Hall Monitor meets (R315, R317): the bytes the host wrote since the last poll, the lanes L0p leaves active at it (0: all of them,
R345), whether the read of the summary counters failed, the groups whose producer indices and the rings whose descriptors could not be read. -/
structure PollIn where
  host : List Host.Cell
  l0p : Nat
  failSummary : Bool
  failGroups : List Nat
  failRings : List Nat
deriving DecidableEq, Repr

/-- The sources of a full reset (R344). -/
inductive ResetSource where
  | perst | hotReset | linkDown
deriving DecidableEq, Repr

/-- Whom a received frame addresses (R349, R351): destination MAC, whether IPv6, the destination address with its first byte lowest (4 bytes of it
for IPv4), the UDP port and the Corridor VERSION. -/
structure FrameDest where
  mac : BitVec 48
  v6 : Bool
  ip : BitVec 128
  udp : BitVec 16
  version : BitVec 4
deriving DecidableEq, Repr

/-- A received Corridor packet (R350, R351) on a port: its header fields, payload, the CRC-32C at its end and whether its IP
header is CE-marked. -/
structure Packet where
  port : Fin 16
  dest : FrameDest
  last : Bool
  retx : Bool
  tag : BitVec 16
  ctx : BitVec 12
  psn : BitVec 32
  ackPsn : BitVec 32
  sack : BitVec 32
  credits : BitVec 16
  ece : BitVec 16
  arg1 : BitVec 64
  arg2 : BitVec 64
  payload : List Byte
  crc : BitVec 32
  ce : Bool
deriving DecidableEq, Repr

/-- A sample of the power controller (R391): the mean draw in W and the temperature of each die in °C. -/
structure PowerIn where
  watts : Nat
  t0 : BitVec 8
  t1 : BitVec 8
  t2 : BitVec 8
  t3 : BitVec 8
  t4 : BitVec 8
deriving DecidableEq, Repr

/-- The PCI Express link as it comes up with its partner: SPEED, whether it is 16 lanes wide (else 8), and Flit mode (R302, R345). -/
structure LinkIn where
  speed : BitVec 3
  wide : Bool
  flit : Bool
deriving DecidableEq, Repr

/-- What Morning finds (R418): a unit found unusable, in UNIT_FAILED's numbering (of several, the one that is reported: log entry 121), whether the Rollbook
answers step 3, and the link as it comes up. -/
structure MorningIn where
  failed : Option Nat
  answers : Bool
  link : LinkIn
deriving DecidableEq, Repr

/-- What Dawn finds: the seed the PUF reconstructs, if it does (R406), and the link as it comes up for a recovery service. -/
structure BootIn where
  seed : Option (BitVec 256)
  link : LinkIn
deriving DecidableEq, Repr

/-- An event of Classroom `cr` and the Timetable cycle of its Wing in which it happens; under a Hold, the cycle that the Hold keeps from beginning. -/
structure CrAt where
  cr : Cr
  cycle : BitVec 32
deriving DecidableEq, Repr

/-- The landing of entry `index` of a Mover's transfers: the Timetable cycle as in `CrAt`, and how many pairs of rows a back-plane load in progress in the Classroom has written
by then, of its 256 (R34, R111). -/
structure Landing where
  index : BitVec 4
  cycle : BitVec 32
  pairs : BitVec 9
deriving DecidableEq, Repr

/-- A read of a register of BAR0, of 8 bytes when `wide`, else of 4 (R9). -/
structure CounterRead where
  off : BitVec 24
  wide : Bool
deriving DecidableEq, Repr

/-- A period word's Wing, and what the Wing's Slates counted since the word before. -/
structure DispatchIn where
  w : Wing
  waits : List SlateWaits
deriving DecidableEq, Repr

/-- A read of SLT_DBG_DATA of a Classroom, served after `waited` cycles (R187). -/
structure DbgRead where
  u : Cr
  waited : Nat
deriving DecidableEq, Repr

/-- A value written to SLT_DBG_DATA, stored after `waited` cycles (R187). -/
structure DbgWrite where
  value : BitVec 64
  waited : Nat
deriving DecidableEq, Repr

/-- Where a query writes its record, and what the operation meets outside. -/
structure QueryIn where
  dst : BitVec 48
  x : Ext
deriving DecidableEq, Repr

/-- SPDM transports (R430): the PCI Express mailbox, and MCTP on the sideband at a 7-bit SMBus address (R481). -/
inductive Transport where
  | doe
  | mctp (address : BitVec 7)
deriving DecidableEq, Repr

/-- A PLDM sensor reading: the quantity in thousandths of its unit (leak: 0 dry, 1000 wet). -/
structure Reading where
  sensor : BitVec 8
  milli : Int
deriving DecidableEq, Repr

/-- A GetSensorReading that comes to an SMBus address, with what the sensor reads (R481). -/
structure SensorQuery where
  address : BitVec 7
  reading : Reading
deriving DecidableEq, Repr

/-- A message on the sideband to an SMBus address: a PLDM base command code, or an MCTP message type (R481). -/
structure SidebandIn where
  address : BitVec 7
  code : BitVec 8
deriving DecidableEq, Repr

/-- How an RBK_FW_APPLY goes (R442, R447): whether the accepted image starts, and the ms of integration that the restart loses. -/
structure RbkApply where
  starts : Bool
  lostMs : Nat
deriving DecidableEq, Repr

/-- One credit audit of a channel of a die-to-die link, `away` from the first die the link names (R453): the sender's credits and the running count of buffers freed that
the receiver answers with, as the cut finds them. The count of flits sent is the state's. -/
structure Audit where
  link : Fin 8
  away : Bool
  channel : Fin 4
  credits : Nat
  freed : BitVec 32
deriving DecidableEq, Repr

/-- A command of the block. -/
inductive Instr where
  /-- REGISTER_WRITE: a BAR0 write of 4 bytes, or 8 when `wide`. -/
  | registerWrite (off : BitVec 24) (wide : Bool) (value : BitVec 64)
  /-- REGISTER_ACCESS_ERROR: an access of a width or alignment R9 does not allow; `read` tells a read from a write. -/
  | registerAccessError (off : BitVec 24) (bytes : Nat) (read : Bool)
  /-- RC_COUNTER_READ: a read of a register; a 64-bit read of an RC register clears it. -/
  | rcCounterRead (r : CounterRead)
  /-- GLB_COMMIT: a 64-bit write of a group ID. -/
  | glbCommit (value : BitVec 64)
  /-- COMMIT_APPLIED: a pending group is at its safe point. -/
  | commitApplied (group : BitVec 3)
  | feed (u : Cr) (o : FeedOp)
  /-- SWAP_AFTER_LOAD: `waited` is the cycles the swap waited for the load. -/
  | swapAfterLoad (u : Cr) (waited : Nat)
  | planeParityCheck (u : Cr)
  | quant (u : Cr) (o : QuantOp)
  | expTile (u : Cr) (o : ExpTileOp)
  | expPlanes (u : Cr) (o : ExpPlanesOp)
  | expAct (u : Cr) (o : ExpActOp)
  | expBf16 (u : Cr) (o : ExpBf16Op)
  | expLoad (u : Cr) (o : ExpLoadOp)
  | expCbload (u : Cr) (o : ExpCbloadOp)
  | codebookRead (u : Cr)
  | locPack (u : Cr) (o : LocPackOp)
  | expQueueEntryFree (u : Cr)
  | expReaderPhaseStart (u : Cr)
  | expExpandPhaseStart (u : Cr)
  | expItemComplete (e : CrAt)
  | expItemDue (u : Cr)
  | backPlaneLoadComplete (e : CrAt)
  /-- WING_STEP_START: a start record arrives (R127): lesson table index, Roster buffer, step number. -/
  | wingStepStart (w : Wing) (r : StartRec)
  /-- PERIOD_WORD_DISPATCH. -/
  | periodWordDispatch (p : DispatchIn)
  | loop (w : Wing) (o : LoopOp)
  | call (w : Wing) (o : CallOp)
  | bellRing (w : Wing) (n : BitVec 6)
  | bellWait (w : Wing) (n : BitVec 6) (target : BitVec 16)
  | bellTimeout (w : Wing)
  /-- HOLD_REQUEST: a unit of Classroom `room` (none: of the Wing) would be late. -/
  | holdRequest (w : Wing) (cause : HoldCause) (room : Option Room)
  /-- TIMETABLE_RESUME: the Hold ends; `h` counts the clock cycles it held the counter. -/
  | timetableResume (w : Wing) (h : HeldCycles)
  | replayPoint (w : Wing)
  | checkPointWord (w : Wing)
  | checkVote (w : Wing)
  | checkPointVerdict
  | verdictReceived (w : Wing)
  | commitPointWord (w : Wing)
  | commitDecision
  | movCopy (m : MoverId) (o : MovCopyOp)
  | movItem (m : MoverId) (o : MovItemOp)
  | movPage (m : MoverId) (o : MovPageOp)
  /-- MOVER_TRANSFER_LAND: an entry of the Mover's transfers, oldest first, lands. -/
  | moverTransferLand (m : MoverId) (l : Landing)
  /-- MOVER_DUE_CHECK: the counter reads D - 4 for entry `i` of the Mover's transfers. -/
  | moverDueCheck (m : MoverId) (i : BitVec 4)
  | sltFill (u : Cr) (o : SltFillOp)
  | sltCopy (u : Cr) (o : SltCopyOp)
  | vecDrain (u : Cr) (o : VecDrainOp)
  | scaleCols (u : Cr) (o : VecApplyOp)
  | scaleRows (u : Cr) (o : VecApplyOp)
  | addRows (u : Cr) (o : VecApplyOp)
  | sumsq (u : Cr) (o : VecApplyOp)
  | normRows (u : Cr) (o : VecApplyOp)
  | siluMul (u : Cr) (o : VecApplyOp)
  | rotate (u : Cr) (o : VecApplyOp)
  | softmaxBlock (u : Cr) (o : VecApplyOp)
  | softmaxEnd (u : Cr) (o : VecApplyOp)
  | marginH (u : Cr) (o : VecApplyOp)
  | marginAdd (u : Cr) (o : VecApplyOp)
  | redTopk (u : Cr) (o : RedTopkOp)
  | redMaxsum (u : Cr) (o : RedMaxsumOp)
  /-- NARROW_STARVED: a request of Narrow port 0-2 reaches its sixteenth cycle of waiting. -/
  | narrowStarved (u : Cr) (port : Fin 3)
  /-- SLT_DBG_DATA_READ: a read of the 8-byte word. -/
  | sltDbgDataRead (r : DbgRead)
  /-- SLT_DBG_DATA_WRITE: a write of the whole 8-byte word. -/
  | sltDbgDataWrite (u : Cr) (v : DbgWrite)
  | sltDbgTimeout (u : Cr) (read : Bool)
  | libScrubRead (w : Wing)
  /-- BAR2_READ: `bytes` bytes at BAR2 offset `off`. -/
  | bar2Read (off : BitVec 32) (bytes : Nat)
  | bar2Write (off : BitVec 32) (data : List Byte)
  /-- HBM_SCRUB_READ: pseudo-channel `pc` of a stack reads its next sector. -/
  | hbmScrubRead (stack : Fin 32) (pc : Fin 64)
  | memBudgetWindow (stack : Fin 32)
  /-- TIER_MOVE_REQUEST: the engine takes the oldest request it has not begun. -/
  | tierMoveRequest
  /-- TIER_MOVE_UNIT_DONE: the next unit of the oldest request in progress finishes. -/
  | tierMoveUnitDone (x : Ext)
  | trayFlush
  | rosterBuild (x : Ext)
  /-- STEP_START at `us` microseconds since reset. -/
  | stepStart (us : Nat)
  /-- MS_TICK: the count the crossing carries. -/
  | msTick (n : Nat)
  | pauseExpiryCheck
  | chunkRepair (x : Ext)
  | nop (d : Desc)
  | ringCreate (d : Desc) (o : RingCreateOp)
  | ringDestroy (d : Desc) (kind : BitVec 2)
  | ringReset (d : Desc)
  | hostWindow (d : Desc) (o : HostWindowOp)
  | tenantQuota (d : Desc) (o : QuotaOp)
  | tenantRules (d : Desc) (weight : BitVec 8)
  | stopsetWrite (d : Desc) (src : BitVec 48) (x : Ext)
  | lessonInstall (d : Desc) (o : LessonInstallOp) (x : Ext)
  | lessonRemove (d : Desc) (wings : BitVec 4)
  | memClass (d : Desc) (o : MemClassOp)
  | kvPool (d : Desc) (o : KvPoolOp)
  | memCopy (d : Desc) (o : MemCopyOp) (x : Ext)
  | modelLoad (d : Desc) (o : ModelLoadOp) (x : Ext)
  | modelUnload (d : Desc)
  | modelGolden (d : Desc) (golden golden2 : BitVec 48)
  | modelQuery (d : Desc) (q : QueryIn)
  | msetInstall (d : Desc) (o : MsetInstallOp) (x : Ext)
  | msetRemove (d : Desc) (set : BitVec 16)
  | msetQuery (d : Desc) (q : QueryIn)
  | sessionOpen (d : Desc) (o : SessionOpenOp)
  | turn (d : Desc) (o : TurnOp) (x : Ext)
  | abortTurn (d : Desc)
  | pause (d : Desc) (o : PauseOp)
  | resume (d : Desc)
  | sessionEnd (d : Desc)
  | sessionRewind (d : Desc) (count : BitVec 32)
  | sessionQuery (d : Desc) (q : QueryIn)
  | undefinedOpcode (d : Desc) (opcode : BitVec 8)
  | fwQuery (d : Desc) (q : QueryIn)
  | fwStage (d : Desc) (o : StageOp) (x : Ext)
  | fwActivate (d : Desc) (bank : Bool)
  | fwCommit (d : Desc) (kind : BitVec 8)
  | rbkFwStage (d : Desc) (o : StageOp) (x : Ext)
  | ownerEnroll (d : Desc) (src : BitVec 48) (x : Ext)
  | configWrite (d : Desc) (src : BitVec 48) (x : Ext)
  | permitInstall (d : Desc) (src : BitVec 48) (x : Ext)
  | permitRevoke (d : Desc)
  | permitExpiry
  | hmPoll (p : PollIn)
  | msixModerationCheck
  | telemetrySample
  | heartbeatWrite
  | hifEnable
  | busMasterEnableChange (on : Bool)
  | d3hotEntry
  | d0Entry
  | fullReset (r : ResetSource)
  | corridorWrite (p : Packet)
  | corridorReadReq (p : Packet)
  | corridorReadResp (p : Packet)
  | corridorAsm (p : Packet)
  | corridorAck (p : Packet)
  | corridorNak (p : Packet)
  | foreignFrame (port : Fin 16)
  | ackTimer (ctx : BitVec 12)
  | rtoExpiry (ctx : BitVec 12)
  | rateUpdate (ctx : BitVec 12)
  | injectDelayExpiry (ctx : BitVec 12)
  /-- PFC_PAUSE_RECEIVED: the pause holds, or with `on` false ends. -/
  | pfcPauseReceived (port : Fin 16) (on : Bool)
  | portLinkDown (port : Fin 16)
  | portLinkUp (port : Fin 16)
  /-- CDC_REALIGN of a port's crossing, or of the Rollbook's (none), with the entries the surviving side lost. -/
  | cdcRealign (port : Option (Fin 16)) (dropped : Nat)
  | ctxWrite
  | ctxRead
  | ctxFree
  | asmGroupEnable (g : Fin 16)
  | asmGroupDisable (g : Fin 16)
  | barrier (g : Fin 16)
  | sumI32 (g : Fin 16)
  | sumF32 (g : Fin 16)
  | sumBf16 (g : Fin 16)
  | topk (g : Fin 16)
  | bcast (g : Fin 16)
  | asmComplete (g : Fin 16)
  | mainInputValid
  | mainInputLoss
  | standbyLoss
  | thermalTrip (die : Fin 5)
  | dawnBoot (b : BootIn)
  | morningBringup (m : MorningIn)
  | rollbookInfoTimeout
  | readySet
  | targetDay
  | targetNight
  | duskDrainComplete
  | duskTimeout
  /-- RECESS_ENTRY: the Classroom has been idle for `us` microseconds. -/
  | recessEntry (u : Cr) (us : Nat)
  | holidayEntry (u : Cr) (ms : Nat)
  | powerSample (p : PowerIn)
  | droopTrip (u : Cr)
  /-- DROOP_RELEASE: stretched cycles of the whole stretch, and since every sensor has been clear. -/
  | droopRelease (w : Wing) (total clear : Nat)
  | spdmGetVersion (t : Transport)
  | spdmGetCapabilities (t : Transport)
  /-- The asymmetric and hash algorithms offered include P-256 and SHA-256. -/
  | spdmNegotiateAlgorithms (t : Transport) (p256 sha256 : Bool)
  | spdmGetDigests (t : Transport)
  | spdmGetCertificate (t : Transport) (slot : BitVec 8) (offset length : BitVec 16)
  | spdmChallenge (t : Transport) (slot : BitVec 8) (nonce : BitVec 256)
  /-- Index 0: the number of blocks; 1-254: that block; 255: all. -/
  | spdmGetMeasurements (t : Transport) (index : BitVec 8) (signed : Bool) (slot : BitVec 8) (nonce : BitVec 256)
  | spdmUnsupported (t : Transport) (code : BitVec 8)
  | pldmGetSensorReading (q : SensorQuery)
  | pldmBaseCommand (m : SidebandIn)
  | mctpUnsupportedType (m : SidebandIn)
  | sensorThresholdChange (r : Reading)
  | tallyMessage (m : List Byte)
  /-- ENERGY_SAMPLE: the input in mV and mA as the calibrated channels read it. -/
  | energySample (mv ma : Nat)
  | energyJournal
  | rbkReport
  | rbkReadLog
  | rbkGetCert
  | rbkInfo
  | rbkCmdTimeout
  | rbkFwApply (a : RbkApply)
  | rbkWatchdog (lostMs : Nat)
  | headerConnect
  | rbkReseal (signed : Bool)
  | rbkCalibration (record : List Byte) (signed : Bool)
  | rbkLogPoll (answered : Bool)
  | linkCreditAudit (a : Audit)
  /-- FLIT_RESEND: `n` consecutive resends of the flit have now failed or been made. -/
  | flitResend (link : Fin 8) (n : Nat)
  | stackTrainingLoss (stack : Fin 32)
  | stepWatchdog
  | bucketRebuild
  | standbyPowerOn
  | perstDeassert
  | dieToDieLinkDown (link : Fin 8) (us : Nat)
  /-- MSIX_VECTOR_UNMASK: an access to BAR4. -/
  | msixVectorUnmask (a : Bar4In)
  | classChangeDone
  | memCopyDone
deriving DecidableEq, Repr

end Sys2Proof
end

