-- ==== Sys2Proof/Machine/Sparse.lean ====
section
/-! DEFINITION. Reading and writing sparse tables and byte memories. A table lists only what differs from its default,
so equal tables are equal data. -/

namespace Sys2Proof.Machine

open Sys2Proof

/-- The entry at key `k`; `d` gives what an unlisted key holds. -/
def Sparse.get {α : Type} (d : Nat → α) : Sparse α → Nat → α
  | [], k => d k
  | (j, v) :: m, k => if k = j then v else Sparse.get d m k

/-- Every listed entry but that of key `k`. -/
def Sparse.erase {α : Type} (m : Sparse α) (k : Nat) : Sparse α := m.filter (fun e => e.1 != k)

/-- List `v` at key `k`, keeping the keys in rising order. -/
def Sparse.put {α : Type} : Sparse α → Nat → α → Sparse α
  | [], k, v => [(k, v)]
  | (j, u) :: m, k, v =>
    if k < j then (k, v) :: (j, u) :: m
    else if k = j then (k, v) :: m
    else (j, u) :: Sparse.put m k v

/-- Write `v` at key `k`: an entry equal to the default is not listed. -/
def Sparse.set {α : Type} [DecidableEq α] (d : Nat → α) (m : Sparse α) (k : Nat) (v : α) : Sparse α :=
  if v = d k then Sparse.erase m k else Sparse.put m k v

/-- The canonical form: keys strictly rising, no entry equal to its default. -/
abbrev Sparse.wf {α : Type} (d : Nat → α) (m : Sparse α) : Prop :=
  m.Pairwise (fun a b => a.1 < b.1) ∧ ∀ e ∈ m, e.2 ≠ d e.1

/-- What an unlisted byte of any memory reads as: 0. The on-chip memories are written with zeros at reset (R186);
for HBM and host memory the spec states no contents after power-on and this is the model's choice (DESIGN CHOICE, log entry 2). -/
def Memory.unlisted (_ : Nat) : Byte := 0

/-- One byte of a memory. -/
def Memory.read (m : Memory) (a : Nat) : Byte := Sparse.get Memory.unlisted m a

/-- Write one byte of a memory. -/
def Memory.write (m : Memory) (a : Nat) (b : Byte) : Memory := Sparse.set Memory.unlisted m a b

/-- `n` consecutive bytes from address `a`. -/
def Memory.readN (m : Memory) (a n : Nat) : List Byte := (List.range n).map (fun i => Memory.read m (a + i))

/-- Write consecutive bytes from address `a`. -/
def Memory.writeN : Memory → Nat → List Byte → Memory
  | m, _, [] => m
  | m, a, b :: bs => Memory.writeN (Memory.write m a b) (a + 1) bs

/-- The canonical form of a memory. -/
abbrev Memory.wf (m : Memory) : Prop := Sparse.wf Memory.unlisted m

/-- A table of marks (error marks, poison marks, trouble bits): unmarked by default. -/
def unmarked (_ : Nat) : Bool := false

/-- Whether key `k` is marked. -/
def marked (m : Sparse Bool) (k : Nat) : Bool := Sparse.get unmarked m k

/-- Mark or unmark key `k`. -/
def setMark (m : Sparse Bool) (k : Nat) (b : Bool) : Sparse Bool := Sparse.set unmarked m k b

end Sys2Proof.Machine
end

