-- ==== Sys2Proof/Machine/Bits.lean ====
section
/-! DEFINITION. Bit fields, byte order, and the integer helpers of the spec's pseudocode (00_scope.md, R6, R7 and
"Pseudocode"). -/

namespace Sys2Proof.Machine

open Sys2Proof

/-- Bits `[lo + w - 1 : lo]` of `x` (R6). -/
def field (x lo w : Nat) : Nat := (x >>> lo) % 2 ^ w

/-- `x` with bits `[lo + w - 1 : lo]` replaced by the low `w` bits of `v`. -/
def setField (x lo w v : Nat) : Nat := x - field x lo w * 2 ^ lo + (v % 2 ^ w) * 2 ^ lo

/-- One bit of `x`. -/
def bit (x i : Nat) : Bool := field x i 1 = 1

/-- A Boolean as the number of a one-bit field. -/
def b2n (b : Bool) : Nat := if b then 1 else 0

/-- The signed value of the low `w` bits (two's complement). -/
def signed (w x : Nat) : Int :=
  if x % 2 ^ w < 2 ^ (w - 1) then (x % 2 ^ w : Nat) else (x % 2 ^ w : Nat) - (2 ^ w : Nat)

/-- The low `w` bits of an integer, as a number: assigning an integer to a `uN` (00_scope.md, Pseudocode). -/
def unsigned (w : Nat) (i : Int) : Nat := (i % (2 ^ w : Nat)).toNat

/-- `sat_sym(q, m)`: clamp to -m .. +m. -/
def satSym (q : Int) (m : Nat) : Int := if q > m then m else if q < -(m : Int) then -(m : Int) else q

/-- `sat(x, 32)` for a signed 32-bit target. -/
def satS32 (x : Int) : Int :=
  if x > 2147483647 then 2147483647 else if x < -2147483648 then -2147483648 else x

/-- Whether an integer lies in the signed 32-bit range. -/
def inS32 (x : Int) : Bool := decide (-2147483648 ≤ x ∧ x ≤ 2147483647)

/-- `ceil(a / b)`. -/
def ceilDiv (a b : Nat) : Nat := (a + b - 1) / b

/-- The number whose little-endian bytes are given (R6). -/
def leNat : List Byte → Nat
  | [] => 0
  | b :: bs => b.toNat + 256 * leNat bs

/-- The `n` little-endian bytes of a number (R6). -/
def leBytes : Nat → Nat → List Byte
  | 0, _ => []
  | n + 1, v => BitVec.ofNat 8 v :: leBytes n (v / 256)

/-- The number in `n` little-endian bytes at address `a`. -/
def Memory.readLE (m : Memory) (a n : Nat) : Nat := leNat (Memory.readN m a n)

/-- Write a number as `n` little-endian bytes at address `a`. -/
def Memory.writeLE (m : Memory) (a n v : Nat) : Memory := Memory.writeN m a (leBytes n v)

/-- Round a quotient `m / 2^k` to nearest, ties to even. -/
def rneShift (m k : Nat) : Nat :=
  let q := m >>> k
  let r := m % 2 ^ k
  if k = 0 then m
  else if r > 2 ^ (k - 1) ∨ (r = 2 ^ (k - 1) ∧ q % 2 = 1) then q + 1 else q

/-- Round an exact integer quotient `x / 2^k` to nearest, ties to even, with its sign. -/
def rneShiftInt (x : Int) (k : Nat) : Int :=
  if x < 0 then -(rneShift x.natAbs k : Nat) else (rneShift x.natAbs k : Nat)

/-- A list with repeats left out, each value at its last place. -/
def uniq (l : List Nat) : List Nat := l.foldr (fun x acc => if acc.contains x then acc else x :: acc) []

/-- The first of the `n` numbers from `k` that satisfies `p`. -/
def firstFrom (p : Nat → Bool) : Nat → Nat → Option Nat
  | 0, _ => none
  | n + 1, k => if p k then some k else firstFrom p n (k + 1)

/-- The first number below `n` that satisfies `p`. -/
def firstIdx (n : Nat) (p : Nat → Bool) : Option Nat := firstFrom p n 0

/-- Sum of a function over 0 .. n-1. -/
def sumN (n : Nat) (f : Nat → Nat) : Nat := (List.range n).foldl (fun acc i => acc + f i) 0

/-- Integer sum of a function over 0 .. n-1. -/
def sumZ (n : Nat) (f : Nat → Int) : Int := (List.range n).foldl (fun acc i => acc + f i) 0

/-- How many of 0 .. n-1 satisfy `p`. -/
def countN (n : Nat) (p : Nat → Bool) : Nat := ((List.range n).filter p).length

/-- Put `a` before the first entry it comes before. -/
def insertBy {α : Type} (le : α → α → Bool) (a : α) : List α → List α
  | [] => [a]
  | b :: bs => if le a b then a :: b :: bs else b :: insertBy le a bs

/-- A list in the order `le`; entries that the order does not tell apart keep their places. -/
def sortBy {α : Type} (le : α → α → Bool) : List α → List α
  | [] => []
  | a :: l => insertBy le a (sortBy le l)

end Sys2Proof.Machine
end

