-- ==== Sys2Proof/Machine/Operands.lean ====
section
/-! DEFINITION. Slot operations as a period word carries them: their operand bits (R133, R134), range checks, busy cycles,
and the reading of a whole word with its extension slots (R129, R133, R137). -/

namespace Sys2Proof.Machine

open Sys2Proof

/-! ### Ranges (R134, R137) -/

/-- A Slate address in 512-byte units lies within its unit. -/
def slate512 (a : Nat) : Bool := decide (a ≤ 1535)
/-- A Slate address in 64-byte units lies within its unit. -/
def slate64 (a : Nat) : Bool := decide (a ≤ 12287)
/-- A Slate address in 32-byte units lies within its unit. -/
def slate32 (a : Nat) : Bool := decide (a ≤ 24575)
/-- A Slate address in 16-byte units lies within its unit. -/
def slate16 (a : Nat) : Bool := decide (a ≤ 49151)
/-- A Slate address in 2-byte units lies within its unit. -/
def slate2 (a : Nat) : Bool := decide (a ≤ 393215)

/-- The fields of a slot operation lie in their ranges and hold no reserved code (R134). LOC_PACK's BLOCKS is 1-64 (R115),
QUANT's block lies within 512 columns (R66), an EXP_LOAD's mode and plane count pair as R106 gives, and a Roster LOOP names a
count table entry by its low six bits (R140). -/
def opInRange : SlotOp → Bool
  | .feed o => decide (o.groups ≠ 3#2) && slate512 o.slate.toNat
  | .expTile o => slate32 o.src.toNat
  | .expPlanes o => slate32 o.src.toNat && decide (o.g ≠ 3#2)
  | .expAct o => slate32 o.src.toNat && slate64 o.dst.toNat
  | .expBf16 o => slate32 o.src.toNat && slate32 o.side.toNat && slate64 o.dst.toNat
  | .expLoad o =>
    decide (o.mode ≠ 3#2) &&
    (if o.mode = 2#2 then decide (1 ≤ o.p.toNat ∧ o.p.toNat ≤ 8) else decide (o.p = 0#4))
  | .expCbload o => slate32 o.src.toNat
  | .locPack o => slate512 o.src.toNat && slate32 o.dst.toNat && decide (1 ≤ o.blocks.toNat ∧ o.blocks.toNat ≤ 64)
  | .vecDrain o => slate2 o.scales.toNat
  | .vecApply _ o => slate16 o.arg.toNat
  | .quant o =>
    slate16 o.param.toNat && slate64 o.out.toNat && slate2 o.scales.toNat &&
    decide (o.accCol.toNat + o.len.toNat + 1 ≤ 512)
  | .redTopk o => slate32 o.src.toNat && slate32 o.dst.toNat
  | .redMaxsum o => slate32 o.src.toNat && slate32 o.dst.toNat
  | .movCopy o => slate32 o.slate.toNat && decide (o.cls ≠ 3#2)
  | .movItem o => slate32 o.slate.toNat
  | .movPage o => slate32 o.slate.toNat && decide (o.part ≠ 3#2)
  | .sltFill o => slate32 o.dst.toNat
  | .sltCopy o => slate32 o.src.toNat && slate32 o.dst.toNat
  | .loop o => decide (o.body ≠ 0#16) && (!o.roster || decide (o.count.toNat < 64))
  | .call _ => true

/-- Timetable cycles a slot operation keeps its unit's port busy (R134). -/
def opBusy : SlotOp → Nat
  | .feed o => o.count.toNat + 1
  | .locPack o => 24 * o.blocks.toNat + 4
  | .vecDrain o => 8 * (o.ntok.toNat + 1)
  | .vecApply _ o => 8 * (o.ntok.toNat + 1)
  | .quant o => (o.blocks.toNat + 1) * ceilDiv (o.len.toNat + 1) 64
  | .redTopk o => 32 * (o.nblk.toNat + 1) + 16
  | .redMaxsum o => 32 * (o.nblk.toNat + 1) + 16
  | .sltFill o => ceilDiv (o.len.toNat + 1) 8
  | .sltCopy o => ceilDiv (o.len.toNat + 1) 4
  | _ => 1

/-! ### Operand bits (R134) -/

/-- The VEC_APPLY function codes. -/
def vecCode : VecFunc → Nat
  | .scaleCols => 1 | .scaleRows => 2 | .addRows => 3 | .sumsq => 4 | .normRows => 5 | .siluMul => 6 | .rotate => 7
  | .softmaxBlock => 8 | .softmaxEnd => 9 | .marginH => 10 | .marginAdd => 11

/-- The function a code names; reserved codes name none. -/
def vecFunc (c : Nat) : Option VecFunc :=
  match c with
  | 1 => some .scaleCols | 2 => some .scaleRows | 3 => some .addRows | 4 => some .sumsq | 5 => some .normRows
  | 6 => some .siluMul | 7 => some .rotate | 8 => some .softmaxBlock | 9 => some .softmaxEnd | 10 => some .marginH
  | 11 => some .marginAdd | _ => none

/-- The local unit, opcode and operand bits of a slot operation; Movers are given as unit 5, and the Sequencer as 0x40. -/
def opCode : SlotOp → Nat × Nat
  | .feed _ => (0, 1) | .expTile _ => (1, 1) | .expPlanes _ => (1, 2) | .expAct _ => (1, 3) | .expBf16 _ => (1, 4)
  | .expLoad _ => (1, 5) | .expCbload _ => (1, 6) | .vecDrain _ => (2, 1) | .vecApply _ _ => (2, 2) | .quant _ => (2, 3)
  | .redTopk _ => (3, 1) | .redMaxsum _ => (3, 2) | .locPack _ => (4, 1) | .movCopy _ => (5, 1) | .movItem _ => (5, 2)
  | .movPage _ => (5, 3) | .sltFill _ => (7, 1) | .sltCopy _ => (7, 2) | .loop _ => (0x40, 1) | .call _ => (0x40, 2)

/-- The operand bits of a slot operation, reserved bits 0 (R134). -/
def opBits : SlotOp → Nat
  | .feed o => b2n o.swap + o.count.toNat * 2 ^ 1 + o.slate.toNat * 2 ^ 10 + o.token.toNat * 2 ^ 21 + b2n o.acc * 2 ^ 30 +
      o.groups.toNat * 2 ^ 31
  | .expTile o => o.src.toNat + o.cb.toNat * 2 ^ 15 + o.budget.toNat * 2 ^ 20
  | .expPlanes o => o.src.toNat + o.p.toNat * 2 ^ 15 + o.g.toNat * 2 ^ 18 + o.count.toNat * 2 ^ 20
  | .expAct o => o.src.toNat + o.dst.toNat * 2 ^ 15 + o.budget.toNat * 2 ^ 29
  | .expBf16 o => o.src.toNat + o.side.toNat * 2 ^ 15 + o.dst.toNat * 2 ^ 30 + o.count.toNat * 2 ^ 44
  | .expLoad o => o.mode.toNat + o.p.toNat * 2 ^ 2 + b2n o.selbuf * 2 ^ 6
  | .expCbload o => o.slot.toNat + o.src.toNat * 2 ^ 4
  | .locPack o => o.src.toNat + o.dst.toNat * 2 ^ 11 + o.blocks.toNat * 2 ^ 26
  | .vecDrain o => o.token.toNat + o.ntok.toNat * 2 ^ 9 + o.scales.toNat * 2 ^ 18 + b2n o.fold * 2 ^ 37
  | .vecApply f o => vecCode f + o.token.toNat * 2 ^ 6 + o.ntok.toNat * 2 ^ 15 + o.arg.toNat * 2 ^ 24
  | .quant o => o.param.toNat + o.out.toNat * 2 ^ 16 + o.blocks.toNat * 2 ^ 30 + o.len.toNat * 2 ^ 39 +
      o.scales.toNat * 2 ^ 48 + o.log.toNat * 2 ^ 67 + o.accToken.toNat * 2 ^ 96 + o.accCol.toNat * 2 ^ 105
  | .redTopk o => o.src.toNat + o.nblk.toNat * 2 ^ 15 + o.k.toNat * 2 ^ 22 + o.dst.toNat * 2 ^ 28
  | .redMaxsum o => o.src.toNat + o.nblk.toNat * 2 ^ 15 + o.dst.toNat * 2 ^ 22
  | .movCopy o => o.slate.toNat + b2n o.out * 2 ^ 15 + o.len.toNat * 2 ^ 16 + o.due.toNat * 2 ^ 29 + o.hint.toNat * 2 ^ 45 +
      o.addr.toNat * 2 ^ 48 + o.cls.toNat * 2 ^ 91 + o.base.toNat * 2 ^ 93
  | .movItem o => o.slate.toNat + o.due.toNat * 2 ^ 15 + o.hint.toNat * 2 ^ 31 + o.index.toNat * 2 ^ 48 +
      o.model.toNat * 2 ^ 72
  | .movPage o => o.slate.toNat + o.due.toNat * 2 ^ 15 + o.part.toNat * 2 ^ 31 + o.entry.toNat * 2 ^ 48
  | .sltFill o => o.dst.toNat + o.len.toNat * 2 ^ 15 + o.value.toNat * 2 ^ 28
  | .sltCopy o => o.src.toNat + o.dst.toNat * 2 ^ 15 + o.len.toNat * 2 ^ 30
  | .loop o => b2n o.roster + o.count.toNat * 2 ^ 1 + o.body.toNat * 2 ^ 17
  | .call o => o.lesson.toNat

/-- The slots an operation takes, EXT_WIDE slots included (R133, R134). -/
def opSlots : SlotOp → Nat
  | .quant _ => 3 | .movCopy _ => 2 | .movItem _ => 2 | .movPage _ => 2 | _ => 1

/-- Operand bits `[lo + w - 1 : lo]`. -/
def opf (x lo w : Nat) : BitVec w := BitVec.ofNat w (x / 2 ^ lo)

/-- One operand bit. -/
def opb (x lo : Nat) : Bool := decide (x / 2 ^ lo % 2 = 1)

/-- What a slot's unit and opcode name (R134). -/
inductive OpRead where
  | op (o : SlotOp)
  | badOpcode
  | badArg
deriving DecidableEq, Repr

/-- Read the operation of local unit `u` (0x40: the Sequencer) with an opcode and operand bits (R134). -/
def decodeOp (u opc x : Nat) : OpRead :=
  match u, opc with
  | 0, 1 => .op (.feed { swap := opb x 0, count := opf x 1 9, slate := opf x 10 11, token := opf x 21 9, acc := opb x 30,
                         groups := opf x 31 2 })
  | 1, 1 => .op (.expTile { src := opf x 0 15, cb := opf x 15 5, budget := opf x 20 9 })
  | 1, 2 => .op (.expPlanes { src := opf x 0 15, p := opf x 15 3, g := opf x 18 2, count := opf x 20 9 })
  | 1, 3 => .op (.expAct { src := opf x 0 15, dst := opf x 15 14, budget := opf x 29 9 })
  | 1, 4 => .op (.expBf16 { src := opf x 0 15, side := opf x 15 15, dst := opf x 30 14, count := opf x 44 4 })
  | 1, 5 => .op (.expLoad { mode := opf x 0 2, p := opf x 2 4, selbuf := opb x 6 })
  | 1, 6 => .op (.expCbload { slot := opf x 0 4, src := opf x 4 15 })
  | 2, 1 => .op (.vecDrain { token := opf x 0 9, ntok := opf x 9 9, scales := opf x 18 19, fold := opb x 37 })
  | 2, 2 =>
    match vecFunc (x % 64) with
    | some f => .op (.vecApply f { token := opf x 6 9, ntok := opf x 15 9, arg := opf x 24 16 })
    | none => .badArg
  | 2, 3 => .op (.quant { param := opf x 0 16, out := opf x 16 14, blocks := opf x 30 9, len := opf x 39 9, scales := opf x 48 19,
                          log := opf x 67 27, accToken := opf x 96 9, accCol := opf x 105 9 })
  | 3, 1 => .op (.redTopk { src := opf x 0 15, nblk := opf x 15 7, k := opf x 22 6, dst := opf x 28 15 })
  | 3, 2 => .op (.redMaxsum { src := opf x 0 15, nblk := opf x 15 7, dst := opf x 22 15 })
  | 4, 1 => .op (.locPack { src := opf x 0 11, dst := opf x 11 15, blocks := opf x 26 7 })
  | 5, 1 => .op (.movCopy { slate := opf x 0 15, out := opb x 15, len := opf x 16 13, due := opf x 29 16, hint := opf x 45 2,
                            addr := opf x 48 43, cls := opf x 91 2, base := opf x 93 3 })
  | 5, 2 => .op (.movItem { slate := opf x 0 15, due := opf x 15 16, hint := opf x 31 2, index := opf x 48 24,
                            model := opf x 72 6 })
  | 5, 3 => .op (.movPage { slate := opf x 0 15, due := opf x 15 16, part := opf x 31 2, entry := opf x 48 20 })
  | 7, 1 => .op (.sltFill { dst := opf x 0 15, len := opf x 15 13, value := opf x 28 16 })
  | 7, 2 => .op (.sltCopy { src := opf x 0 15, dst := opf x 15 15, len := opf x 30 13 })
  | 0x40, 1 => .op (.loop { roster := opb x 0, count := opf x 1 16, body := opf x 17 16 })
  | 0x40, 2 => .op (.call { lesson := opf x 0 8 })
  | _, _ => .badOpcode

/-! ### Period words (R129, R133) -/

/-- An EXT_INDEX slot. -/
structure IndexExt where
  lo : Nat
  w : Nat
  level : Nat
  stride : Int
deriving DecidableEq, Repr

/-- A slot op of a word before its fields are read: UNIT, opcode, operand bits, how many it carries, and its index slots. -/
structure RawOp where
  unit : Nat
  opc : Nat
  bits : Nat
  nbits : Nat
  ixs : List IndexExt
deriving DecidableEq, Repr

/-- A period word: header fields and slot ops in slot order (R129). -/
structure PeriodWord where
  delta : Nat
  replay : Bool
  check : Bool
  commit : Bool
  bell : Bool
  bellWait : Bool
  bellNum : Nat
  bellTarget : Nat
  ops : List RawOp
deriving DecidableEq, Repr

/-- Join one slot to the operations read so far, newest first (R133). -/
def joinSlot (acc : List RawOp) (v : Nat) : List RawOp :=
  let unit := v % 128
  let opc := v / 128 % 512
  let b := v / 65536
  match unit, opc, acc with
  | 0x7F, 0, r :: rs => { r with bits := r.bits + b * 2 ^ r.nbits, nbits := r.nbits + 48 } :: rs
  | 0x7F, 1, r :: rs =>
    { r with ixs := r.ixs ++ [{ lo := field b 0 8, w := field b 8 5, level := field b 13 3, stride := signed 16 (field b 16 16) }] } :: rs
  | _, _, _ => { unit := unit, opc := opc, bits := b, nbits := 48, ixs := [] } :: acc

/-- Read the 128 bytes of a period word. -/
def readWord (bs : List Byte) : PeriodWord :=
  let h := leNat (bs.take 8)
  let n := field h 16 4
  let slots := (List.range n).map (fun s => leNat ((bs.drop (8 * (s + 1))).take 8))
  { delta := field h 0 16, replay := bit h 20, check := bit h 21, commit := bit h 22, bell := bit h 23, bellWait := bit h 24,
    bellNum := field h 25 6, bellTarget := field h 32 16, ops := (slots.foldl joinSlot []).reverse }

/-- The local unit a UNIT names (Mover 1 reads as Mover 0's operations) and the Classrooms it addresses: one, or all eight for a
broadcast (R133); none when the UNIT is reserved. The Sequencer is 0x40 with no Classroom. -/
def unitTargets (unit : Nat) : Option (Nat × List Room) :=
  if h : unit < 64 then some (unit % 8, [⟨unit / 8, by omega⟩])
  else if unit = 0x40 then some (0x40, [])
  else if 0x48 ≤ unit ∧ unit ≤ 0x4F then some (unit - 0x48, List.finRange 8)
  else none

/-- The local unit as decodeOp names it. -/
def opUnit (u : Nat) : Nat := if u = 6 then 5 else u

/-- The Slate address fields of an operation: first bit, width and address range (R134, R137). -/
def slateFields (u opc : Nat) : List (Nat × Nat × Nat) :=
  match u, opc with
  | 0, 1 => [(10, 11, 1536)]
  | 1, 1 => [(0, 15, 24576)]
  | 1, 2 => [(0, 15, 24576)]
  | 1, 3 => [(0, 15, 24576), (15, 14, 12288)]
  | 1, 4 => [(0, 15, 24576), (15, 15, 24576), (30, 14, 12288)]
  | 1, 6 => [(4, 15, 24576)]
  | 2, 1 => [(18, 19, 393216)]
  | 2, 2 => [(24, 16, 49152)]
  | 2, 3 => [(0, 16, 49152), (16, 14, 12288), (48, 19, 393216)]
  | 3, 1 => [(0, 15, 24576), (28, 15, 24576)]
  | 3, 2 => [(0, 15, 24576), (22, 15, 24576)]
  | 4, 1 => [(0, 11, 1536), (11, 15, 24576)]
  | 5, 1 => [(0, 15, 24576)]
  | 5, 2 => [(0, 15, 24576)]
  | 5, 3 => [(0, 15, 24576)]
  | 7, 1 => [(0, 15, 24576)]
  | 7, 2 => [(0, 15, 24576), (15, 15, 24576)]
  | _, _ => []

/-- Apply one EXT_INDEX with the iterations of the active loops, innermost first: none when no loop is active at its level or its span
leaves the operand bits (R137). -/
def applyIndex (r : RawOp) (fields : List (Nat × Nat × Nat)) (iters : List Nat) (x : IndexExt) : Option RawOp :=
  match iters[x.level]? with
  | none => none
  | some i =>
    if x.w = 0 ∨ x.lo + x.w > r.nbits then none
    else
      let v : Int := (field r.bits x.lo x.w : Nat) + x.stride * i
      let m : Nat := match fields.find? (fun f => f.1 = x.lo ∧ f.2.1 = x.w) with
        | some f => f.2.2
        | none => 2 ^ x.w
      some { r with bits := setField r.bits x.lo x.w (Int.emod v (Int.ofNat m)).toNat }

/-- Apply every EXT_INDEX of an operation, in slot order (R137). -/
def applyIndexes (r : RawOp) (iters : List Nat) : Option RawOp :=
  let fs := match unitTargets r.unit with
    | some (u, _) => slateFields (opUnit u) r.opc
    | none => []
  r.ixs.foldl (fun acc x => acc.bind (fun r => applyIndex r fs iters x)) (some r)

/-- Read a slot op: its targets and its operation (R133, R134, R137). An extension that follows no operation, an operation short of its
EXT_WIDE slots and an index slot that fails are bad arguments, and so is a result that sets a reserved operand bit. -/
def readOp (r : RawOp) (iters : List Nat) : OpRead :=
  match unitTargets r.unit with
  | none => if r.unit = 0x7F ∧ r.opc ≤ 1 then .badArg else .badOpcode
  | some (u, _) =>
    match applyIndexes r iters with
    | none => match decodeOp (opUnit u) r.opc r.bits with
      | .badOpcode => .badOpcode
      | _ => .badArg
    | some r =>
      match decodeOp (opUnit u) r.opc r.bits with
      | .op o => if 48 * opSlots o ≤ r.nbits ∧ (r.ixs = [] ∨ opBits o = r.bits) then .op o else .badArg
      | x => x

end Sys2Proof.Machine
end

