-- ==== Sys2Proof/Machine/Descriptor.lean ====
section
/-! DEFINITION. Descriptors as bytes: the header and every opcode's operands (R323, R326, R327-R334, R423), written and read. -/

namespace Sys2Proof.Machine

open Sys2Proof

/-- An operation without what its reads met: what a ring's 64 bytes can say of it. -/
def opPlain : DescOp → DescOp
  | .stopsetWrite a _ => .stopsetWrite a Ext.none
  | .lessonInstall o _ => .lessonInstall o Ext.none
  | .memCopy o _ => .memCopy o Ext.none
  | .modelLoad o _ => .modelLoad o Ext.none
  | .modelQuery a _ => .modelQuery a Ext.none
  | .msetInstall o _ => .msetInstall o Ext.none
  | .msetQuery a _ => .msetQuery a Ext.none
  | .turn o _ => .turn o Ext.none
  | .sessionQuery a _ => .sessionQuery a Ext.none
  | .fwQuery a _ => .fwQuery a Ext.none
  | .fwStage o _ => .fwStage o Ext.none
  | .rbkFwStage o _ => .rbkFwStage o Ext.none
  | .ownerEnroll a _ => .ownerEnroll a Ext.none
  | .configWrite a _ => .configWrite a Ext.none
  | .permitInstall a _ => .permitInstall a Ext.none
  | op => op

/-- Bytes 16-63 of an operation's descriptor as a number, reserved bits 0 (R327-R334, R423). -/
def operandBits : DescOp → Nat
  | .nop => 0
  | .ringCreate o => o.base.toNat + o.kind.toNat * 2 ^ 64 + o.log2.toNat * 2 ^ 72 + b2n o.priv * 2 ^ 80 + b2n o.pasidEn * 2 ^ 81 + o.pasid.toNat * 2 ^ 96 +
      o.tenant.toNat * 2 ^ 116 + o.cq.toNat * 2 ^ 128 + o.vector.toNat * 2 ^ 144 + o.modCount.toNat * 2 ^ 160 + o.modUs.toNat * 2 ^ 176 +
      o.batchK.toNat * 2 ^ 192
  | .ringDestroy kind => kind.toNat
  | .ringReset => 0
  | .hostWindow o => o.pasid.toNat + o.tenant.toNat * 2 ^ 20 + b2n o.write * 2 ^ 30 + b2n o.valid * 2 ^ 31 + o.pages.toNat * 2 ^ 32 + o.host.toNat * 2 ^ 64
  | .tenantQuota o => o.pageLimit.toNat + o.t2Limit.toNat * 2 ^ 64 + o.marginLimit.toNat * 2 ^ 128 + o.ways.toNat * 2 ^ 144
  | .tenantRules weight => weight.toNat
  | .stopsetWrite src _ => src.toNat
  | .lessonInstall o _ => o.src.toNat + o.dest.toNat * 2 ^ 64 + o.wings.toNat * 2 ^ 96
  | .lessonRemove wings => wings.toNat
  | .memClass o => o.addr.toNat + o.count.toNat * 2 ^ 64 + b2n o.checked * 2 ^ 96
  | .kvPool o => o.records.toNat + o.recLog2.toNat * 2 ^ 48 + o.base0.toNat * 2 ^ 64 + o.log0.toNat * 2 ^ 112 + o.base1.toNat * 2 ^ 128 + o.log1.toNat * 2 ^ 176
      + o.base2.toNat * 2 ^ 192 + o.log2.toNat * 2 ^ 240 + o.base3.toNat * 2 ^ 256 + o.log3.toNat * 2 ^ 304
  | .memCopy o _ => o.src.toNat + o.dst.toNat * 2 ^ 64 + o.length.toNat * 2 ^ 128 + b2n o.fill * 2 ^ 160 + o.pattern.toNat * 2 ^ 192
  | .modelLoad o _ => o.src.toNat + o.golden.toNat * 2 ^ 64 + o.golden2.toNat * 2 ^ 128
  | .modelUnload => 0
  | .modelGolden golden golden2 => golden.toNat + golden2.toNat * 2 ^ 64
  | .modelQuery dst _ => dst.toNat
  | .msetInstall o _ => o.set.toNat + o.tenant.toNat * 2 ^ 16 + o.src.toNat * 2 ^ 64 + o.base.toNat * 2 ^ 128 + o.golden.toNat * 2 ^ 192
  | .msetRemove set => set.toNat
  | .msetQuery dst _ => dst.toNat
  | .sessionOpen o => b2n o.evictable + b2n o.batch * 2 ^ 1 + b2n o.publish * 2 ^ 2 + o.model.toNat * 2 ^ 8 + o.tdLog2.toNat * 2 ^ 16 + o.tenant.toNat * 2 ^ 32 +
      o.ring.toNat * 2 ^ 48 + o.domain.toNat * 2 ^ 64 + o.kvmap.toNat * 2 ^ 128 + o.tray.toNat * 2 ^ 192 + o.seed.toNat * 2 ^ 256
  | .turn o _ => o.input.toNat + o.count.toNat * 2 ^ 64 + o.set.toNat * 2 ^ 96 + o.stopset.toNat * 2 ^ 112 + o.temp.toNat * 2 ^ 128 + o.topK.toNat * 2 ^ 144 +
      o.topP.toNat * 2 ^ 160 + o.maxTokens.toNat * 2 ^ 192
  | .abortTurn => 0
  | .pause o => o.window.toNat + o.width.toNat * 2 ^ 16 + o.ttl.toNat * 2 ^ 32 + o.offset.toNat * 2 ^ 64 + o.length.toNat * 2 ^ 96
  | .resume => 0
  | .sessionEnd => 0
  | .sessionRewind count => count.toNat
  | .sessionQuery dst _ => dst.toNat
  | .fwQuery dst _ => dst.toNat
  | .fwStage o _ => o.src.toNat + o.length.toNat * 2 ^ 64
  | .fwActivate bank => b2n bank
  | .fwCommit kind => kind.toNat
  | .rbkFwStage o _ => o.src.toNat + o.length.toNat * 2 ^ 64
  | .ownerEnroll src _ => src.toNat
  | .configWrite src _ => src.toNat
  | .permitInstall src _ => src.toNat
  | .permitRevoke => 0
  | .undefined _ => 0

/-- Read the operation of an opcode from bytes 16-63. -/
def readOperands (opcode x : Nat) : DescOp :=
  match opcode with
  | 0x0 => .nop
  | 0x1 => .ringCreate { base := opf x 0 48, kind := opf x 64 2, log2 := opf x 72 5, priv := opb x 80, pasidEn := opb x 81,
                         pasid := opf x 96 20, tenant := opf x 116 10, cq := opf x 128 12, vector := opf x 144 11, modCount := opf x 160 16,
                         modUs := opf x 176 16, batchK := opf x 192 7 }
  | 0x2 => .ringDestroy (opf x 0 2)
  | 0x3 => .ringReset
  | 0x4 => .hostWindow { pasid := opf x 0 20, tenant := opf x 20 10, write := opb x 30, valid := opb x 31, pages := opf x 32 32,
                         host := opf x 64 64 }
  | 0x5 => .tenantQuota { pageLimit := opf x 0 32, t2Limit := opf x 64 64, marginLimit := opf x 128 13, ways := opf x 144 16 }
  | 0x6 => .tenantRules (opf x 0 8)
  | 0x7 => .stopsetWrite (opf x 0 48) Ext.none
  | 0x8 => .lessonInstall { src := opf x 0 48, dest := opf x 64 30, wings := opf x 96 4 } Ext.none
  | 0x9 => .lessonRemove (opf x 0 4)
  | 0xa => .memClass { addr := opf x 0 48, count := opf x 64 32, checked := opb x 96 }
  | 0xb => .kvPool { records := opf x 0 48, recLog2 := opf x 48 5, base0 := opf x 64 48, log0 := opf x 112 5, base1 := opf x 128 48,
                     log1 := opf x 176 5, base2 := opf x 192 48, log2 := opf x 240 5, base3 := opf x 256 48, log3 := opf x 304 5 }
  | 0xc => .memCopy { src := opf x 0 48, dst := opf x 64 48, length := opf x 128 32, fill := opb x 160, pattern := opf x 192 64 } Ext.none
  | 0x10 => .modelLoad { src := opf x 0 48, golden := opf x 64 48, golden2 := opf x 128 48 } Ext.none
  | 0x11 => .modelUnload
  | 0x12 => .modelGolden (opf x 0 48) (opf x 64 48)
  | 0x13 => .modelQuery (opf x 0 48) Ext.none
  | 0x18 => .msetInstall { set := opf x 0 16, tenant := opf x 16 10, src := opf x 64 48, base := opf x 128 48,
                           golden := opf x 192 48 } Ext.none
  | 0x19 => .msetRemove (opf x 0 16)
  | 0x1a => .msetQuery (opf x 0 48) Ext.none
  | 0x20 => .sessionOpen { evictable := opb x 0, batch := opb x 1, publish := opb x 2, model := opf x 8 6, tdLog2 := opf x 16 3,
                           tenant := opf x 32 10, ring := opf x 48 12, domain := opf x 64 16, kvmap := opf x 128 48, tray := opf x 192 30,
                           seed := opf x 256 64 }
  | 0x21 => .turn { input := opf x 0 48, count := opf x 64 32, set := opf x 96 16, stopset := opf x 112 16, temp := opf x 128 16,
                    topK := opf x 144 7, topP := opf x 160 16, maxTokens := opf x 192 32 } Ext.none
  | 0x22 => .abortTurn
  | 0x23 => .pause { window := opf x 0 12, width := opf x 16 4, ttl := opf x 32 32, offset := opf x 64 32, length := opf x 96 32 }
  | 0x24 => .resume
  | 0x25 => .sessionEnd
  | 0x26 => .sessionRewind (opf x 0 32)
  | 0x27 => .sessionQuery (opf x 0 48) Ext.none
  | 0x40 => .fwQuery (opf x 0 48) Ext.none
  | 0x41 => .fwStage { src := opf x 0 48, length := opf x 64 32 } Ext.none
  | 0x42 => .fwActivate (opb x 0)
  | 0x43 => .fwCommit (opf x 0 8)
  | 0x44 => .rbkFwStage { src := opf x 0 48, length := opf x 64 32 } Ext.none
  | 0x45 => .ownerEnroll (opf x 0 48) Ext.none
  | 0x46 => .configWrite (opf x 0 48) Ext.none
  | 0x47 => .permitInstall (opf x 0 48) Ext.none
  | 0x48 => .permitRevoke
  | c => .undefined (BitVec.ofNat 8 c)

/-- Whether HANDLE is reserved for an operation: its HANDLE column reads "—" (R323, R326, R423). -/
def opNoHandle : DescOp → Bool
  | .nop => true
  | .memClass _ => true
  | .kvPool _ => true
  | .memCopy _ _ => true
  | .sessionOpen _ => true
  | op => decide (0x40 ≤ op.opcode)

/-- The 64 bytes of a descriptor with no reserved bit set (R323). -/
def descBytes (d : Desc) (op : DescOp) : List Byte :=
  leBytes 1 op.opcode ++ leBytes 1 (b2n d.fence) ++ leBytes 2 0 ++ leBytes 4 d.handle.toNat ++ leBytes 8 d.tag.toNat ++
  leBytes 48 (operandBits op)

/-- Read the descriptor that stands at index `index` of submission ring `ring`. A reserved bit is set when the bytes are not those of what was
read, or when a reserved HANDLE is nonzero. -/
def readDesc (ring index : Nat) (bs : List Byte) : Desc × DescOp :=
  let n := leNat (bs.take 64)
  let op := readOperands (n % 256) (n / 2 ^ 128)
  let d : Desc := { ring := BitVec.ofNat 10 ring, index := BitVec.ofNat 64 index, fence := opb n 8, handle := opf n 32 32, tag := opf n 64 64, rsv := false }
  ({ d with rsv := decide (descBytes d op ≠ bs.take 64) || (opNoHandle op && decide (d.handle ≠ 0)) }, op)

end Sys2Proof.Machine
end

