-- ==== Sys2Proof/Machine/Crc.lean ====
section
/-! DEFINITION. The two CRCs of the spec: the 16-bit CRC of R98 and the CRC-32C of Corridor packets (R350). -/

namespace Sys2Proof.Machine

open Sys2Proof

/-- One bit step of the CRC of R98. -/
def crc16Bit (crc : Nat) : Nat :=
  if field crc 15 1 = 1 then ((crc <<< 1) ^^^ 0x1021) % 65536 else (crc <<< 1) % 65536

/-- One payload byte of the CRC of R98. -/
def crc16Byte (crc : Nat) (x : Byte) : Nat :=
  let c := crc ^^^ (x.toNat <<< 8)
  crc16Bit (crc16Bit (crc16Bit (crc16Bit (crc16Bit (crc16Bit (crc16Bit (crc16Bit c)))))))

/-- The CRC of R98 over payload bytes in order. -/
def crc16 (bs : List Byte) : Nat := bs.foldl crc16Byte 0xFFFF

/-- One bit step of the reflected Castagnoli CRC. -/
def crc32cBit (crc : Nat) : Nat :=
  if crc % 2 = 1 then (crc >>> 1) ^^^ 0x82F63B78 else crc >>> 1

/-- One byte of the CRC-32C. -/
def crc32cByte (crc : Nat) (x : Byte) : Nat :=
  let c := crc ^^^ x.toNat
  crc32cBit (crc32cBit (crc32cBit (crc32cBit (crc32cBit (crc32cBit (crc32cBit (crc32cBit c)))))))

/-- The CRC-32C of RFC 3720 that Corridor packets carry (R350). -/
def crc32c (bs : List Byte) : Nat := (bs.foldl crc32cByte 0xFFFFFFFF) ^^^ 0xFFFFFFFF

end Sys2Proof.Machine
end

