-- ==== Sys2Proof/Machine/Codec.lean ====
section
/-! DEFINITION. The stored forms of 04_tiles_and_expander.md as pure functions: raw ternary (R88-R90), the entropy code (R92-R95), codebooks
(R100, R101), Plane tiles (R47, R112), activation items (R113, R114) and bf16 blocks (R116). -/

namespace Sys2Proof.Machine

open Sys2Proof

/-- The Desk bits of a trit digit (R88): 0 is weight 0, 1 is +1, 2 is -1. -/
def tritBits (d : Nat) : BitVec 3 := if d = 1 then 1#3 else if d = 2 then 3#3 else 0#3

/-- Digit `k` of a five-trit value (R89, R92). -/
def digit (v k : Nat) : Nat := v / 3 ^ k % 3

/-- A list of trit digits from index `base` on, as the listed Desks of a tile. -/
def tritTable (base : Nat) (ds : List Nat) : Sparse (BitVec 3) :=
  ((List.range ds.length).zip ds).filterMap (fun e => if tritBits e.2 = 0#3 then none else some (base + e.1, tritBits e.2))

/-- A raw tile's Desks, or none when a byte exceeds 242 (R89, R90). -/
def rawTile (payload : List Byte) : Option (Sparse (BitVec 3)) :=
  if payload.any (fun b => decide (b.toNat > 242)) then none
  else some (tritTable 0 ((payload.flatMap (fun b => (List.range 5).map (fun k => digit b.toNat k))).take 262144))

/-! ### Headers (R91, R94, R95, R97) -/

/-- The little-endian number in `n` header bytes at offset `o`. -/
def hfield (h : List Byte) (o n : Nat) : Nat := leNat ((h.drop o).take n)

/-- CODEC of a weight tile header. -/
def tileCodec (h : List Byte) : Nat := hfield h 0 1 % 16

/-- The lane start offsets O[0] .. O[63] (R94). -/
def laneOffsets (h : List Byte) : List Nat :=
  let f := fun i => hfield h (32 + 2 * i) 2
  ((List.range 63).foldl (fun (acc : List Nat × Nat) i =>
    let d := (f (i + 1) + 65536 - f i) % 65536
    (acc.1 ++ [acc.2 + d], acc.2 + d)) ([0], 0)).1

/-- The lane lengths L_0 .. L_62, and L_63 when O[63] does not exceed LENGTH (R94). -/
def laneLengths (h : List Byte) : List Nat :=
  let o := laneOffsets h
  (List.range 64).map (fun i => (if i < 63 then o.getD (i + 1) 0 else hfield h 4 4) - o.getD i 0)

/-- The largest lane length. -/
def laneMax (h : List Byte) : Nat := (laneLengths h).foldl max 0

/-- A lane rule of R94 that the header shows broken. -/
def lanesBad (h : List Byte) : Bool :=
  decide (hfield h 32 2 ≠ 0) || decide ((laneOffsets h).getD 63 0 > hfield h 4 4) || decide (laneMax h > 1230)

/-- Reader and expand phase lengths of a weight tile (R108). -/
def tilePhases (h : List Byte) : Nat × Nat := if tileCodec h = 0 then (205, 256) else (ceilDiv (8 * laneMax h) 32, 205)

/-- The cost of a weight tile (R95). -/
def tileCost (h : List Byte) : Nat := max (tilePhases h).1 (tilePhases h).2

/-- A weight tile that its header shows malformed for an EXP_TILE that names `cb` (R91, R94, R95, R97). -/
def tileBad (h : List Byte) (cb : Nat) : Bool :=
  let codec := tileCodec h
  decide (codec > 1) || decide (hfield h 2 2 / 512 ≠ 0) || decide (hfield h 10 22 ≠ 0) ||
  (if codec = 0 then decide (hfield h 4 4 ≠ 52429) || decide (cb ≠ 31)
   else decide (hfield h 0 1 / 16 ≠ cb) || lanesBad h) ||
  decide (hfield h 2 2 % 512 ≠ tileCost h)

/-! ### The entropy code (R92-R94, R100, R101) -/

/-- The code lengths of a codebook image (R100). -/
def cbLens (bs : List Byte) : List Nat :=
  (List.range 243).map (fun i => if i % 2 = 0 then hfield bs (i / 2) 1 % 16 else hfield bs (i / 2) 1 / 16)

/-- A valid codebook (R101). -/
def cbValid (lens : List Nat) : Bool :=
  let used := lens.filter (fun l => l != 0)
  used.all (fun l => decide (l ≤ 12)) &&
  (decide ((used.map (fun l => 2 ^ (12 - l))).sum = 4096) || decide (used = [1]))

/-- The first code of each length 1 .. 12 (R93). -/
def firstCodes (lens : List Nat) : List Nat :=
  ((List.range 12).foldl (fun (acc : List Nat × Nat) i =>
    let cnt := if i = 0 then 0 else (lens.filter (fun x => x == i)).length
    let code := (acc.2 + cnt) * 2 % 65536
    (acc.1 ++ [code], code)) ([], 0)).1

/-- The symbol whose code has length `l` and value `c` (R93). -/
def symbolOf (lens : List Nat) (first : List Nat) (l c : Nat) : Option Nat :=
  let base := first.getD (l - 1) 0
  if c < base then none
  else (((List.range lens.length).filter (fun i => lens.getD i 0 == l))[c - base]?)

/-- Read one symbol from the bits of a lane, most significant code bit first (R93): the symbol and the bits left. -/
def readSymbol (lens first : List Nat) : Nat → Nat → Nat → List Bool → Option (Nat × List Bool)
  | 0, _, _, _ => none
  | _ + 1, _, _, [] => none
  | n + 1, l, c, b :: bs =>
    let c := 2 * c + b2n b
    match symbolOf lens first (l + 1) c with
    | some v => some (v, bs)
    | none => readSymbol lens first n (l + 1) c bs

/-- Read `n` symbols of a lane (R92, R94). -/
def readSymbols (lens first : List Nat) : Nat → List Bool → Option (List Nat)
  | 0, _ => some []
  | n + 1, bs =>
    match readSymbol lens first 12 0 0 bs with
    | none => none
    | some (v, bs) => (readSymbols lens first n bs).map (fun vs => v :: vs)

/-- The bits of a byte string, from bit 0 of the first byte. -/
def bitsOf (bs : List Byte) : List Bool := bs.flatMap (fun b => (List.range 8).map (fun i => b.getLsbD i))

/-- The trits of one lane (R92). -/
def laneTrits (lens : List Nat) (stream : List Byte) : Option (List Nat) :=
  (readSymbols lens (firstCodes lens) 820 (bitsOf stream)).map
    (fun vs => (vs.flatMap (fun v => (List.range 5).map (fun k => digit v k))).take 4096)

/-- An entropy-coded tile's Desks, or none when a lane is malformed (R92-R94). -/
def entropyTile (lens : List Nat) (h payload : List Byte) : Option (Sparse (BitVec 3)) :=
  let o := laneOffsets h
  let ls := laneLengths h
  (List.range 64).foldl (fun acc i =>
    acc.bind (fun m => (laneTrits lens ((payload.drop (o.getD i 0)).take (ls.getD i 0))).map (fun ds => m ++ tritTable (4096 * i) ds)))
    (some [])

/-! ### Plane tiles (R47, R112) -/

/-- Plane `i` of a byte at plane count `p` (R47, R112). -/
def planeTrit (p i : Nat) (b : Byte) : BitVec 3 :=
  if p = 1 then (if b.toInt > 0 then 1#3 else if b.toInt < 0 then 3#3 else 0#3)
  else if b.getLsbD i then (if i + 1 = p then 3#3 else 1#3) else 0#3

/-- A byte outside the range of width `p` (R112). -/
def planeRange (p : Nat) (b : Byte) : Bool :=
  let m : Int := if p = 1 then 1 else ((2 ^ (p - 1) - 1 : Nat) : Int)
  decide (b.toInt > m ∨ b.toInt < -m)

/-- The Plane tile of `cnt` stationary vectors of 512 / g bytes each (R112). -/
def planesTile (p g cnt : Nat) (bs : List Byte) : Sparse (BitVec 3) :=
  let n := 512 / g
  (List.range 512).flatMap (fun row =>
    (List.range (cnt * p)).filterMap (fun col =>
      let t := planeTrit p (col % p) (bs.getD ((col / p) * n + row % n) 0)
      if t = 0#3 then none else some (512 * row + col, t)))

/-! ### Activation items (R113-R115) -/

/-- BLOCKS of an activation item header. -/
def actBlocks (h : List Byte) : Nat := hfield h 2 2

/-- RAW of an activation item header. -/
def actRaw (h : List Byte) : Bool := bit (hfield h 0 1) 4

/-- An activation item that its header shows malformed (R8, R115, R119). -/
def actBad (h : List Byte) : Bool :=
  decide (hfield h 0 1 % 16 ≠ 2) || decide (hfield h 0 1 / 32 ≠ 0) || decide (hfield h 1 1 ≠ 0) || decide (hfield h 12 4 ≠ 0) ||
  decide (actBlocks h < 1 ∨ actBlocks h > 64) || decide (hfield h 8 2 ≠ 8 * actBlocks h) ||
  (actRaw h && decide (hfield h 4 4 ≠ 512 * actBlocks h))

/-- The 64 elements of a literal group of width `k` (R113). -/
def unpackGroup (k : Nat) (bs : List Byte) : List Byte :=
  let v := leNat bs
  (List.range 64).map (fun i =>
    let x := field v (k * i) k
    if k = 1 then (if x = 0 then 1#8 else 0xFF#8) else BitVec.ofInt 8 (signed k x))

/-- Unpack group records into exactly `groups` groups (R113); `fuel` bounds the records. -/
def unpackAct : Nat → Nat → List Byte → Option (List Byte)
  | _, 0, [] => some []
  | 0, _, _ => none
  | _ + 1, _, [] => none
  | n + 1, groups, t :: bs =>
    let v := t.toNat
    if v < 128 then
      if v + 1 ≤ groups then (unpackAct n (groups - (v + 1)) bs).map (fun r => List.replicate (64 * (v + 1)) 0 ++ r) else none
    else if 0x81 ≤ v ∧ v ≤ 0x88 ∧ 1 ≤ groups ∧ 8 * (v - 0x80) ≤ bs.length then
      (unpackAct n (groups - 1) (bs.drop (8 * (v - 0x80)))).map (fun r => unpackGroup (v - 0x80) (bs.take (8 * (v - 0x80))) ++ r)
    else none

/-- The dense bytes of an activation item, or none when its payload is malformed (R113, R115). -/
def actDense (h payload : List Byte) : Option (List Byte) :=
  if actRaw h then some payload else unpackAct (payload.length + 1) (8 * actBlocks h) payload

/-- The width of a literal group (R114). -/
def groupWidth (g : List Byte) : Nat :=
  if g.all (fun b => decide (b = 1#8 ∨ b = 0xFF#8)) then 1
  else ((List.range 7).map (fun i => i + 2)).find? (fun k =>
    g.all (fun b => decide (-(2 ^ (k - 1) : Int) ≤ b.toInt ∧ b.toInt ≤ 2 ^ (k - 1) - 1))) |>.getD 8

/-- A literal group record (R113). -/
def packGroup (g : List Byte) : List Byte :=
  let k := groupWidth g
  let code := fun (b : Byte) => if k = 1 then (if b = 1#8 then 0 else 1) else unsigned k b.toInt
  BitVec.ofNat 8 (0x80 + k) :: leBytes (8 * k) (((List.range 64).zip g).foldl (fun v e => v + code e.2 * 2 ^ (k * e.1)) 0)

/-- The records of a run of `n` zero groups (R114). -/
def zeroRuns : Nat → Nat → List Byte
  | 0, _ => []
  | f + 1, n => if n = 0 then [] else if n ≤ 128 then [BitVec.ofNat 8 (n - 1)] else 127#8 :: zeroRuns f (n - 128)

/-- Pack groups, `z` zero groups pending (R114). -/
def packGroups : Nat → List (List Byte) → List Byte
  | z, [] => zeroRuns (z + 1) z
  | z, g :: gs =>
    if g.all (fun b => decide (b = 0#8)) then packGroups (z + 1) gs
    else zeroRuns (z + 1) z ++ packGroup g ++ packGroups 0 gs

/-- The groups of 64 bytes of a dense tile. -/
def groupsOf64 (n : Nat) (bs : List Byte) : List (List Byte) := (List.range n).map (fun i => (bs.drop (64 * i)).take 64)

/-- LOC_PACK's item for `n` blocks: header and payload, and whether it is RAW (R114). -/
def packAct (n : Nat) (dense : List Byte) : List Byte × Bool :=
  let p := packGroups 0 (groupsOf64 (8 * n) dense)
  let raw := decide (p.length > 512 * n)
  let pay := if raw then dense else p
  (leBytes 1 (2 + b2n raw * 16) ++ leBytes 1 0 ++ leBytes 2 n ++ leBytes 4 pay.length ++ leBytes 2 (8 * n) ++ leBytes 2 (crc16 pay) ++
     leBytes 4 0 ++ pay, raw)

/-! ### bf16 blocks (R116) -/

/-- Value `i` of a block with its base exponent (R116). -/
def bf16Value (blk : List Byte) (base i : Nat) : Nat :=
  let sm := hfield blk i 1
  let off := leNat (blk.drop 256) / 2 ^ (3 * i) % 8
  if off = 7 then (sm / 128) * 2 ^ 15
  else (sm / 128) * 2 ^ 15 + min (base + off) 255 * 128 + sm % 128

/-- The 512 bytes of a decoded block. -/
def bf16Block (blk : List Byte) (base : Nat) : List Byte := (List.range 256).flatMap (fun i => leBytes 2 (bf16Value blk base i))

end Sys2Proof.Machine
end

