-- ==== Sys2Proof/Machine/Lesson.lean ====
section
/-! DEFINITION. The check of a lesson at its installation (R123, R125, R129-R133, R137, R140-R142, R150, R157). -/

namespace Sys2Proof.Machine

open Sys2Proof

/-- The slots of a period word as 64-bit numbers, in slot order. -/
def wordSlots (bs : List Byte) : List Nat := (List.range (field (hfield bs 0 8) 16 4)).map (fun s => hfield bs (8 * (s + 1)) 8)

/-- A slot that is an extension: EXT_WIDE or EXT_INDEX. -/
def isExt (v opc : Nat) : Bool := decide (v % 128 = 0x7F ∧ v / 128 % 512 = opc)

/-- An EXT_INDEX slot with a field outside its range or a reserved bit set (R134, R137). -/
def badIndexSlot (v : Nat) : Bool :=
  isExt v 1 && (decide (field v 16 8 > 143) || decide (field v 24 5 = 0) || decide (v / 2 ^ 48 ≠ 0))

/-- An EXT_WIDE slot that follows an EXT_INDEX slot (R133). -/
def wideAfterIndex (vs : List Nat) : Bool := (vs.zip (vs.drop 1)).any (fun p => isExt p.1 1 && isExt p.2 0)

/-- Static range check of an operation: as at dispatch, but for what the operation's own rule makes a lesson fault: LOC_PACK's BLOCKS 0, QUANT's columns
(R66), and EXP_LOAD's pairing of mode and plane count (R106). -/
def opStatic (o : SlotOp) : Bool :=
  match o with
  | .locPack p => opInRange (.locPack { p with blocks := if p.blocks = 0#7 then 1#7 else p.blocks })
  | .quant p => opInRange (.quant { p with accCol := 0#9 })
  | .expLoad p => decide (p.mode ≠ 3#2)
  | o => opInRange o

/-- The status of one slot op of a word: unit and opcode defined, operand bits all there and no more, reserved bits 0, fields in range, index
spans inside the operand bits. -/
def slotStatus (r : RawOp) : Nat :=
  match unitTargets r.unit with
  | none => if r.unit = 0x7F ∧ r.opc ≤ 1 then 0x11 else 0x10
  | some (u, _) =>
    match decodeOp (opUnit u) r.opc r.bits with
    | .badOpcode => 0x10
    | .badArg => 0x11
    | .op o =>
      if 48 * opSlots o = r.nbits ∧ opBits o = r.bits ∧ opStatic o ∧ r.ixs.all (fun x => decide (1 ≤ x.w ∧ x.lo + x.w ≤ r.nbits)) then 0 else 0x11

/-- Status of a word by itself. -/
def wordStatus (bs : List Byte) : Nat :=
  let h := hfield bs 0 8
  let p := readWord bs
  let vs := wordSlots bs
  let ops := p.ops.map slotStatus
  let header :=
    bit h 31 || decide (h / 2 ^ 48 ≠ 0) || decide (b2n p.replay + b2n p.check + b2n p.commit > 1) ||
    (!p.bell && (p.bellWait || decide (p.bellNum ≠ 0) || decide (p.bellTarget ≠ 0))) || (p.bell && !p.bellWait && decide (p.bellTarget ≠ 0)) ||
    (bs.drop (8 * (vs.length + 1))).any (fun b => b != 0)
  if ops.contains 0x10 then 0x10
  else if header || vs.any badIndexSlot || wideAfterIndex vs || ops.contains 0x11 then 0x11
  else 0

/-- The Sequencer operations of a word. -/
def PeriodWord.seqOps (p : PeriodWord) : List SlotOp :=
  p.ops.filterMap (fun r => match unitTargets r.unit with
    | some (0x40, _) => (match decodeOp 0x40 r.opc r.bits with | .op o => some o | _ => none)
    | _ => none)

/-- Ends of the loop bodies open at word `i`, innermost first, and whether a body leaves its lesson or the body around it (R141). A seventeenth active loop is a lesson fault
where it runs (R157). -/
def loopScan (n : Nat) : Nat → List PeriodWord → List Nat → Bool
  | _, [], _ => true
  | i, p :: ps, ends =>
    let ends := ends.filter (fun e => decide (i ≤ e))
    let inBody := !ends.isEmpty
    let point := p.replay || p.check || p.commit
    match p.seqOps with
    | .loop o :: _ =>
      let e := i + o.body.toNat
      decide (e < n) && ends.all (fun x => decide (e ≤ x)) && !(inBody && point) && loopScan n (i + 1) ps (e :: ends)
    | _ => !(inBody && point) && loopScan n (i + 1) ps ends

/-- Words whose DELTA must be at least 1 (R131). -/
def gapWords (kind : Nat) (ws : List PeriodWord) : List Nat :=
  (if kind = 1 then [0] else []) ++
  (ws.zipIdx.flatMap (fun e => (if e.1.check then [e.2 + 1] else []) ++
    e.1.seqOps.flatMap (fun o => match o with | .loop l => [e.2 + 1, e.2 + l.body.toNat + 1] | .call _ => [e.2 + 1] | _ => [])))

/-- The units that begin an operation in a word, as (Classroom, local unit), the queueing ones and the Sequencer aside (R132). -/
def PeriodWord.starts (p : PeriodWord) : List (Nat × Nat) :=
  p.ops.flatMap (fun r => match unitTargets r.unit with
    | some (u, cs) => if u = 1 ∨ u = 5 ∨ u = 6 ∨ u = 0x40 then [] else cs.map (fun c => (c.val, u))
    | none => [])

/-- No unit begins twice in one Timetable cycle (R132): `busy` are those of the words that share the cycle so far. -/
def oncePerCycle : List PeriodWord → List (Nat × Nat) → Bool
  | [], _ => true
  | p :: ps, busy =>
    let busy := if p.delta = 0 then busy else []
    decide ((busy ++ p.starts).Nodup) && oncePerCycle ps (busy ++ p.starts)

/-- The step points of a lesson in order: 0 REPLAY, 1 CHECK, 2 COMMIT. -/
def stepPoints (ws : List PeriodWord) : List Nat :=
  ws.flatMap (fun p => (if p.replay then [0] else []) ++ (if p.check then [1] else []) ++ (if p.commit then [2] else []))

/-- The rules over a whole lesson (R130-R132, R141, R142, R150). -/
def lessonRules (kind : Nat) (ws : List PeriodWord) : Bool :=
  let n := ws.length
  loopScan n 0 ws [] && ws.all (fun p => decide (p.seqOps.length ≤ 1)) &&
  (gapWords kind ws).all (fun i => match ws[i]? with | some p => decide (p.delta ≥ 1) | none => true) &&
  ((ws.drop 1).zip (ws.drop 2)).all (fun p => !(decide (p.1.delta = 0) && decide (p.2.delta = 0))) &&
  oncePerCycle ws [] &&
  (if kind = 0 then decide (stepPoints ws = [0, 1, 2]) && (match ws.getLast? with | some p => p.commit | none => false) else decide (stepPoints ws = []))

/-- Cut the bytes of a lesson into period words. -/
def cutWords (bs : List Byte) (n : Nat) : List (List Byte) := (List.range n).map (fun i => (bs.drop (128 * (i + 1))).take 128)

/-- WORDS of a lesson header. -/
def lessonLen (hdr : List Byte) : Nat := hfield hdr 4 4

/-- Whether a header can head a lesson at all (R123, R157). -/
def lessonHeadOk (hdr : List Byte) : Bool :=
  decide (hfield hdr 0 2 = 0x0B32 ∧ hfield hdr 2 1 = 1 ∧ hfield hdr 3 1 ≤ 1 ∧ 1 ≤ lessonLen hdr ∧ lessonLen hdr ≤ 16777216) &&
  ((hdr.take 128).drop 11).all (fun b => b == 0)

/-- The status of the installation check over a whole lesson (R125): BAD_OPCODE, BAD_ARG or 0. -/
def lessonStatus (bs : List Byte) : Nat :=
  let words := cutWords bs (lessonLen bs)
  let sts := words.map wordStatus
  if sts.contains 0x10 then 0x10
  else if !lessonHeadOk bs || decide (crc16 (bs.drop 128) ≠ hfield bs 8 2) || sts.contains 0x11 ||
          !lessonRules (hfield bs 3 1) (words.map readWord) then 0x11
  else 0

end Sys2Proof.Machine
end

