-- ==== Sys2Proof/Config.lean ====
section
/-! DEFINITION. The values the spec leaves open. Each is an opaque constant: nothing in Lean can evaluate it, so a
statement that holds, holds for every value. Each has its row in the assumption log. -/

namespace Sys2Proof.Config

open Sys2Proof

/-- The sign and payload bits of a NaN result (IEEE 754 leaves them open): of the operation's code and operands.
Log entry 5. -/
opaque nanBits : Nat → F32 → F32 → F32 → F32

/-- Which of the values within 2 units in the last place of e^x the Vector unit returns (R173). Log entry 6. -/
opaque expChoice : F32 → Nat

/-- A byte the spec leaves undefined: of the model's own count of such bytes and of its address (R195, log entry 7). -/
opaque freeByte : Nat → Nat → Byte

/-- A number the spec leaves open: of the place that leaves it open (a rule's number) and of what it depends on. Log entry 9. -/
opaque freeWord : Nat → Nat → Nat

end Sys2Proof.Config
end

