-- ==== Sys2Proof/Machine/Float.lean ====
section
/-! DEFINITION. IEEE 754 binary32 and bf16 arithmetic, each operation one rounding to nearest, ties to even (`rne`,
00_scope.md "Pseudocode"), computed exactly on dyadic numbers and then rounded. -/

namespace Sys2Proof.Machine

open Sys2Proof

/-- A floating-point datum: (-1)^neg * m * 2^e when finite. -/
inductive FVal where
  | nan
  | inf (neg : Bool)
  | fin (neg : Bool) (m : Nat) (e : Int)
deriving DecidableEq, Repr

/-- The datum of a binary32 word. -/
def fval (x : F32) : FVal :=
  let s := decide (field x.toNat 31 1 = 1)
  let ex := field x.toNat 23 8
  let fr := field x.toNat 0 23
  if ex = 255 then (if fr = 0 then .inf s else .nan)
  else if ex = 0 then .fin s fr (-149)
  else .fin s (fr + 2 ^ 23) (ex - 150)

/-- The magnitude bits of m * 2^e rounded to a format of precision `p` and least exponent `emin`;
`inf` is the format's infinity pattern. -/
def packRound (p : Nat) (emin : Int) (inf m : Nat) (e : Int) : Nat :=
  if m = 0 then 0
  else
    let q := max (e + (m.log2 + 1 : Nat) - (p : Int)) emin
    let m' := if q ≤ e then m <<< (e - q).toNat else rneShift m (q - e).toNat
    min inf ((q - emin).toNat * 2 ^ (p - 1) + m')

/-- Round (-1)^neg * m * 2^e to binary32. -/
def roundF32 (neg : Bool) (m : Nat) (e : Int) : F32 :=
  BitVec.ofNat 32 (b2n neg * 2 ^ 31 + packRound 24 (-149) (255 * 2 ^ 23) m e)

/-- Round (-1)^neg * m * 2^e to bf16. -/
def roundBf16 (neg : Bool) (m : Nat) (e : Int) : BF16 :=
  BitVec.ofNat 16 (b2n neg * 2 ^ 15 + packRound 8 (-133) (255 * 2 ^ 7) m e)

/-- Positive and negative infinity, zero and one. -/
def f32Inf (neg : Bool) : F32 := BitVec.ofNat 32 (b2n neg * 2 ^ 31 + 255 * 2 ^ 23)
def f32Zero (neg : Bool) : F32 := BitVec.ofNat 32 (b2n neg * 2 ^ 31)
def f32One : F32 := 0x3F800000#32

/-- A quiet NaN whose sign and payload are free (log entry 5). -/
def f32NaN (op : Nat) (a b c : F32) : F32 := 0x7FC00000#32 ||| (Config.nanBits op a b c &&& 0x803FFFFF#32)

/-- The binary32 word of a bf16 (exact). -/
def ofBf16 (x : BF16) : F32 := BitVec.ofNat 32 (x.toNat * 65536)

/-- Conversion of a signed integer to binary32, one rounding. -/
def ofInt (i : Int) : F32 := roundF32 (decide (i < 0)) i.natAbs 0

/-- Whether a word is a NaN. -/
def isNaN (x : F32) : Bool := match fval x with | .nan => true | _ => false

/-- Whether a word is finite. -/
def isFinite (x : F32) : Bool := match fval x with | .fin _ _ _ => true | _ => false

/-- The signed significand of a datum at exponent `e0` (at most its own exponent). -/
def atExp (neg : Bool) (m : Nat) (e e0 : Int) : Int :=
  let v : Int := (m * 2 ^ (e - e0).toNat : Nat)
  if neg then -v else v

/-- The exact sum of two finite data, rounded; an exact zero takes the sign IEEE 754 gives under rne. -/
def addFin (n1 : Bool) (m1 : Nat) (e1 : Int) (n2 : Bool) (m2 : Nat) (e2 : Int) : F32 :=
  let e0 := min e1 e2
  let s := atExp n1 m1 e1 e0 + atExp n2 m2 e2 e0
  if s = 0 then f32Zero (n1 && n2) else roundF32 (decide (s < 0)) s.natAbs e0

/-- `rne(a + b)`. -/
def fadd (a b : F32) : F32 :=
  match fval a, fval b with
  | .fin n1 m1 e1, .fin n2 m2 e2 => addFin n1 m1 e1 n2 m2 e2
  | .inf n1, .inf n2 => if n1 = n2 then f32Inf n1 else f32NaN 0 a b 0
  | .inf n, .fin _ _ _ => f32Inf n
  | .fin _ _ _, .inf n => f32Inf n
  | _, _ => f32NaN 0 a b 0

/-- `-a`. -/
def fneg (a : F32) : F32 := a ^^^ 0x80000000#32

/-- `rne(a - b)`. -/
def fsub (a b : F32) : F32 := fadd a (fneg b)

/-- `rne(a * b)`. -/
def fmul (a b : F32) : F32 :=
  match fval a, fval b with
  | .fin n1 m1 e1, .fin n2 m2 e2 => roundF32 (xor n1 n2) (m1 * m2) (e1 + e2)
  | .inf n1, .inf n2 => f32Inf (xor n1 n2)
  | .inf n1, .fin n2 m2 _ => if m2 = 0 then f32NaN 1 a b 0 else f32Inf (xor n1 n2)
  | .fin n1 m1 _, .inf n2 => if m1 = 0 then f32NaN 1 a b 0 else f32Inf (xor n1 n2)
  | _, _ => f32NaN 1 a b 0

/-- `rne(a * b + c)`, fused: one rounding. -/
def ffma (a b c : F32) : F32 :=
  match fval a, fval b, fval c with
  | .fin n1 m1 e1, .fin n2 m2 e2, .fin n3 m3 e3 => addFin (xor n1 n2) (m1 * m2) (e1 + e2) n3 m3 e3
  | .fin _ _ _, .fin _ _ _, .inf n => f32Inf n
  | .nan, _, _ => f32NaN 2 a b c
  | _, .nan, _ => f32NaN 2 a b c
  | _, _, .nan => f32NaN 2 a b c
  | .inf n1, .fin n2 m2 _, z =>
    if m2 = 0 then f32NaN 2 a b c
    else match z with
      | .inf n3 => if xor n1 n2 = n3 then f32Inf n3 else f32NaN 2 a b c
      | _ => f32Inf (xor n1 n2)
  | .fin n1 m1 _, .inf n2, z =>
    if m1 = 0 then f32NaN 2 a b c
    else match z with
      | .inf n3 => if xor n1 n2 = n3 then f32Inf n3 else f32NaN 2 a b c
      | _ => f32Inf (xor n1 n2)
  | .inf n1, .inf n2, .inf n3 => if xor n1 n2 = n3 then f32Inf n3 else f32NaN 2 a b c
  | .inf n1, .inf n2, .fin _ _ _ => f32Inf (xor n1 n2)

/-- `rne(a / b)`: the quotient to 80 bits with a sticky bit, then one rounding. -/
def fdiv (a b : F32) : F32 :=
  match fval a, fval b with
  | .fin n1 m1 e1, .fin n2 m2 e2 =>
    if m2 = 0 then (if m1 = 0 then f32NaN 3 a b 0 else f32Inf (xor n1 n2))
    else
      let q := m1 * 2 ^ 80 / m2
      let st := b2n (decide (m1 * 2 ^ 80 % m2 ≠ 0))
      roundF32 (xor n1 n2) (2 * q + st) (e1 - e2 - 81)
  | .inf n1, .fin n2 _ _ => f32Inf (xor n1 n2)
  | .fin n1 _ _, .inf n2 => f32Zero (xor n1 n2)
  | _, _ => f32NaN 3 a b 0

/-- The integer square root by bisection on `k` bits. -/
def isqrtAux (n : Nat) : Nat → Nat → Nat
  | 0, r => r
  | k + 1, r => let r' := r + 2 ^ k; isqrtAux n k (if r' * r' ≤ n then r' else r)

/-- `rne(sqrt a)`: IEEE 754 squareRoot. -/
def fsqrt (a : F32) : F32 :=
  match fval a with
  | .fin n m e =>
    if m = 0 then f32Zero n
    else if n then f32NaN 4 a 0 0
    else
      let m' := if e % 2 = 0 then m * 2 ^ 80 else m * 2 ^ 81
      let e' := if e % 2 = 0 then e - 80 else e - 81
      let r := isqrtAux m' 60 0
      roundF32 false (2 * r + b2n (decide (r * r ≠ m'))) (e' / 2 - 1)
  | .inf n => if n then f32NaN 4 a 0 0 else f32Inf false
  | .nan => f32NaN 4 a 0 0

/-- A total rank of the data that are not NaN: `a < b` exactly when the rank of `a` is below that of `b`
(the two zeros rank alike). -/
def frank (x : F32) : Int :=
  let mag := field x.toNat 0 31
  if field x.toNat 31 1 = 1 then -(mag : Int) else mag

/-- `a < b`, false when either is a NaN. -/
def flt (a b : F32) : Bool := !isNaN a && !isNaN b && decide (frank a < frank b)

/-- `a >= b`, false when either is a NaN. -/
def fge (a b : F32) : Bool := !isNaN a && !isNaN b && decide (frank b ≤ frank a)

/-- `max(a, b)` of IEEE 754-2019 maximum: a NaN operand gives a NaN, and +0 exceeds -0 (DEDUCED, log entry 8). -/
def fmax (a b : F32) : F32 :=
  if isNaN a || isNaN b then f32NaN 5 a b 0
  else if frank a < frank b then b
  else if frank b < frank a then a
  else if field a.toNat 31 1 = 1 then b else a

/-- Whether a word is a zero of either sign. -/
def isZero (x : F32) : Bool := field x.toNat 0 31 = 0

/-- `|x|`. -/
def fabs (x : F32) : F32 := x &&& 0x7FFFFFFF#32

/-- `rne(x)` to an integer; NaN and infinities give 0 (callers exclude them). -/
def toIntRne (x : F32) : Int :=
  match fval x with
  | .fin n m e =>
    let v : Int := if 0 ≤ e then (m * 2 ^ e.toNat : Nat) else (rneShift m (-e).toNat : Nat)
    if n then -v else v
  | _ => 0

/-- Round a binary32 to bf16, ties to even; a NaN keeps its upper half with the quiet bit set. -/
def toBf16 (x : F32) : BF16 :=
  match fval x with
  | .fin n m e => roundBf16 n m e
  | .inf n => BitVec.ofNat 16 (b2n n * 2 ^ 15 + 255 * 2 ^ 7)
  | .nan => BitVec.ofNat 16 (x.toNat / 65536) ||| 0x0040#16

/-- The smallest bf16 not below a nonnegative finite binary32 (R70): truncate, then step up when bits were lost. -/
def bf16Ceil (x : F32) : BF16 :=
  BitVec.ofNat 16 (ceilDiv (field x.toNat 0 31) 65536)

/-- A positive normal bf16 value (R71). -/
def bf16PosNormal (x : BF16) : Bool := decide (128 ≤ x.toNat ∧ x.toNat < 255 * 128)

/-! ### e^x within 2 units in the last place (R173) -/

/-- The fixed-point scale of `expFix`. -/
def expScale : Nat := 2 ^ 256

/-- Taylor terms of e^y for a fixed-point `y` in 0 .. 1/8, by `n` remaining terms from term `k`. -/
def expTaylor (y : Nat) : Nat → Nat → Nat → Nat
  | 0, _, _ => 0
  | n + 1, k, term => term + expTaylor y n (k + 1) (term * y / expScale / (k + 1))

/-- Square a fixed-point value `k` times. -/
def sqFix : Nat → Nat → Nat
  | 0, v => v
  | k + 1, v => sqFix k (v * v / expScale)

/-- e^|x| in fixed point for |x| < 128, |x| = m * 2^e. -/
def expFixPos (m : Nat) (e : Int) : Nat :=
  let y := if -246 ≤ e then m * 2 ^ (e + 246).toNat else m / 2 ^ (-(e + 246)).toNat
  sqFix 10 (expTaylor y 40 0 expScale)

/-- The value of a nonnegative finite pattern in units of 2^-256. -/
def patFix (p : Nat) : Nat :=
  match fval (BitVec.ofNat 32 p) with
  | .fin _ m e => m * 2 ^ (e + 256).toNat
  | _ => 2 ^ 600

/-- One unit in the last place of the value `v` (units of 2^-256). -/
def ulpFix (v : Nat) : Nat := 2 ^ (max ((v.log2 : Int) - 23) (256 - 149)).toNat

/-- The patterns within 2 units in the last place of the value `v` (units of 2^-256), lowest first. -/
def expCandidates (v : Nat) : List Nat :=
  let n := packRound 24 (-149) (255 * 2 ^ 23) v (-256)
  ((List.range 13).map (fun i => n + i - 6)).filter (fun p =>
    decide (p < 255 * 2 ^ 23) && decide (patFix p ≤ v + 2 * ulpFix v) && decide (v ≤ patFix p + 2 * ulpFix v))

/-- `exp(x)`: some value within 2 units in the last place of e^x (R173); which one is free (log entry 6).
e^x beyond the binary32 range rounds as IEEE 754 gives; NaN gives NaN; e^-inf is 0 and e^+inf is +inf. -/
def fexp (x : F32) : F32 :=
  match fval x with
  | .nan => f32NaN 6 x 0 0
  | .inf n => if n then f32Zero false else f32Inf false
  | .fin n m e =>
    if m * 2 ^ (e + 149).toNat ≥ 128 * 2 ^ 149 then (if n then f32Zero false else f32Inf false)
    else
      let p := expFixPos m e
      let v := if n then expScale * expScale / p else p
      match expCandidates v with
      | [] => roundF32 false v (-256)
      | cs => BitVec.ofNat 32 (cs.getD (Config.expChoice x % cs.length) 0)

end Sys2Proof.Machine
end

