-- ==== Sys2Proof/Machine/RegMap.lean ====
section
/-! DEFINITION. The register map of BAR0 (17_register_index.md, R467-R472): where each register stands, its access code
(R11), its reset value, and the writable fields of RW and CM registers with the range of values each field takes (a value
outside the range leaves that field unchanged, as each register's table says). -/

namespace Sys2Proof.Machine

open Sys2Proof

/-- The access codes of R11; `cm g` belongs to commit group `g` (group 4 stands for 4 + w of Wing w). -/
inductive Access where
  | rw | ro | wo | w1c | rc
  | cm (group : Nat)
deriving DecidableEq, Repr

/-- A writable field: bits `[lo + w - 1 : lo]`, taking values `min` to `max`. -/
structure WField where
  lo : Nat
  w : Nat
  min : Nat
  max : Nat
deriving DecidableEq, Repr

/-- What the index says of one register. -/
structure RegInfo where
  access : Access
  reset : Nat
  fields : List WField
deriving DecidableEq, Repr

/-- Base of Wing w's common block (R467). -/
def wingBase (w : Wing) : Nat := 0x400000 + w.val * 0x100000

/-- Base of the block of Classroom k = 8 w + c (R467). -/
def roomBase (k : Fin 32) : Nat := 0x400000 + (k.val / 8) * 0x100000 + (k.val % 8 + 1) * 0x10000

/-- GLB_IDENT (R2). -/
def Off.glbIdent : Nat := 0x0
/-- GLB_COMMIT (R403). -/
def Off.glbCommit : Nat := 0x40
/-- GLB_COMMIT_STATUS (R403). -/
def Off.glbCommitStatus : Nat := 0x48
/-- HIF_CTRL (R345). -/
def Off.hifCtrl : Nat := 0x10000
/-- HIF_DOORBELL_BASE (R345). -/
def Off.hifDoorbellBase : Nat := 0x10008
/-- HIF_SHADOW_BASE (R345). -/
def Off.hifShadowBase : Nat := 0x10010
/-- HIF_RING0 (R345). -/
def Off.hifRing0 : Nat := 0x10018
/-- HIF_CQ0 (R345). -/
def Off.hifCq0 : Nat := 0x10020
/-- HIF_EVENT (R345). -/
def Off.hifEvent : Nat := 0x10028
/-- HIF_TELEMETRY (R345). -/
def Off.hifTelemetry : Nat := 0x10030
/-- HIF_TELEMETRY_CTRL (R345). -/
def Off.hifTelemetryCtrl : Nat := 0x10038
/-- HIF_HEARTBEAT (R345). -/
def Off.hifHeartbeat : Nat := 0x10040
/-- HIF_LINK (R345). -/
def Off.hifLink : Nat := 0x10048
/-- HIF_DESCRIPTORS (R345). -/
def Off.hifDescriptors : Nat := 0x10200
/-- HIF_RING_ERRORS (R345). -/
def Off.hifRingErrors : Nat := 0x10208
/-- HIF_EVENTS_LOST (R345). -/
def Off.hifEventsLost : Nat := 0x10210
/-- HIF_TELEMETRY_LOST (R345). -/
def Off.hifTelemetryLost : Nat := 0x10218
/-- HIF_MSIX_SENT (R345). -/
def Off.hifMsixSent : Nat := 0x10220
/-- HM_POLL (R345). -/
def Off.hmPoll : Nat := 0x20000
/-- HM_STATUS (R345). -/
def Off.hmStatus : Nat := 0x20008
/-- HM_POLLS (R345). -/
def Off.hmPolls : Nat := 0x20010
/-- HM_POLL_ERRORS (R345). -/
def Off.hmPollErrors : Nat := 0x20018
/-- ERR_STATUS (R465). -/
def Off.errStatus : Nat := 0x30000
/-- ERR_PERSIST (R465). -/
def Off.errPersist : Nat := 0x30008
/-- ERR_WATCHDOG (R465). -/
def Off.errWatchdog : Nat := 0x30010
/-- ERR_LEDGER_INFO (R465). -/
def Off.errLedgerInfo : Nat := 0x30018
/-- ERR_REG_ACCESS (R465). -/
def Off.errRegAccess : Nat := 0x30040
/-- ERR_LEDGER (R465). -/
def Off.errLedger : Nat := 0x30048
/-- ERR_CREDIT_DROPS (R465). -/
def Off.errCreditDrops : Nat := 0x30050
/-- ERR_LINK_RETRIES (R465). -/
def Off.errLinkRetries : Nat := 0x30058
/-- ERR_QUARANTINED (R465). -/
def Off.errQuarantined : Nat := 0x30060
/-- PWR_STATE (R403). -/
def Off.pwrState : Nat := 0x40000
/-- PWR_CTRL (R403). -/
def Off.pwrCtrl : Nat := 0x40008
/-- PWR_DUSK (R403). -/
def Off.pwrDusk : Nat := 0x40010
/-- PWR_NIGHT (R403). -/
def Off.pwrNight : Nat := 0x40018
/-- PWR_CLASS (R403). -/
def Off.pwrClass : Nat := 0x40020
/-- PWR_CLASS_STATE (R403). -/
def Off.pwrClassState : Nat := 0x40028
/-- PWR_LIMIT (R403). -/
def Off.pwrLimit : Nat := 0x40030
/-- PWR_STEP (R403). -/
def Off.pwrStep : Nat := 0x40038
/-- PWR_DRAW (R403). -/
def Off.pwrDraw : Nat := 0x40040
/-- PWR_THERMAL (R403). -/
def Off.pwrThermal : Nat := 0x40048
/-- PWR_TEMP (R403). -/
def Off.pwrTemp : Nat := 0x40050
/-- PWR_CDC_MODE (R403). -/
def Off.pwrCdcMode : Nat := 0x40058
/-- PWR_RESET_CAUSE (R403). -/
def Off.pwrResetCause : Nat := 0x40060
/-- PWR_DROOP (R403). -/
def Off.pwrDroop : Nat := 0x40068
/-- PWR_STEPS_DOWN (R403). -/
def Off.pwrStepsDown : Nat := 0x40080
/-- PWR_STEPS_UP (R403). -/
def Off.pwrStepsUp : Nat := 0x40088
/-- PWR_OVER_US (R403). -/
def Off.pwrOverUs : Nat := 0x40090
/-- PWR_EMERGENCIES (R403). -/
def Off.pwrEmergencies : Nat := 0x40098
/-- PWR_DROOP_TRIPS (R403). -/
def Off.pwrDroopTrips : Nat := 0x400A0
/-- PWR_DROOP_CYCLES0 (R403). -/
def Off.pwrDroopCycles0 : Nat := 0x400A8
/-- PWR_DROOP_CYCLES1 (R403). -/
def Off.pwrDroopCycles1 : Nat := 0x400B0
/-- PWR_DROOP_CYCLES2 (R403). -/
def Off.pwrDroopCycles2 : Nat := 0x400B8
/-- PWR_DROOP_CYCLES3 (R403). -/
def Off.pwrDroopCycles3 : Nat := 0x400C0
/-- PWR_WAKES (R403). -/
def Off.pwrWakes : Nat := 0x400C8
/-- PWR_CDC_DROPS (R403). -/
def Off.pwrCdcDrops : Nat := 0x400D0
/-- SEC_STATUS (R433). -/
def Off.secStatus : Nat := 0x50000
/-- SEC_VERSIONS (R433). -/
def Off.secVersions : Nat := 0x50008
/-- SEC_FLOORS (R433). -/
def Off.secFloors : Nat := 0x50010
/-- SEC_PERMIT (R433). -/
def Off.secPermit : Nat := 0x50018
/-- SEC_VERIFY_FAILS (R433). -/
def Off.secVerifyFails : Nat := 0x50040
/-- SEC_SPDM_REQUESTS (R433). -/
def Off.secSpdmRequests : Nat := 0x50048
/-- RBK_CMD (R449). -/
def Off.rbkCmd : Nat := 0x60000
/-- RBK_ARG (R449). -/
def Off.rbkArg : Nat := 0x60008
/-- RBK_NONCE0 (R449). -/
def Off.rbkNonce0 : Nat := 0x60010
/-- RBK_NONCE1 (R449). -/
def Off.rbkNonce1 : Nat := 0x60018
/-- RBK_STATUS (R449). -/
def Off.rbkStatus : Nat := 0x60020
/-- RBK_TALLY_SENT (R449). -/
def Off.rbkTallySent : Nat := 0x60028
/-- RBK_TALLY_SEQ (R449). -/
def Off.rbkTallySeq : Nat := 0x60030
/-- FAB_CTRL (R374). -/
def Off.fabCtrl : Nat := 0x80000
/-- FAB_PORT_CFG (R374). -/
def Off.fabPortCfg : Nat := 0x80008
/-- FAB_ACK (R374). -/
def Off.fabAck : Nat := 0x80010
/-- FAB_RTO (R374). -/
def Off.fabRto : Nat := 0x80018
/-- FAB_RATE (R374). -/
def Off.fabRate : Nat := 0x80020
/-- FAB_CTX_SEL (R374). -/
def Off.fabCtxSel : Nat := 0x80028
/-- FAB_CTX_CMD (R374). -/
def Off.fabCtxCmd : Nat := 0x80030
/-- FAB_INJ_SEL (R374, R372). -/
def Off.fabInjSel : Nat := 0x80080
/-- FAB_INJ_CFG0 (R374, R372). -/
def Off.fabInjCfg0 : Nat := 0x80088
/-- FAB_INJ_CFG1 (R374, R372). -/
def Off.fabInjCfg1 : Nat := 0x80090
/-- FAB_INJ_STATUS (R374). -/
def Off.fabInjStatus : Nat := 0x80098
/-- FAB_TX_PKTS (R374). -/
def Off.fabTxPkts : Nat := 0x80100
/-- FAB_RX_PKTS (R374). -/
def Off.fabRxPkts : Nat := 0x80108
/-- FAB_RETX (R374). -/
def Off.fabRetx : Nat := 0x80110
/-- FAB_CRC_DROPS (R374). -/
def Off.fabCrcDrops : Nat := 0x80118
/-- FAB_STALE_DROPS (R374). -/
def Off.fabStaleDrops : Nat := 0x80120
/-- FAB_FOREIGN_DROPS (R374). -/
def Off.fabForeignDrops : Nat := 0x80128
/-- FAB_CE_MARKS (R374). -/
def Off.fabCeMarks : Nat := 0x80130
/-- FAB_PEERS_LOST (R374). -/
def Off.fabPeersLost : Nat := 0x80138
/-- FAB_EXPORT_REFUSED (R374). -/
def Off.fabExportRefused : Nat := 0x80140
/-- FAB_INJECTED (R374). -/
def Off.fabInjected : Nat := 0x80148
/-- FAB_PORTn_STATUS of port `n` (R374). -/
def Off.fabPortStatus (n : Nat) : Nat := 0x81000 + 0x40 * n + 0x0
/-- FAB_PORTn_MAC of port `n` (R374). -/
def Off.fabPortMac (n : Nat) : Nat := 0x81000 + 0x40 * n + 0x8
/-- FAB_PORTn_IPV4 of port `n` (R374). -/
def Off.fabPortIpv4 (n : Nat) : Nat := 0x81000 + 0x40 * n + 0x10
/-- FAB_PORTn_IPV6_HI of port `n` (R374). -/
def Off.fabPortIpv6Hi (n : Nat) : Nat := 0x81000 + 0x40 * n + 0x18
/-- FAB_PORTn_IPV6_LO of port `n` (R374). -/
def Off.fabPortIpv6Lo (n : Nat) : Nat := 0x81000 + 0x40 * n + 0x20
/-- ASM_STATUS (R374). -/
def Off.asmStatus : Nat := 0xC0000
/-- ASM_COLLECTIVES (R374). -/
def Off.asmCollectives : Nat := 0xC0040
/-- ASM_REPEATS (R374). -/
def Off.asmRepeats : Nat := 0xC0048
/-- ASM_FAILED (R374). -/
def Off.asmFailed : Nat := 0xC0050
/-- ASM_SATURATED (R374). -/
def Off.asmSaturated : Nat := 0xC0058
/-- ASM_BYTES (R374). -/
def Off.asmBytes : Nat := 0xC0060
/-- MEM_STATUS of stack `s` (R220). -/
def Off.memStatus (s : Nat) : Nat := 0x100000 + s * 0x1000 + 0x0
/-- MEM_BUDGET of stack `s` (R220). -/
def Off.memBudget (s : Nat) : Nat := 0x100000 + s * 0x1000 + 0x8
/-- MEM_SCRUB of stack `s` (R220). -/
def Off.memScrub (s : Nat) : Nat := 0x100000 + s * 0x1000 + 0x10
/-- MEM_CORRECTED of stack `s` (R220). -/
def Off.memCorrected (s : Nat) : Nat := 0x100000 + s * 0x1000 + 0x18
/-- MEM_UNCORRECTABLE of stack `s` (R220). -/
def Off.memUncorrectable (s : Nat) : Nat := 0x100000 + s * 0x1000 + 0x20
/-- MEM_CHECK_FAILS of stack `s` (R220). -/
def Off.memCheckFails (s : Nat) : Nat := 0x100000 + s * 0x1000 + 0x28
/-- MEM_POISON_READS of stack `s` (R220). -/
def Off.memPoisonReads (s : Nat) : Nat := 0x100000 + s * 0x1000 + 0x30
/-- MEM_SECTORS_LAT of stack `s` (R220). -/
def Off.memSectorsLat (s : Nat) : Nat := 0x100000 + s * 0x1000 + 0x38
/-- MEM_SECTORS_WGT of stack `s` (R220). -/
def Off.memSectorsWgt (s : Nat) : Nat := 0x100000 + s * 0x1000 + 0x40
/-- MEM_SECTORS_MOVE of stack `s` (R220). -/
def Off.memSectorsMove (s : Nat) : Nat := 0x100000 + s * 0x1000 + 0x48
/-- MEM_MOVE_STARVED of stack `s` (R220). -/
def Off.memMoveStarved (s : Nat) : Nat := 0x100000 + s * 0x1000 + 0x50
/-- MEM_ERR_ADDR of stack `s` (R220). -/
def Off.memErrAddr (s : Nat) : Nat := 0x100000 + s * 0x1000 + 0x58
/-- MEM_INTERLEAVE (R220). -/
def Off.memInterleave : Nat := 0x120000
/-- MEM_SHARED_WAYS (R220). -/
def Off.memSharedWays : Nat := 0x120008
/-- MEM_MOVES (R220). -/
def Off.memMoves : Nat := 0x120010
/-- MEM_MOVE_FAILS (R220). -/
def Off.memMoveFails : Nat := 0x120018
/-- SRV_SESSION_TABLE (R281). -/
def Off.srvSessionTable : Nat := 0x200000
/-- SRV_PREFIX_BUCKETS (R281). -/
def Off.srvPrefixBuckets : Nat := 0x200008
/-- SRV_PREFIX_NODES (R281). -/
def Off.srvPrefixNodes : Nat := 0x200010
/-- SRV_PREFIX_EXT (R281). -/
def Off.srvPrefixExt : Nat := 0x200018
/-- SRV_STOPSETS (R281). -/
def Off.srvStopsets : Nat := 0x200020
/-- SRV_ROSTER_CTRL (R281). -/
def Off.srvRosterCtrl : Nat := 0x200028
/-- SRV_PACE (R281). -/
def Off.srvPace : Nat := 0x200030
/-- SRV_TTL (R281). -/
def Off.srvTtl : Nat := 0x200038
/-- SRV_NOW_MS (R281). -/
def Off.srvNowMs : Nat := 0x200040
/-- SRV_SESSIONS (R281). -/
def Off.srvSessions : Nat := 0x200048
/-- SRV_STEP (R281). -/
def Off.srvStep : Nat := 0x200050
/-- SRV_ROSTER_SKIPS (R281). -/
def Off.srvRosterSkips : Nat := 0x200080
/-- SRV_PREFIX_TAKEN (R281). -/
def Off.srvPrefixTaken : Nat := 0x200088
/-- SRV_PREFIX_COLLISIONS (R281). -/
def Off.srvPrefixCollisions : Nat := 0x200090
/-- SRV_PREFIX_PUBLISHED (R281). -/
def Off.srvPrefixPublished : Nat := 0x200098
/-- SRV_PREFIX_NO_NODE (R281). -/
def Off.srvPrefixNoNode : Nat := 0x2000A0
/-- SRV_PREFIX_TRIMMED (R281). -/
def Off.srvPrefixTrimmed : Nat := 0x2000A8
/-- SRV_TTL_EXPIRED (R281). -/
def Off.srvTtlExpired : Nat := 0x2000B0
/-- SRV_TOKENS_DRAWN (R281). -/
def Off.srvTokensDrawn : Nat := 0x2000B8
/-- SRV_REPLAY_CTRL (R86). -/
def Off.srvReplayCtrl : Nat := 0x200400
/-- SRV_REPLAYS_TROUBLE (R86). -/
def Off.srvReplaysTrouble : Nat := 0x200408
/-- SRV_REPLAYS_ERROR (R86). -/
def Off.srvReplaysError : Nat := 0x200410
/-- SRV_STEPS_DEGRADED (R86). -/
def Off.srvStepsDegraded : Nat := 0x200418
/-- SRV_STEPS_FAILED (R86). -/
def Off.srvStepsFailed : Nat := 0x200420
/-- SRV_KV_CTRL (R245). -/
def Off.srvKvCtrl : Nat := 0x200600
/-- SRV_KV_WATER (R245). -/
def Off.srvKvWater : Nat := 0x200608
/-- SRV_KV_DECAY (R245). -/
def Off.srvKvDecay : Nat := 0x200610
/-- SRV_KV_COARSE (R245). -/
def Off.srvKvCoarse : Nat := 0x200618
/-- SRV_KV_FREE0 (R245). -/
def Off.srvKvFree0 : Nat := 0x200620
/-- SRV_KV_FREE1 (R245). -/
def Off.srvKvFree1 : Nat := 0x200628
/-- SRV_KV_FREE2 (R245). -/
def Off.srvKvFree2 : Nat := 0x200630
/-- SRV_KV_FREE3 (R245). -/
def Off.srvKvFree3 : Nat := 0x200638
/-- SRV_KV_EVICTED (R245). -/
def Off.srvKvEvicted : Nat := 0x200640
/-- SRV_KV_FLUSHES (R245). -/
def Off.srvKvFlushes : Nat := 0x200648
/-- SRV_KV_LOST (R245). -/
def Off.srvKvLost : Nat := 0x200650
/-- SRV_MDL_RESIDENT (R300). -/
def Off.srvMdlResident : Nat := 0x200800
/-- SRV_MDL_REPAIR (R300). -/
def Off.srvMdlRepair : Nat := 0x200808
/-- SRV_MSET_COUNTS (R300). -/
def Off.srvMsetCounts : Nat := 0x200810
/-- SRV_MDL_LOADS (R300). -/
def Off.srvMdlLoads : Nat := 0x200840
/-- SRV_MDL_ROLLBACKS (R300). -/
def Off.srvMdlRollbacks : Nat := 0x200848
/-- SRV_MDL_POISONED (R300). -/
def Off.srvMdlPoisoned : Nat := 0x200850
/-- SRV_MDL_REPAIRED (R300). -/
def Off.srvMdlRepaired : Nat := 0x200858
/-- SRV_MDL_LOST (R300). -/
def Off.srvMdlLost : Nat := 0x200860
/-- SRV_MSET_INSTALLS (R300). -/
def Off.srvMsetInstalls : Nat := 0x200868
/-- SRV_MSET_RETIRED (R300). -/
def Off.srvMsetRetired : Nat := 0x200870
/-- SEQ_STATUS of Wing `w` (R156). -/
def Off.seqStatus (w : Wing) : Nat := wingBase w + 0x0
/-- SEQ_LESSON_TABLE of Wing `w` (R156). -/
def Off.seqLessonTable (w : Wing) : Nat := wingBase w + 0x8
/-- SEQ_ROSTER_BASE of Wing `w` (R156). -/
def Off.seqRosterBase (w : Wing) : Nat := wingBase w + 0x10
/-- SEQ_ROSTER_SIZE of Wing `w` (R156). -/
def Off.seqRosterSize (w : Wing) : Nat := wingBase w + 0x18
/-- SEQ_BELL_LIMIT of Wing `w` (R156). -/
def Off.seqBellLimit (w : Wing) : Nat := wingBase w + 0x20
/-- SEQ_TCOUNT of Wing `w` (R156). -/
def Off.seqTcount (w : Wing) : Nat := wingBase w + 0x28
/-- SEQ_FAULT_INFO of Wing `w` (R156). -/
def Off.seqFaultInfo (w : Wing) : Nat := wingBase w + 0x30
/-- SEQ_STEPS of Wing `w` (R156). -/
def Off.seqSteps (w : Wing) : Nat := wingBase w + 0x40
/-- SEQ_HOLDS of Wing `w` (R156). -/
def Off.seqHolds (w : Wing) : Nat := wingBase w + 0x48
/-- SEQ_HOLD_CYCLES of Wing `w` (R156). -/
def Off.seqHoldCycles (w : Wing) : Nat := wingBase w + 0x50
/-- SEQ_HOLD_DATA_LATE of Wing `w` (R156). -/
def Off.seqHoldDataLate (w : Wing) : Nat := wingBase w + 0x58
/-- SEQ_HOLD_EXPANDER_LATE of Wing `w` (R156). -/
def Off.seqHoldExpanderLate (w : Wing) : Nat := wingBase w + 0x60
/-- SEQ_HOLD_BELL_WAIT of Wing `w` (R156). -/
def Off.seqHoldBellWait (w : Wing) : Nat := wingBase w + 0x68
/-- SEQ_HOLD_CODEBOOK_BUSY of Wing `w` (R156). -/
def Off.seqHoldCodebookBusy (w : Wing) : Nat := wingBase w + 0x70
/-- SEQ_HOLD_NARROW_STARVED of Wing `w` (R156). -/
def Off.seqHoldNarrowStarved (w : Wing) : Nat := wingBase w + 0x78
/-- SEQ_FAULTS of Wing `w` (R156). -/
def Off.seqFaults (w : Wing) : Nat := wingBase w + 0x80
/-- SEQ_BELL_TIMEOUTS of Wing `w` (R156). -/
def Off.seqBellTimeouts (w : Wing) : Nat := wingBase w + 0x88
/-- LIB_SPLIT of Wing `w` (R187). -/
def Off.libSplit (w : Wing) : Nat := wingBase w + 0x100
/-- LIB_SCRUB of Wing `w` (R187). -/
def Off.libScrub (w : Wing) : Nat := wingBase w + 0x108
/-- LIB_HITS of Wing `w` (R187). -/
def Off.libHits (w : Wing) : Nat := wingBase w + 0x110
/-- LIB_MISSES of Wing `w` (R187). -/
def Off.libMisses (w : Wing) : Nat := wingBase w + 0x118
/-- LIB_KEEP_REFUSED of Wing `w` (R187). -/
def Off.libKeepRefused (w : Wing) : Nat := wingBase w + 0x120
/-- LIB_CORRECTED of Wing `w` (R187). -/
def Off.libCorrected (w : Wing) : Nat := wingBase w + 0x128
/-- LIB_UNCORRECTABLE of Wing `w` (R187). -/
def Off.libUncorrectable (w : Wing) : Nat := wingBase w + 0x130
/-- LIB_REFETCH of Wing `w` (R187). -/
def Off.libRefetch (w : Wing) : Nat := wingBase w + 0x138
/-- LIB_ERR_ADDR of Wing `w` (R187). -/
def Off.libErrAddr (w : Wing) : Nat := wingBase w + 0x140
/-- ARR_STATUS of Classroom `k` of 0-31 (R62). -/
def Off.arrStatus (k : Fin 32) : Nat := roomBase k + 0x100
/-- ARR_FEED_CYCLES of Classroom `k` of 0-31 (R62). -/
def Off.arrFeedCycles (k : Fin 32) : Nat := roomBase k + 0x108
/-- ARR_NONZERO of Classroom `k` of 0-31 (R62). -/
def Off.arrNonzero (k : Fin 32) : Nat := roomBase k + 0x110
/-- ARR_CLAMPED of Classroom `k` of 0-31 (R62). -/
def Off.arrClamped (k : Fin 32) : Nat := roomBase k + 0x118
/-- ARR_SAT of Classroom `k` of 0-31 (R62). -/
def Off.arrSat (k : Fin 32) : Nat := roomBase k + 0x120
/-- ARR_PARITY of Classroom `k` of 0-31 (R62). -/
def Off.arrParity (k : Fin 32) : Nat := roomBase k + 0x128
/-- ARR_SWAP_WAITS of Classroom `k` of 0-31 (R62). -/
def Off.arrSwapWaits (k : Fin 32) : Nat := roomBase k + 0x130
/-- VEC_Q_BLOCKS of Classroom `k` of 0-31 (R86). -/
def Off.vecQBlocks (k : Fin 32) : Nat := roomBase k + 0x200
/-- VEC_Q_SAT of Classroom `k` of 0-31 (R86). -/
def Off.vecQSat (k : Fin 32) : Nat := roomBase k + 0x208
/-- VEC_Q_ZERO of Classroom `k` of 0-31 (R86). -/
def Off.vecQZero (k : Fin 32) : Nat := roomBase k + 0x210
/-- VEC_Q_TROUBLE of Classroom `k` of 0-31 (R86). -/
def Off.vecQTrouble (k : Fin 32) : Nat := roomBase k + 0x218
/-- VEC_ATT_EMPTY of Classroom `k` of 0-31 (R245). -/
def Off.vecAttEmpty (k : Fin 32) : Nat := roomBase k + 0x220
/-- EXP_STATUS of Classroom `k` of 0-31 (R120). -/
def Off.expStatus (k : Fin 32) : Nat := roomBase k + 0x300
/-- EXP_CB_GEN0 of Classroom `k` of 0-31 (R120). -/
def Off.expCbGen0 (k : Fin 32) : Nat := roomBase k + 0x308
/-- EXP_CB_GEN1 of Classroom `k` of 0-31 (R120). -/
def Off.expCbGen1 (k : Fin 32) : Nat := roomBase k + 0x310
/-- EXP_CB_USE of Classroom `k` of 0-31 (R120). -/
def Off.expCbUse (k : Fin 32) : Nat := roomBase k + 0x318
/-- EXP_ITEMS of Classroom `k` of 0-31 (R120). -/
def Off.expItems (k : Fin 32) : Nat := roomBase k + 0x320
/-- EXP_OVER_BUDGET of Classroom `k` of 0-31 (R120). -/
def Off.expOverBudget (k : Fin 32) : Nat := roomBase k + 0x328
/-- EXP_CHECK of Classroom `k` of 0-31 (R120). -/
def Off.expCheck (k : Fin 32) : Nat := roomBase k + 0x330
/-- EXP_FAULTS of Classroom `k` of 0-31 (R120). -/
def Off.expFaults (k : Fin 32) : Nat := roomBase k + 0x338
/-- EXP_PLANE_RANGE of Classroom `k` of 0-31 (R120). -/
def Off.expPlaneRange (k : Fin 32) : Nat := roomBase k + 0x340
/-- LOC_BLOCKS of Classroom `k` of 0-31 (R120). -/
def Off.locBlocks (k : Fin 32) : Nat := roomBase k + 0x380
/-- LOC_RAW of Classroom `k` of 0-31 (R120). -/
def Off.locRaw (k : Fin 32) : Nat := roomBase k + 0x388
/-- SLT_WIDE_WAITS of Classroom `k` of 0-31 (R187). -/
def Off.sltWideWaits (k : Fin 32) : Nat := roomBase k + 0x400
/-- SLT_NARROW_WAITS of Classroom `k` of 0-31 (R187). -/
def Off.sltNarrowWaits (k : Fin 32) : Nat := roomBase k + 0x408
/-- SLT_STARVED of Classroom `k` of 0-31 (R187). -/
def Off.sltStarved (k : Fin 32) : Nat := roomBase k + 0x410
/-- SLT_CORRECTED of Classroom `k` of 0-31 (R187). -/
def Off.sltCorrected (k : Fin 32) : Nat := roomBase k + 0x418
/-- SLT_UNCORRECTABLE of Classroom `k` of 0-31 (R187). -/
def Off.sltUncorrectable (k : Fin 32) : Nat := roomBase k + 0x420
/-- SLT_SEL_CHECK of Classroom `k` of 0-31 (R187). -/
def Off.sltSelCheck (k : Fin 32) : Nat := roomBase k + 0x428
/-- SLT_ERR_ADDR of Classroom `k` of 0-31 (R187). -/
def Off.sltErrAddr (k : Fin 32) : Nat := roomBase k + 0x430
/-- SLT_DBG_ADDR of Classroom `k` of 0-31 (R187). -/
def Off.sltDbgAddr (k : Fin 32) : Nat := roomBase k + 0x438
/-- SLT_DBG_DATA of Classroom `k` of 0-31 (R187). -/
def Off.sltDbgData (k : Fin 32) : Nat := roomBase k + 0x440
/-- SB_CORRECTED of Classroom `k` of 0-31 (R187). -/
def Off.sbCorrected (k : Fin 32) : Nat := roomBase k + 0x480
/-- SB_UNCORRECTABLE of Classroom `k` of 0-31 (R187). -/
def Off.sbUncorrectable (k : Fin 32) : Nat := roomBase k + 0x488
/-- SB_ERR_ADDR of Classroom `k` of 0-31 (R187). -/
def Off.sbErrAddr (k : Fin 32) : Nat := roomBase k + 0x490
/-- Word `k` of the telemetry list (R345). -/
def Off.hifTelemetryList (k : Nat) : Nat := 0x10100 + 8 * k
/-- Word `k` of the Rollbook's response (R449). -/
def Off.rbkResp (k : Nat) : Nat := 0x60400 + 8 * k
/-- Context data register `k` (R374). -/
def Off.fabCtxData (k : Nat) : Nat := 0x80040 + 8 * k
/-- Word `j` of the record of Assembly group `g` (R361). -/
def Off.asmGroup (g j : Nat) : Nat := 0xC1000 + 256 * g + 8 * j

/-- The registers of the GLB block, by offset in it (R471, R472). -/
def regsGlb : List (Nat × RegInfo) :=
  [(0x0, ⟨.ro, 0x0000000020A10B32, []⟩),
   (0x40, ⟨.wo, 0, []⟩),
   (0x48, ⟨.w1c, 0, []⟩)]

/-- The registers of the HIF block, by offset in it (R471, R472). -/
def regsHif : List (Nat × RegInfo) :=
  [(0x0, ⟨.rw, 0, [⟨0, 1, 0, 1⟩, ⟨1, 1, 0, 1⟩, ⟨2, 20, 0, 1048575⟩]⟩),
   (0x8, ⟨.rw, 0, [⟨12, 36, 0, 68719476735⟩]⟩),
   (0x10, ⟨.rw, 0, [⟨12, 36, 0, 68719476735⟩]⟩),
   (0x18, ⟨.rw, 0x0004000000000000, [⟨12, 36, 0, 68719476735⟩, ⟨48, 5, 4, 16⟩, ⟨53, 11, 0, 2047⟩]⟩),
   (0x20, ⟨.rw, 0x0004000000000000, [⟨12, 36, 0, 68719476735⟩, ⟨48, 5, 4, 20⟩, ⟨53, 11, 0, 2047⟩]⟩),
   (0x28, ⟨.rw, 0x0004000000000000, [⟨12, 36, 0, 68719476735⟩, ⟨48, 5, 4, 16⟩, ⟨53, 11, 0, 2047⟩]⟩),
   (0x30, ⟨.rw, 0x0004000000000000, [⟨12, 36, 0, 68719476735⟩, ⟨48, 5, 4, 16⟩, ⟨53, 11, 0, 2047⟩]⟩),
   (0x38, ⟨.rw, 0, [⟨0, 16, 0, 65535⟩, ⟨16, 7, 0, 64⟩]⟩),
   (0x40, ⟨.rw, 0, [⟨3, 45, 0, 35184372088831⟩]⟩),
   (0x48, ⟨.ro, 0, []⟩),
   (0x200, ⟨.rc, 0, []⟩),
   (0x208, ⟨.rc, 0, []⟩)] ++
  [(0x210, ⟨.rc, 0, []⟩),
   (0x218, ⟨.rc, 0, []⟩),
   (0x220, ⟨.rc, 0, []⟩)]

/-- The registers of the HM block, by offset in it (R471, R472). -/
def regsHm : List (Nat × RegInfo) :=
  [(0x0, ⟨.rw, 0x0000000000010014, [⟨0, 12, 1, 2000⟩, ⟨12, 7, 1, 64⟩]⟩),
   (0x8, ⟨.ro, 0, []⟩),
   (0x10, ⟨.rc, 0, []⟩),
   (0x18, ⟨.rc, 0, []⟩)]

/-- The registers of the ERR block, by offset in it (R471, R472). -/
def regsErr : List (Nat × RegInfo) :=
  [(0x0, ⟨.ro, 0, []⟩),
   (0x8, ⟨.rw, 0x0000000000004008, [⟨0, 8, 0, 255⟩, ⟨8, 16, 0, 65535⟩]⟩),
   (0x10, ⟨.rw, 0x0000000000002710, [⟨0, 32, 0, 4294967295⟩]⟩),
   (0x18, ⟨.ro, 0, []⟩),
   (0x40, ⟨.rc, 0, []⟩),
   (0x48, ⟨.rc, 0, []⟩),
   (0x50, ⟨.rc, 0, []⟩),
   (0x58, ⟨.rc, 0, []⟩),
   (0x60, ⟨.rc, 0, []⟩)]

/-- The registers of the PWR block, by offset in it (R471, R472). -/
def regsPwr : List (Nat × RegInfo) :=
  [(0x0, ⟨.ro, 0x0000000000000001, []⟩),
   (0x8, ⟨.rw, 0x0000000000000002, [⟨0, 3, 2, 5⟩]⟩),
   (0x10, ⟨.rw, 0, [⟨0, 32, 0, 4294967295⟩]⟩),
   (0x18, ⟨.rw, 0x00000000000007D0, [⟨0, 12, 1, 2000⟩]⟩),
   (0x20, ⟨.rw, 0x0000000003E80064, [⟨0, 16, 0, 65535⟩, ⟨16, 16, 0, 65535⟩]⟩),
   (0x28, ⟨.ro, 0xAAAAAAAAAAAAAAAA, []⟩),
   (0x30, ⟨(.cm 0), 0x0000006400032640, [⟨0, 11, 800, 1600⟩, ⟨12, 8, 0, 255⟩, ⟨20, 3, 0, 4⟩, ⟨32, 16, 1, 65535⟩]⟩),
   (0x38, ⟨.ro, 0x0000000000000200, []⟩),
   (0x40, ⟨.ro, 0, []⟩),
   (0x48, ⟨.rw, 0x0000000000006E64, [⟨0, 8, 60, 105⟩]⟩),
   (0x50, ⟨.ro, 0, []⟩),
   (0x58, ⟨(.cm 1), 0, [⟨0, 16, 0, 65535⟩]⟩)] ++
  [(0x60, ⟨.ro, 0, []⟩),
   (0x68, ⟨.rw, 0x0000000000000040, [⟨0, 16, 1, 65535⟩]⟩),
   (0x80, ⟨.rc, 0, []⟩),
   (0x88, ⟨.rc, 0, []⟩),
   (0x90, ⟨.rc, 0, []⟩),
   (0x98, ⟨.rc, 0, []⟩),
   (0xA0, ⟨.rc, 0, []⟩),
   (0xA8, ⟨.rc, 0, []⟩),
   (0xB0, ⟨.rc, 0, []⟩),
   (0xB8, ⟨.rc, 0, []⟩),
   (0xC0, ⟨.rc, 0, []⟩),
   (0xC8, ⟨.rc, 0, []⟩)] ++
  [(0xD0, ⟨.rc, 0, []⟩)]

/-- The registers of the SEC block, by offset in it (R471, R472). -/
def regsSec : List (Nat × RegInfo) :=
  [(0x0, ⟨.ro, 0x0000000000000100, []⟩),
   (0x8, ⟨.ro, 0, []⟩),
   (0x10, ⟨.ro, 0, []⟩),
   (0x18, ⟨.ro, 0, []⟩),
   (0x40, ⟨.rc, 0, []⟩),
   (0x48, ⟨.rc, 0, []⟩)]

/-- The registers of the RBK block, by offset in it (R471, R472). -/
def regsRbk : List (Nat × RegInfo) :=
  [(0x0, ⟨.rw, 0, [⟨0, 8, 0, 255⟩, ⟨8, 10, 0, 1023⟩, ⟨18, 5, 0, 31⟩]⟩),
   (0x8, ⟨.rw, 0, [⟨0, 64, 0, 18446744073709551615⟩]⟩),
   (0x10, ⟨.rw, 0, [⟨0, 64, 0, 18446744073709551615⟩]⟩),
   (0x18, ⟨.rw, 0, [⟨0, 64, 0, 18446744073709551615⟩]⟩),
   (0x20, ⟨.ro, 0, []⟩),
   (0x28, ⟨.rc, 0, []⟩),
   (0x30, ⟨.ro, 0, []⟩)]

/-- The registers of the FAB block, by offset in it (R471, R472). -/
def regsFab : List (Nat × RegInfo) :=
  [(0x0, ⟨.rw, 0x0000000015E2934C, [⟨0, 1, 0, 1⟩, ⟨1, 1, 0, 1⟩, ⟨2, 3, 0, 7⟩, ⟨5, 6, 0, 63⟩, ⟨11, 16, 0, 65535⟩, ⟨27, 2, 0, 2⟩]⟩),
   (0x8, ⟨(.cm 3), 0x0000000000000004, [⟨0, 2, 0, 2⟩, ⟨2, 1, 0, 1⟩]⟩),
   (0x10, ⟨.rw, 0x0000000000000408, [⟨0, 8, 1, 255⟩, ⟨8, 8, 1, 255⟩]⟩),
   (0x18, ⟨.rw, 0x0000000190070064, [⟨0, 16, 1, 65535⟩, ⟨16, 4, 1, 15⟩, ⟨20, 16, 1, 65535⟩]⟩),
   (0x20, ⟨.rw, 0x0001388003E80032, [⟨0, 16, 1, 65535⟩, ⟨16, 20, 1, 1048575⟩, ⟨36, 20, 1, 1048575⟩]⟩),
   (0x28, ⟨.rw, 0, [⟨0, 12, 0, 4095⟩]⟩),
   (0x30, ⟨.rw, 0, []⟩),
   (0x80, ⟨.rw, 0, [⟨0, 12, 0, 4095⟩]⟩),
   (0x88, ⟨.rw, 0, [⟨0, 64, 0, 18446744073709551615⟩]⟩),
   (0x90, ⟨.rw, 0, [⟨0, 16, 0, 65535⟩, ⟨16, 16, 0, 65535⟩, ⟨32, 32, 0, 4294967295⟩]⟩),
   (0x98, ⟨.ro, 0, []⟩),
   (0x100, ⟨.rc, 0, []⟩)] ++
  [(0x108, ⟨.rc, 0, []⟩),
   (0x110, ⟨.rc, 0, []⟩),
   (0x118, ⟨.rc, 0, []⟩),
   (0x120, ⟨.rc, 0, []⟩),
   (0x128, ⟨.rc, 0, []⟩),
   (0x130, ⟨.rc, 0, []⟩),
   (0x138, ⟨.rc, 0, []⟩),
   (0x140, ⟨.rc, 0, []⟩),
   (0x148, ⟨.rc, 0, []⟩)]

/-- The registers of the ASM block, by offset in it (R471, R472). -/
def regsAsm : List (Nat × RegInfo) :=
  [(0x0, ⟨.ro, 0, []⟩),
   (0x40, ⟨.rc, 0, []⟩),
   (0x48, ⟨.rc, 0, []⟩),
   (0x50, ⟨.rc, 0, []⟩),
   (0x58, ⟨.rc, 0, []⟩),
   (0x60, ⟨.rc, 0, []⟩)]

/-- The registers of the MEM32 block, by offset in it (R471, R472). -/
def regsMem32 : List (Nat × RegInfo) :=
  [(0x0, ⟨(.cm 2), 0, [⟨0, 16, 0, 65535⟩]⟩),
   (0x8, ⟨.rw, 0x000000000000FFFF, [⟨0, 16, 0, 65535⟩]⟩),
   (0x10, ⟨.rc, 0, []⟩),
   (0x18, ⟨.rc, 0, []⟩)]

/-- The registers of the SRV block, by offset in it (R471, R472). -/
def regsSrv : List (Nat × RegInfo) :=
  [(0x0, ⟨.rw, 0, [⟨0, 5, 0, 31⟩, ⟨8, 40, 0, 1099511627775⟩]⟩),
   (0x8, ⟨.rw, 0, [⟨0, 5, 0, 31⟩, ⟨8, 40, 0, 1099511627775⟩]⟩),
   (0x10, ⟨.rw, 0, [⟨0, 5, 0, 31⟩, ⟨8, 40, 0, 1099511627775⟩]⟩),
   (0x18, ⟨.rw, 0, [⟨0, 5, 0, 31⟩, ⟨8, 40, 0, 1099511627775⟩]⟩),
   (0x20, ⟨.rw, 0, [⟨0, 5, 0, 31⟩, ⟨8, 40, 0, 1099511627775⟩]⟩),
   (0x28, ⟨.rw, 0x0000000100002000, [⟨0, 14, 1, 8192⟩, ⟨16, 17, 1, 65536⟩]⟩),
   (0x30, ⟨.rw, 0, [⟨0, 20, 0, 1000000⟩]⟩),
   (0x38, ⟨.rw, 0x000000000000EA60, [⟨0, 32, 0, 4294967295⟩]⟩),
   (0x40, ⟨.ro, 0, []⟩),
   (0x48, ⟨.ro, 0, []⟩),
   (0x50, ⟨.ro, 0, []⟩),
   (0x80, ⟨.rc, 0, []⟩)] ++
  [(0x88, ⟨.rc, 0, []⟩),
   (0x90, ⟨.rc, 0, []⟩),
   (0x98, ⟨.rc, 0, []⟩),
   (0xA0, ⟨.rc, 0, []⟩),
   (0xA8, ⟨.rc, 0, []⟩),
   (0xB0, ⟨.rc, 0, []⟩),
   (0xB8, ⟨.rc, 0, []⟩),
   (0x400, ⟨.rw, 0x0000000000000002, [⟨0, 2, 0, 3⟩]⟩),
   (0x408, ⟨.rc, 0, []⟩),
   (0x410, ⟨.rc, 0, []⟩),
   (0x418, ⟨.rc, 0, []⟩),
   (0x420, ⟨.rc, 0, []⟩)] ++
  [(0x600, ⟨.rw, 0x0000000000011004, [⟨0, 8, 0, 255⟩, ⟨8, 8, 0, 255⟩, ⟨16, 1, 0, 1⟩]⟩),
   (0x608, ⟨.rw, 0, [⟨0, 32, 0, 4294967295⟩, ⟨32, 32, 0, 4294967295⟩]⟩),
   (0x610, ⟨.rw, 0x000000003C23D70A, [⟨0, 32, 0, 2139095039⟩]⟩),
   (0x618, ⟨.rw, 0x0000000000200000, [⟨0, 16, 0, 65535⟩, ⟨16, 7, 1, 64⟩]⟩),
   (0x620, ⟨.ro, 0, []⟩),
   (0x628, ⟨.ro, 0, []⟩),
   (0x630, ⟨.ro, 0, []⟩),
   (0x638, ⟨.ro, 0, []⟩),
   (0x640, ⟨.rc, 0, []⟩),
   (0x648, ⟨.rc, 0, []⟩),
   (0x650, ⟨.rc, 0, []⟩),
   (0x800, ⟨.ro, 0, []⟩)] ++
  [(0x808, ⟨.ro, 0x0007FF8000000000, []⟩),
   (0x810, ⟨.ro, 0x0000004000000000, []⟩),
   (0x840, ⟨.rc, 0, []⟩),
   (0x848, ⟨.rc, 0, []⟩),
   (0x850, ⟨.rc, 0, []⟩),
   (0x858, ⟨.rc, 0, []⟩),
   (0x860, ⟨.rc, 0, []⟩),
   (0x868, ⟨.rc, 0, []⟩),
   (0x870, ⟨.rc, 0, []⟩)]

/-- The registers of the WING block, by offset in it (R471, R472). -/
def regsWing : List (Nat × RegInfo) :=
  [(0x0, ⟨.ro, 0, []⟩),
   (0x8, ⟨.rw, 0, [⟨11, 19, 0, 524287⟩]⟩),
   (0x10, ⟨.rw, 0, [⟨12, 18, 0, 262143⟩]⟩),
   (0x18, ⟨.rw, 0x0000000000000014, [⟨0, 5, 12, 24⟩]⟩),
   (0x20, ⟨.rw, 0x0000000001000000, [⟨0, 32, 0, 4294967295⟩]⟩),
   (0x28, ⟨.ro, 0, []⟩),
   (0x30, ⟨.ro, 0, []⟩),
   (0x40, ⟨.rc, 0, []⟩),
   (0x48, ⟨.rc, 0, []⟩),
   (0x50, ⟨.rc, 0, []⟩),
   (0x58, ⟨.rc, 0, []⟩),
   (0x60, ⟨.rc, 0, []⟩)] ++
  [(0x68, ⟨.rc, 0, []⟩),
   (0x70, ⟨.rc, 0, []⟩),
   (0x78, ⟨.rc, 0, []⟩),
   (0x80, ⟨.rc, 0, []⟩),
   (0x88, ⟨.rc, 0, []⟩),
   (0x100, ⟨(.cm 4), 0x0000000000000004, [⟨0, 5, 1, 16⟩]⟩),
   (0x108, ⟨.rw, 0x0000000000000009, [⟨0, 1, 0, 1⟩, ⟨1, 4, 0, 15⟩]⟩),
   (0x110, ⟨.rc, 0, []⟩),
   (0x118, ⟨.rc, 0, []⟩),
   (0x120, ⟨.rc, 0, []⟩),
   (0x128, ⟨.rc, 0, []⟩),
   (0x130, ⟨.rc, 0, []⟩)] ++
  [(0x138, ⟨.rc, 0, []⟩),
   (0x140, ⟨.ro, 0, []⟩)]

/-- The registers of the ROOM block, by offset in it (R471, R472). -/
def regsRoom : List (Nat × RegInfo) :=
  [(0x100, ⟨.ro, 0, []⟩),
   (0x108, ⟨.rc, 0, []⟩),
   (0x110, ⟨.rc, 0, []⟩),
   (0x118, ⟨.rc, 0, []⟩),
   (0x120, ⟨.rc, 0, []⟩),
   (0x128, ⟨.rc, 0, []⟩),
   (0x130, ⟨.rc, 0, []⟩),
   (0x200, ⟨.rc, 0, []⟩),
   (0x208, ⟨.rc, 0, []⟩),
   (0x210, ⟨.rc, 0, []⟩),
   (0x218, ⟨.rc, 0, []⟩),
   (0x220, ⟨.rc, 0, []⟩)] ++
  [(0x300, ⟨.ro, 0x00000000FFFF0000, []⟩),
   (0x308, ⟨.ro, 0, []⟩),
   (0x310, ⟨.ro, 0, []⟩),
   (0x318, ⟨.ro, 0, []⟩),
   (0x320, ⟨.rc, 0, []⟩),
   (0x328, ⟨.rc, 0, []⟩),
   (0x330, ⟨.rc, 0, []⟩),
   (0x338, ⟨.rc, 0, []⟩),
   (0x340, ⟨.rc, 0, []⟩),
   (0x380, ⟨.rc, 0, []⟩),
   (0x388, ⟨.rc, 0, []⟩),
   (0x400, ⟨.rc, 0, []⟩)] ++
  [(0x408, ⟨.rc, 0, []⟩),
   (0x410, ⟨.rc, 0, []⟩),
   (0x418, ⟨.rc, 0, []⟩),
   (0x420, ⟨.rc, 0, []⟩),
   (0x428, ⟨.rc, 0, []⟩),
   (0x430, ⟨.ro, 0, []⟩),
   (0x438, ⟨.rw, 0, [⟨3, 17, 0, 131071⟩]⟩),
   (0x440, ⟨.rw, 0, [⟨0, 64, 0, 18446744073709551615⟩]⟩),
   (0x480, ⟨.rc, 0, []⟩),
   (0x488, ⟨.rc, 0, []⟩),
   (0x490, ⟨.ro, 0, []⟩)]

/-- The registers of the MEMS block, by offset in it (R471, R472). -/
def regsStack : List (Nat × RegInfo) :=
  [(0x0, ⟨.ro, 0x0000000000000100, []⟩),
   (0x8, ⟨.rw, 0x0000000000083040, [⟨0, 7, 1, 64⟩, ⟨8, 7, 1, 64⟩, ⟨16, 7, 1, 64⟩]⟩),
   (0x10, ⟨.rw, 0x000000000000000D, [⟨0, 1, 0, 1⟩, ⟨1, 4, 0, 15⟩]⟩),
   (0x18, ⟨.rc, 0, []⟩),
   (0x20, ⟨.rc, 0, []⟩),
   (0x28, ⟨.rc, 0, []⟩),
   (0x30, ⟨.rc, 0, []⟩),
   (0x38, ⟨.rc, 0, []⟩),
   (0x40, ⟨.rc, 0, []⟩),
   (0x48, ⟨.rc, 0, []⟩),
   (0x50, ⟨.rc, 0, []⟩),
   (0x58, ⟨.ro, 0, []⟩)]

/-- The registers of the PORT block, by offset in it (R471, R472). -/
def regsPort : List (Nat × RegInfo) :=
  [(0x0, ⟨.ro, 0, []⟩),
   (0x8, ⟨.ro, 0, []⟩),
   (0x10, ⟨.rw, 0, [⟨0, 32, 0, 4294967295⟩]⟩),
   (0x18, ⟨.rw, 0, [⟨0, 64, 0, 18446744073709551615⟩]⟩),
   (0x20, ⟨.rw, 0, [⟨0, 64, 0, 18446744073709551615⟩]⟩)]

/-- Find an offset in a block's table. -/
def regFind (t : List (Nat × RegInfo)) (o : Nat) : Option RegInfo := (t.find? (fun e => e.1 == o)).map (·.2)

/-- The register at BAR0 offset `o` (a multiple of 8), if there is one (R467). -/
def regInfo (o : Nat) : Option RegInfo :=
  if o % 8 ≠ 0 then none
  else if o < 0x10000 then regFind regsGlb o
  else if o < 0x20000 then
    if 0x10100 ≤ o ∧ o < 0x10200 then some ⟨.rw, 0, [⟨3, 21, 0, 2097151⟩, ⟨35, 21, 0, 2097151⟩]⟩ else regFind regsHif (o - 0x10000)
  else if o < 0x30000 then regFind regsHm (o - 0x20000)
  else if o < 0x40000 then regFind regsErr (o - 0x30000)
  else if o < 0x50000 then regFind regsPwr (o - 0x40000)
  else if o < 0x60000 then regFind regsSec (o - 0x50000)
  else if o < 0x70000 then
    if 0x60400 ≤ o ∧ o < 0x60800 then some ⟨.ro, 0, []⟩ else regFind regsRbk (o - 0x60000)
  else if o < 0x80000 then none
  else if o < 0xC0000 then
    if 0x80040 ≤ o ∧ o < 0x80080 then some ⟨.rw, 0, [⟨0, 64, 0, 0xFFFFFFFFFFFFFFFF⟩]⟩
    else if 0x81000 ≤ o ∧ o < 0x81400 then regFind regsPort ((o - 0x81000) % 0x40)
    else regFind regsFab (o - 0x80000)
  else if o < 0x100000 then
    if 0xC1000 ≤ o ∧ o < 0xC2000 then some ⟨.rw, 0, [⟨0, 64, 0, 0xFFFFFFFFFFFFFFFF⟩]⟩ else regFind regsAsm (o - 0xC0000)
  else if o < 0x120000 then regFind regsStack ((o - 0x100000) % 0x1000)
  else if o < 0x121000 then regFind regsMem32 (o - 0x120000)
  else if o < 0x200000 then none
  else if o < 0x210000 then regFind regsSrv (o - 0x200000)
  else if o < 0x400000 then none
  else if o < 0x800000 then
    let r := o % 0x100000
    if r < 0x10000 then
      match regFind regsWing r with
      | some ⟨.cm _, v, f⟩ => some ⟨.cm (4 + (o - 0x400000) / 0x100000), v, f⟩
      | i => i
    else if r < 0x90000 then regFind regsRoom (r % 0x10000)
    else none
  else none

/-- The reset value of the register at `o` (R469); 0 where there is none or where a rule gives it another way. -/
def regReset (o : Nat) : Reg :=
  match regInfo o with
  | some i => BitVec.ofNat 64 i.reset
  | none => 0

/-- `old` with each writable field whose new value is in range replaced (the other fields keep their values). -/
def writeFields (fs : List WField) (old new : Nat) : Nat :=
  fs.foldl (fun acc f =>
    let v := field new f.lo f.w
    if f.min ≤ v ∧ v ≤ f.max then setField acc f.lo f.w v else acc) old

end Sys2Proof.Machine
end

