-- ==== Sys2Proof/Machine/State.lean ====
section
/-! DEFINITION. The state of a VX-B32 module as plain data: everything the spec gives the machine (see INVENTORY.md,
"State"), the queue of waiting commands, and `State.reset`. -/

namespace Sys2Proof.Machine

open Sys2Proof

/-- Why a step ends in a fault. No command of this model faults: the block stores or refuses inside its own state
(status codes, events, counters). -/
inductive Fault where
  /-- Nobody raises it: kept so that the type is inhabited. Safe. -/
  | none
deriving DecidableEq, Repr

/-- Why a command is refused. -/
inductive Refusal where
  /-- A command the model gives no meaning yet, by its mnemonic. Safe: the run stops. -/
  | notModelled (mnemonic : String)
deriving DecidableEq, Repr

/-! ### Classrooms (02, 03, 04, 06, 08) -/

/-- The mode attribute of a weight plane (R34, R35). -/
inductive PlaneMode where
  | dense | paired | plane
deriving DecidableEq, Repr

/-- One weight plane of an Array: the Desk bits (R30: bit 0 NZ, bit 1 SG, bit 2 SEL) at key 512 * row + column,
the mode and plane-count attributes, and the stored parity bit of each Bench segment at key 16 * column + Bench (R61). -/
structure Plane where
  desk : Sparse (BitVec 3)
  mode : PlaneMode
  p : Nat
  parity : Sparse Bool
deriving DecidableEq, Repr

/-- All zero weights, Dense, plane count 0 (R39). -/
def Plane.zero : Plane := { desk := [], mode := .dense, p := 0, parity := [] }

/-- A word of a lesson: the lesson table index it was reached by, and its word index. -/
structure WordRef where
  lesson : Nat
  word : Nat
deriving DecidableEq, Repr

/-- A codebook slot: the code lengths it holds (none: the slot is empty), its generation, and whether a failed load emptied
it (R100, R102). -/
structure CbSlot where
  lens : Option (List Nat)
  gen : Nat
  failed : Bool
deriving DecidableEq, Repr

/-- Where an Expander item stands (R108). -/
inductive ItemPhase where
  | queued | reading | fetched | expanding
deriving DecidableEq, Repr

/-- An item in the Expander's queue (R106-R109): its operation, issuing word and UNIT, the header bytes read at its dispatch,
its phase lengths `r` and `x`, whether a fault was found, whether its whole output is zero, the input the Reader
fetched, the decoded tile or bytes, its shadow due cycle, and whether it holds the Wing. -/
structure ExpItem where
  op : SlotOp
  ref : WordRef
  unit : Nat
  phase : ItemPhase
  hdr : List Byte
  r : Nat
  x : Nat
  faulted : Bool
  zero : Bool
  payload : List Byte
  tile : Sparse (BitVec 3)
  bytes : List Byte
  due : Nat
  held : Bool
deriving DecidableEq, Repr

/-- A frame of the Sequencer's control stack, innermost first: an active loop over words `first`..`last` (iteration
`iter` of `count`; `entry` is its count table entry when the count is the Roster's), or a call to return from (R140-R142). -/
inductive Frame where
  | loop (first last count iter : Nat) (entry : Option Nat)
  | call (ret : WordRef)
deriving DecidableEq, Repr

/-- A dispatched slot operation: with its issuing word, UNIT, dispatch cycle, and the loops and calls active at its word. -/
structure WaitOp (α : Type) where
  op : α
  ref : WordRef
  unit : Nat
  t : Nat
  frames : List Frame
deriving DecidableEq, Repr

/-- The Expander of a Classroom (04): its queue, items whose dispatch waits on a full queue, the shadow schedule's
last terms (R109), codebook slots, full decode buffers (oldest first), an EXP_LOAD that waits for an item, a codebook
load that waits for its slot, and the two select buffers (key 32,768 * buffer + byte) with their bad bytes. `selReads` gives for each back-plane
load in progress, oldest first, the select buffer it reads (R111); `next` are the EXP_LOADs whose first write cycle, with their dispatch cycle, meets a plane swap still to be judged
(R36, R37). `replay` keeps the shadow schedule's terms at the replay point (log entry 20). -/
structure Expander where
  queue : List ExpItem
  waiting : List (WaitOp SlotOp)
  sr : Nat
  sx : Nat
  sb : Nat
  slots : Sparse CbSlot
  full : List (Sparse (BitVec 3))
  waitLoad : Option (WaitOp ExpLoadOp)
  cbLoad : Option (WaitOp ExpCbloadOp)
  sel : Memory
  selBad : Sparse Bool
  selReads : List (Option Bool)
  next : List (ExpLoadOp × Nat)
  replay : Nat × Nat × Nat
deriving DecidableEq, Repr

/-- An empty slot of generation 0. -/
def CbSlot.empty : CbSlot := { lens := none, gen := 0, failed := false }

/-- The Expander after reset (R120: slots empty, nothing queued). -/
def Expander.reset : Expander :=
  { queue := [], waiting := [], sr := 0, sx := 0, sb := 0, slots := [], full := [], waitLoad := none, cbLoad := none,
    sel := [], selBad := [], selReads := [], next := [], replay := (0, 0, 0) }

/-- One attention row of a Vector unit (R228). -/
structure AttRow where
  m : F32
  l : F32
  o : Sparse F32
  pend : Bool
deriving DecidableEq, Repr

/-- m = -infinity, l = 0, o = 0, pending 0 (R228). -/
def AttRow.reset : AttRow := { m := 0xFF800000#32, l := 0, o := [], pend := false }

/-- A piece of a Mover transfer: `len` bytes between device address `dev` and Slate byte `slate`. -/
structure Seg where
  dev : Nat
  slate : Nat
  len : Nat
deriving DecidableEq, Repr

/-- A queued or outstanding Mover transfer (R135): its operation and issuing word, its pieces, whether it goes out of the
Slate and then the bytes captured at dispatch and the positions among them that were read as uncorrectable, the select buffer
it fills with the CHECK it must match, its due cycle, whether it holds the Wing, its hint, class and way mask, and the page it reads with its session's handle. -/
structure Xfer where
  op : SlotOp
  ref : WordRef
  unit : Nat
  segs : List Seg
  out : Bool
  data : List Byte
  bad : List Nat
  sel : Option (Bool × Nat)
  due : Option Nat
  late : Bool
  hint : Nat
  cls : Nat
  ways : Nat
  page : Option (Nat × Nat)
deriving DecidableEq, Repr

/-- Classroom power states (R383, R385). -/
inductive ClassPower where
  | inClass | recess | holiday
deriving DecidableEq, Repr

/-- A FEED whose vectors the Feed port reads: vector `i` in Timetable cycle `d + i` (R40). `next` vectors have been read; `raw` holds those of them that wait for a plane swap
before they pass the Array, oldest first (R36, R38). `swap` says that its own swap has not taken effect, `sent` that a period word sent it, so that its cycles are the
Timetable's. -/
structure FeedRun where
  op : FeedOp
  d : Nat
  next : Nat
  raw : List (List Byte)
  swap : Bool
  sent : Bool
deriving DecidableEq, Repr

/-- A drain of the Scoreboard dispatched in cycle `d`: it reads the 64 entries of group `j` of its tokens' columns in cycle `d + j` (R171). `next` groups have been read; `scale` is
the scale of the token being read, from Slate byte `scales` on; `fold` adds to the accumulators. -/
structure DrainRun where
  fold : Bool
  scales : Nat
  token : Nat
  ntok : Nat
  d : Nat
  next : Nat
  scale : F32
deriving DecidableEq, Repr

/-- The results of a vector on their way to the Scoreboard: `updates` of (column, token, value), made in Timetable cycle `due` (R52, R53, R145). -/
structure FeedResult where
  due : Nat
  acc : Bool
  updates : List (Nat × Nat × Int)
deriving DecidableEq, Repr

/-- A Classroom. `frontId` is the physical plane that is front; `loads` counts the back-plane loads in progress;
`feeds` are the FEEDs whose vectors are being read or wait for a plane swap (R36), `pipe` the results in the Array, both oldest first, and `drain` the drain that reads the Scoreboard. Scoreboard, accumulators and attention rows are keyed
512 * token + column, 512 * token + column and by row. `busy` gives, per local unit, the first Timetable cycle in which
it is free again (R132). `slateBad`, `slateCorr`, `sbBad`, `sbCorr` mark stored words and entries with an uncorrectable or
a corrected error (R182). `power` is its power state and `droop` whether its droop sensor is asserted (R385, R390). -/
structure Classroom where
  front : Plane
  back : Plane
  frontId : Bool
  loads : Nat
  feeds : List FeedRun
  pipe : List FeedResult
  drain : Option DrainRun
  sb : Sparse (BitVec 32)
  sbBad : Sparse Bool
  sbCorr : Sparse Bool
  acc : Sparse F32
  att : Sparse AttRow
  slate : Memory
  slateBad : Sparse Bool
  slateCorr : Sparse Bool
  ex : Expander
  mov0 : List Xfer
  mov1 : List Xfer
  movWait : List (Bool × WaitOp SlotOp)
  busy : Sparse Nat
  power : ClassPower
  droop : Bool
deriving DecidableEq, Repr

/-- A Classroom after reset: zero planes with plane 0 in front (R39), zero memories (R186), reset rows (R228), in Holiday
(R383, PWR_CLASS_STATE's reset value). -/
def Classroom.reset : Classroom :=
  { front := Plane.zero, back := Plane.zero, frontId := false, loads := 0, feeds := [], pipe := [], drain := none,
    sb := [], sbBad := [], sbCorr := [], acc := [], att := [], slate := [], slateBad := [], slateCorr := [],
    ex := Expander.reset, mov0 := [], mov1 := [], movWait := [], busy := [], power := .holiday, droop := false }

/-! ### Wings (05, 06) -/

/-- A way of a Library cache set: the line's address / 1,024, one valid bit per sector, and KEEP (R177, R179). -/
structure CacheLine where
  tag : Nat
  valid : BitVec 32
  keep : Bool
deriving DecidableEq, Repr

/-- A cache set: its ways by number (unlisted ways are invalid) and the order of last use, most recent first. -/
structure CacheSet where
  ways : Sparse (Option CacheLine)
  order : List Nat
deriving DecidableEq, Repr

/-- A set with every line invalid (R186); the ways stand in ascending order of use. -/
def CacheSet.empty : CacheSet := { ways := [], order := List.range 16 }

/-- The Sequencer's states (SEQ_STATUS.STATE, R156), without `held`, which `held` says. -/
inductive SeqPhase where
  | idle | starting | running | checkWait | commitWait
deriving DecidableEq, Repr

/-- Something the Sequencer sent from a period word and whose own command has not yet run: a slot operation for a
Classroom's unit, a control operation, a Bell action or a step point. -/
inductive SentItem where
  | op (c : Room) (unit : Nat) (o : SlotOp)
  | control (o : SlotOp)
  | ring (n : Nat)
  | wait (n target : Nat)
  | replay | check | commit
deriving DecidableEq, Repr

/-- A sent item with the word that issued it, its slot op's UNIT, its dispatch cycle, and the loops and calls active at its word. -/
structure Sent where
  item : SentItem
  ref : WordRef
  unit : Nat
  t : Nat
  frames : List Frame
deriving DecidableEq, Repr

/-- A request for the Hold: its cause, the Classroom (if one) and a unit number that tells requests apart (R143). -/
structure HoldReq where
  cause : HoldCause
  room : Option Room
  unit : Nat
deriving DecidableEq, Repr

/-- A Sequencer. `t` is the Timetable counter, `wordT` the dispatch cycle of the last dispatched word, `after` that word
(the stream goes on after it), `jump` an explicit next word, `frames` the active loops and calls. `latTable`, `latBase`,
`latSize`, `latLimit` are SEQ_LESSON_TABLE, SEQ_ROSTER_BASE, SEQ_ROSTER_SIZE and SEQ_BELL_LIMIT as read at the step's
start (R128). `rosterBuf` is the Roster buffer of the step, `model` its model slot. `epoch` is the Bell epoch's parity
and `bells`, `bells2` the two sets of counts (R148), `rung` the last rings counted, each with the Timetable cycle of its count (R147); `wait` is the Bell wait that holds the Wing, and `waitT` the dispatch cycle of a Bell wait not yet judged (R147).
`holdT` is the first Timetable cycle that the Hold keeps from beginning (R143, R144). The pass's marks are `trouble`
(R75), `error` (R75), `sbSat` (R56, R79), `repair` (R297) and the statuses of its lesson faults, oldest first. `passed` says the check point is behind (R153), `cycles` counts the earlier passes' cycles (R436). -/
structure Sequencer where
  phase : SeqPhase
  held : Bool
  holdT : Nat
  holds : List HoldReq
  t : Nat
  wordT : Nat
  after : WordRef
  jump : Option WordRef
  frames : List Frame
  latTable : Nat
  latBase : Nat
  latSize : Nat
  latLimit : Nat
  rosterBuf : Bool
  lesson : Nat
  step : Nat
  pass : Nat
  rescale : Bool
  epoch : Bool
  bells : Sparse Nat
  bells2 : Sparse Nat
  rung : List (Nat × Nat)
  wait : Option (Nat × Nat × WordRef)
  waitT : Option Nat
  replayRef : Option WordRef
  replayT : Nat
  passed : Bool
  trouble : Bool
  error : Bool
  sbSat : Bool
  repair : Bool
  faults : List Nat
  voted : Bool
  sent : List Sent
  cycles : Nat
deriving DecidableEq, Repr

/-- The Sequencer after reset (R156). -/
def Sequencer.reset : Sequencer :=
  { phase := .idle, held := false, holdT := 0, holds := [], t := 0, wordT := 0, after := ⟨0, 0⟩, jump := none, frames := [],
    latTable := 0, latBase := 0, latSize := 20, latLimit := 0x1000000, rosterBuf := false, lesson := 0, step := 0,
    pass := 0, rescale := false, epoch := false, bells := [], bells2 := [], rung := [], wait := none, waitT := none, replayRef := none, replayT := 0,
    passed := false, trouble := false, error := false, sbSat := false, repair := false, faults := [], voted := false,
    sent := [], cycles := 0 }

/-- A Wing: its Sequencer, its Library cache, and whether its clock is stretched (R390). -/
structure WingSt where
  seq : Sequencer
  cache : Sparse CacheSet
  stretched : Bool
deriving DecidableEq, Repr

/-- A Wing after reset. -/
def WingSt.reset : WingSt := { seq := Sequencer.reset, cache := [], stretched := false }
/-! ### Memory system and quotas (07) -/

/-- One HBM4 stack: trained, in self-refresh, MEM_STATUS.CAP and the cap of the open window (R206), the windows ended within commands since the last MEM_BUDGET_WINDOW
in which class 2 issued nothing (R205, log entry 89), the sectors issued per class in the open budget window (R205), the
scrubber's next sector of each pseudo-channel, the windows since its last read, and the times (ms) of the stack's
uncorrectable sectors that still count toward ERR_PERSIST.STACK_UE (R462). -/
structure Stack where
  trained : Bool
  selfRefresh : Bool
  cap : Nat
  capNow : Nat
  ended : Nat
  issued0 : Nat
  issued1 : Nat
  issued2 : Nat
  scrub : Sparse Nat
  scrubAge : Nat
  ueTimes : List Nat
deriving DecidableEq, Repr

/-- A stack after reset: untrained, CAP 64 (R220). -/
def Stack.reset : Stack :=
  { trained := false, selfRefresh := false, cap := 64, capNow := 64, ended := 0, issued0 := 0, issued1 := 0, issued2 := 0,
    scrub := [], scrubAge := 0, ueTimes := [] }

/-- A host window entry (R207). -/
structure HostWindow where
  valid : Bool
  write : Bool
  tenant : Nat
  pasid : Nat
  pages : Nat
  host : Nat
deriving DecidableEq, Repr

/-- An invalid window: every entry at reset (R207). -/
def HostWindow.invalid : HostWindow := { valid := false, write := false, tenant := 0, pasid := 0, pages := 0, host := 0 }

/-- A tenant quota record (R217). -/
structure Quota where
  pageLimit : Nat
  pageUsed : Nat
  t2Limit : Nat
  t2Used : Nat
  marginLimit : Nat
  marginUsed : Nat
  ways : Nat
deriving DecidableEq, Repr

/-- Every limit, mask and USED field 0 (R217). -/
def Quota.zero : Quota :=
  { pageLimit := 0, pageUsed := 0, t2Limit := 0, t2Used := 0, marginLimit := 0, marginUsed := 0, ways := 0 }

/-- Who a completion goes to: submission ring, ring index, tag, opcode and the reserved completion entry (R316, R325). -/
structure DescRef where
  ring : Nat
  index : Nat
  tag : Nat
  opcode : Nat
  entry : Nat
deriving DecidableEq, Repr

/-- A tier move in progress (R213): the pause (R270) or resume (R271) of a session record. `units` are the page
numbers still to move, `dests` the T1 slots reserved for them at a resume, `started` says the request was accepted. -/
structure MoveReq where
  resume : Bool
  sess : Nat
  tenant : Nat
  window : Nat
  width : Nat
  ttl : Nat
  offset : Nat
  length : Nat
  units : List Nat
  dests : List Nat
  started : Bool
  bytes : Nat
  moved : Nat
  status : Nat
  desc : DescRef
deriving DecidableEq, Repr

/-- A MEM_COPY whose last write is not yet issued (R333): the status it completes with, and the stacks its T1 accesses wait at (`waitsAt`, R205). -/
structure CopyReq where
  status : Nat
  waitsAt : List Nat
  length : Nat
  desc : DescRef
deriving DecidableEq, Repr

/-- A change of protection class in progress (R197). -/
structure ClassReq where
  first : Nat
  count : Nat
  desc : DescRef
deriving DecidableEq, Repr

/-- One channel of one direction of a die-to-die link (R453): the running counts of flits sent and of buffers freed, modulo 2^32, and the sender's credits. -/
structure Channel where
  sent : Nat
  freed : Nat
  credits : Nat
deriving DecidableEq, Repr

/-- The memories and the tier-move engine. HBM holds the bytes at every device address of T1 (`eras` counts, per 32 GiB region, how often
its contents became undefined, R195) and, per sector, marks of
poison, of an uncorrectable content and of a correctable one (R198); `checked` marks the CHECKED granules (R196). The
Library is keyed 2^30 * Wing + offset. `host` is host memory by host address, `peer` what peers' exports last read as,
by device address. `links` is each channel of each direction of the die-to-die links (R453). -/
structure MemSys where
  hbm : Memory
  eras : Sparse Nat
  hbmPoison : Sparse Bool
  hbmBad : Sparse Bool
  hbmCorr : Sparse Bool
  checked : Sparse Bool
  lib : Memory
  libBad : Sparse Bool
  libCorr : Sparse Bool
  libScrub : Sparse Nat
  host : Memory
  peer : Memory
  hbmStacks : Vector Stack 32
  windows : Sparse HostWindow
  quotas : Sparse Quota
  moves : List MoveReq
  copies : List CopyReq
  classes : List ClassReq
  links : Sparse Channel
deriving DecidableEq, Repr

/-- The memories after reset (R186, R196, R207, R217; HBM's bytes are log entry 2). -/
def MemSys.reset : MemSys :=
  { hbm := [], eras := [], hbmPoison := [], hbmBad := [], hbmCorr := [], checked := [], lib := [], libBad := [], libCorr := [],
    libScrub := [], host := [], peer := [], hbmStacks := Vector.replicate 32 Stack.reset, windows := [], quotas := [],
    moves := [], copies := [], classes := [], links := [] }

/-! ### Serving (08, 09) -/

/-- The page pool of KV_POOL (R332): the record array and, per Wing, the first page slot and log2 of the slot count. -/
structure KvPool where
  records : Nat
  recLog2 : Nat
  bases : List Nat
  log2s : List Nat
deriving DecidableEq, Repr

/-- A session of a built Roster: its record, its new positions, whether the step samples it, its bucket, its first
token entry and first page-table entry, whether it uses the coarse index (R242), the ring entries reserved for it (R255, R492), and the tokens it places, 2^32 for
a drawn one (R268). A `coarse` session uses the index in some layer and head: the table of all its pages, of 2^whole entries for each head, then begins at `sel`. A `compact`
one uses it in every layer and head: its block holds the attended pages only (log entry 117). -/
structure RosterSess where
  sess : Nat
  newPos : Nat
  sample : Bool
  bucket : Nat
  first : Nat
  pt : Nat
  coarse : Bool
  compact : Bool
  whole : Nat
  sel : Nat
  resv : Nat
  toks : List Nat
deriving DecidableEq, Repr

/-- Page-table entries of a session of a Roster in one Wing, its table of all pages included. -/
def RosterSess.ptes (x : RosterSess) (hw : Nat) : Nat := (2 ^ x.bucket + (if x.coarse then 2 ^ x.whole else 0)) * hw

/-- A built Roster as the Front Office knows it: its model slot, buffer, sessions in token-entry order, and token entries; SRV_KV_CTRL.SINKS and
SRV_KV_DECAY.LAMBDA as the build read them (R245); `hdrs` are the stream rings of which two entries are reserved for a step-batch header (R279, R492). -/
structure RosterPlan where
  slot : Nat
  buffer : Bool
  sessions : List RosterSess
  tokens : Nat
  sinks : Nat
  lambda : BitVec 32
  hdrs : List Nat
deriving DecidableEq, Repr

/-- A Wing's vote at the check point, or its report at the commit point (R78, R154). -/
structure Vote where
  trouble : Bool
  error : Bool
  sbSat : Bool
  repair : Bool
  faults : List Nat
deriving DecidableEq, Repr

/-- The verdicts of the check point (R76, R297) and the outcome of a step with a lesson fault (R99). -/
inductive Verdict where
  | commit | replaySame | replayRescale | fail | repair
  | fault (status : Nat)
deriving DecidableEq, Repr

/-- A session or turn operation that waits: an ABORT_TURN or SESSION_END of a session in the step in flight (R252), or a turn end
whose ring had no room (R492). -/
structure Deferred where
  sess : Nat
  endSession : Bool
  status : Nat
  desc : Option DescRef
deriving DecidableEq, Repr

/-- The Front Office's serving state: the step in flight (its number, plan, replay limit, votes, the verdict on its way to each Wing, start
time), the next Roster, tenant credits and weights (R250, R254), the slot served last, the page pool with its used slots
(key 2^25 * Wing + slot), pages to free when the step ends (R241), Trays to flush (session record indices), operations that wait, the KV_LOW
events already written per Wing (R241), sessions whose coarse index is off, layer and head keyed (R242), and the
degraded marks. `nowMs` is SRV_NOW_MS. `fresh` marks sessions whose open page was allocated with FILL 0 and not yet used at a commit (R455), `headW` are the
head-record changes to write before the next step (R264), `deadNodes` quarantined prefix nodes, `rebuilding` buckets under rebuild (R459, R460), `blockTok` the tokens of
each session's context (2^32 stands for one that was not input, R268), `reread` the stream rings whose consumer index this build has read again (R316), `widths` the demotion width of each paused session, `errRooms` the Classrooms
that detected an error in the pass (R462), `lostSectors` the uncorrectable sectors of the Front Office's structures that Movers have read in the step (R459), `expired` the sessions
found expired while a step was in flight (R272, R451), `filled` the sessions whose open page the last commit filled, with the block and the version of the turn (R268). -/
structure Serving where
  inFlight : Bool
  step : Nat
  plan : RosterPlan
  next : Option RosterPlan
  limit : Nat
  pass : Nat
  votes : List (Option Vote)
  toWing : List (Option Verdict)
  checkVote : Vote
  startMs : Nat
  startUs : Nat
  credits : Sparse Int
  weights : Sparse Nat
  lastSlot : Nat
  pool : Option KvPool
  usedSlots : Sparse Bool
  retiring : List Nat
  flush : List Nat
  deferred : List Deferred
  kvLow : Sparse Bool
  noCoarse : Sparse Bool
  taken : Sparse Nat
  nowMs : Nat
  quarantine : Sparse Bool
  shadows : Sparse (List Byte)
  rebuild : List Nat
  streaks : Sparse Nat
  watchdog : Nat
  lostPages : List Nat
  lostPts : List Nat
  lostSectors : List Nat
  expired : List Nat
  filled : List (Nat × Nat × Nat)
  starts : List (Option StartRec)
  fresh : Sparse Bool
  headW : List (Nat × List Byte)
  deadNodes : Sparse Bool
  rebuilding : Sparse Bool
  blockTok : Sparse (List Nat)
  reread : List Nat
  widths : Sparse Nat
  errRooms : Sparse Bool
  endWaits : Sparse Bool
deriving DecidableEq, Repr

/-- An empty plan: no session, no token. -/
def RosterPlan.empty : RosterPlan := { slot := 0, buffer := false, sessions := [], tokens := 0, sinks := 0, lambda := 0#32, hdrs := [] }

/-- A vote without marks. -/
def Vote.none : Vote := { trouble := false, error := false, sbSat := false, repair := false, faults := [] }

/-- Serving after reset: every WEIGHT 1 (R250, the default of `weights`), no step, no session. -/
def Serving.reset : Serving :=
  { inFlight := false, step := 0, plan := RosterPlan.empty, next := none, limit := 0, pass := 0,
    votes := [none, none, none, none], toWing := [none, none, none, none], checkVote := Vote.none,
    startMs := 0, startUs := 0, credits := [], weights := [], lastSlot := 63, pool := none, usedSlots := [],
    retiring := [], flush := [], deferred := [], kvLow := [], noCoarse := [], taken := [], nowMs := 0,
    quarantine := [], shadows := [], rebuild := [], streaks := [], watchdog := 0, lostPages := [], lostPts := [], lostSectors := [], expired := [], filled := [],
    starts := [none, none, none, none], fresh := [], headW := [], deadNodes := [], rebuilding := [], blockTok := [], reread := [], widths := [], errRooms := [], endWaits := [] }

/-! ### Models (10) -/

/-- A span of an image (R284). -/
structure Span where
  kind : Nat
  offset : Nat
  length : Nat
  dest : Nat
deriving DecidableEq, Repr

/-- What the Front Office keeps of a loaded image: the header's fields (R283), the header bytes and span table HASH
covers, and the spans. -/
structure Image where
  layers : Nat
  kvHeads : Nat
  d256 : Bool
  context : Nat
  vocab : Nat
  eot : Nat
  contrib : Nat
  agroup : Nat
  rank : Nat
  wingmap : Nat
  stepLesson : Nat
  idleLesson : Nat
  head : List Byte
  table : List Byte
  hash : List Byte
  spans : List Span
deriving DecidableEq, Repr

/-- Model slot states (R287). -/
inductive SlotState where
  | empty | loading | resident | repairing | parked | lost
deriving DecidableEq, Repr

/-- A model slot record (R287), the image it holds, its POISONED chunks and the chunks the repair in progress has mended. `owner` is the tenant whose window the
golden copy lay in when the slot was loaded, `source` that copy's address (R293). -/
structure SlotRec where
  state : SlotState
  pins : Nat
  sessions : Nat
  poisoned : List Nat
  repaired : Nat
  imageId : Nat
  golden : Nat
  golden2 : Nat
  chunks : Nat
  owner : Option Nat
  source : Nat
  img : Option Image
  sweep : Bool
deriving DecidableEq, Repr

/-- An EMPTY slot. -/
def SlotRec.empty : SlotRec :=
  { state := .empty, pins := 0, sessions := 0, poisoned := [], repaired := 0, imageId := 0, golden := 0, golden2 := 0, chunks := 0,
    owner := none, source := 0, img := none, sweep := false }

/-- Version states (R292). -/
inductive VerState where
  | empty | loading | current | retiring | lost
deriving DecidableEq, Repr

/-- A version record (R292), its image and its POISONED chunks. -/
structure VerRec where
  state : VerState
  model : Nat
  set : Nat
  pins : Nat
  tenant : Nat
  nodes : Nat
  base : Nat
  golden : Nat
  poisoned : List Nat
  repaired : Nat
  img : Option Image
deriving DecidableEq, Repr

/-- An EMPTY version record. -/
def VerRec.empty : VerRec :=
  { state := .empty, model := 0, set := 0, pins := 0, tenant := 0, nodes := 0, base := 0, golden := 0, poisoned := [],
    repaired := 0, img := none }

/-- Model slots and versions, all EMPTY at reset (R287, R292). -/
structure Models where
  slots : Sparse SlotRec
  vers : Sparse VerRec
deriving DecidableEq, Repr

/-! ### Host interface (11) -/

/-- A submission ring (R310, R320): attributes, consumer index, the producer index last read, ERROR. -/
structure SubRing where
  live : Bool
  base : Nat
  log2 : Nat
  priv : Bool
  pasidEn : Bool
  pasid : Nat
  tenant : Nat
  cq : Nat
  cons : Nat
  prod : Nat
  error : Bool
deriving DecidableEq, Repr

/-- No ring. -/
def SubRing.absent : SubRing :=
  { live := false, base := 0, log2 := 0, priv := false, pasidEn := false, pasid := 0, tenant := 0, cq := 0, cons := 0,
    prod := 0, error := false }

/-- An output ring (R310, R320), or the event or telemetry ring: the shadow producer index `prod` (below it every entry is
written), the next index to give out `next`, the entries written above the gap with the tick at which each was written, entries reserved without an index `resv`,
the consumer index last read, the records pending since the last message, and when (in 0.5 us ticks) the first of them was written. `shadow` is the producer index last
written to the shadow area: the records above it belong to a burst that has not ended (R336). -/
structure OutRing where
  live : Bool
  stream : Bool
  base : Nat
  log2 : Nat
  priv : Bool
  pasidEn : Bool
  pasid : Nat
  tenant : Nat
  vector : Nat
  modCount : Nat
  modUs : Nat
  batchK : Nat
  prod : Nat
  next : Nat
  written : List (Nat × Nat)
  resv : Nat
  cons : Nat
  pending : Nat
  since : Option Nat
  badCons : Bool
  shadow : Nat
deriving DecidableEq, Repr

/-- No ring. -/
def OutRing.absent : OutRing :=
  { live := false, stream := false, base := 0, log2 := 0, priv := false, pasidEn := false, pasid := 0, tenant := 0,
    vector := 0, modCount := 0, modUs := 0, batchK := 0, prod := 0, next := 0, written := [], resv := 0, cons := 0,
    pending := 0, since := none, badCons := false, shadow := 0 }

/-- A fetched descriptor not yet completed (R316, R324): whether it was delivered, its bytes (none when the command that delivers it stands for its
fetch) and its completion reference. -/
structure Fetched where
  delivered : Bool
  bytes : List Byte
  desc : DescRef
deriving DecidableEq, Repr

/-- An event record before it takes a ring entry (R338). -/
structure EventRec where
  kind : Nat
  status : Nat
  subject : Nat
  detail : Nat
  detail2 : Nat
  seq : Nat
deriving DecidableEq, Repr

/-- A request to the host that waits for Bus Master Enable and D0 (R308, R309): a memory write, an MSI-X message, or an event record, whose bytes are formed when it is written
(R338). -/
inductive HostReq where
  | write (addr : Nat) (bytes : List Byte)
  | msix (vector : Nat)
  | event (addr : Nat) (rec : EventRec) (phase : Nat)
deriving DecidableEq, Repr

/-- What configuration space holds of the function (R302, R304): its identity, the payload and read request sizes it may use, in bytes, and the status
registers of Advanced Error Reporting. No command of the table reaches configuration space. -/
structure PciFunction where
  deviceId : BitVec 16
  revisionId : BitVec 8
  classCode : BitVec 24
  maxPayload : Nat
  maxReadRequest : Nat
  aerUncorrectable : BitVec 32
  aerCorrectable : BitVec 32
deriving DecidableEq, Repr

/-- After reset: the identity of R304; 128-byte payloads, 512-byte read requests and no error, PCI Express's own reset values (PRESUMED, log entry 4). -/
def PciFunction.reset : PciFunction :=
  { deviceId := 0x0B32, revisionId := 0xA1, classCode := 0x120000, maxPayload := 128, maxReadRequest := 512, aerUncorrectable := 0, aerCorrectable := 0 }

/-- The PCI Express function and the Hall Monitor. `msix` is the table's bytes (R304) but for the mask bits, `msixOpen` the vectors whose mask bit is clear, `msixPend` the pending bits, `sent` the messages sent,
newest first. `ticks` counts 0.5 us periods of the moderation timer. `summary` holds the counters read at the previous poll, `stalled` descriptors whose delivery or application waits (R324, R381, R492). `burst` says that a commit or a Roster build is
writing: what it writes for one ring is one burst (R336). `latched` holds HIF_DOORBELL_BASE, HIF_SHADOW_BASE, HIF_RING0 and HIF_CQ0 as the last setting of ENABLE found them (R345). -/
structure HostIf where
  pci : PciFunction
  bme : Bool
  d3 : Bool
  linkSpeed : Nat
  linkWidth : Nat
  flit : Bool
  l0p : Nat
  msix : Memory
  msixOpen : Sparse Bool
  msixPend : Sparse Bool
  sent : List Nat
  waitReqs : List HostReq
  subs : Sparse SubRing
  outs : Sparse OutRing
  ev : OutRing
  tel : OutRing
  evReady : Bool
  heldEvents : List EventRec
  lostEvents : Nat
  evSeq : Nat
  samples : Nat
  beats : Nat
  ticks : Nat
  summary : Sparse Nat
  firstRing : Nat
  fetched : List Fetched
  stalled : List (Desc × DescOp)
  burst : Bool
  latched : Sparse Reg
deriving DecidableEq, Repr

/-- The host interface after reset: no ring, no message, Bus Master Enable 0 (the PCI Express reset value), D0, link down. -/
def HostIf.reset : HostIf :=
  { pci := PciFunction.reset, bme := false, d3 := false, linkSpeed := 0, linkWidth := 0, flit := false, l0p := 0, msix := [], msixOpen := [], msixPend := [],
    sent := [], waitReqs := [], subs := [], outs := [], ev := OutRing.absent, tel := OutRing.absent, evReady := false,
    heldEvents := [], lostEvents := 0, evSeq := 0, samples := 0, beats := 0, ticks := 0, summary := [], firstRing := 0,
    fetched := [], stalled := [], burst := false, latched := [] }

/-! ### Faults (16) -/

/-- A persistent fault found and not yet acted on, as (CAUSE, UNIT) (R462). -/
structure Errors where
  due : Option (Nat × Nat)
deriving DecidableEq, Repr

/-- No fault. -/
def Errors.reset : Errors := { due := none }
/-! ### Corridor fabric and Assembly (12) -/

/-- A Corridor packet of this module (R351): TYPE 0 WRITE, 1 READ_REQ, 2 READ_RESP, 3 ASM, 4 ACK, 5 NAK, with its fields, the bit that injection
flipped after the CRC was computed, whether injection sends it after the context's next packet, and its place `n` among the packets the context has sent (R372). `head` are the bytes before the Corridor header, and
`crc` the CRC-32C after the payload (R350). -/
structure WireFrame where
  ctx : Nat
  type : Nat
  last : Bool
  retx : Bool
  psn : Nat
  ackPsn : Nat
  sack : Nat
  credits : Nat
  ece : Nat
  arg1 : Nat
  arg2 : Nat
  payload : List Byte
  flip : Option Nat
  late : Bool
  n : Nat
  head : List Byte
  crc : Nat
deriving DecidableEq, Repr

/-- A packet of the user of a context: what a PSN carries, sent or received. -/
structure Seg4 where
  type : Nat
  last : Bool
  arg1 : Nat
  arg2 : Nat
  payload : List Byte
deriving DecidableEq, Repr

/-- A sent packet not yet acknowledged: its PSN and whether a NAK has had it sent again. -/
structure Unacked where
  psn : Nat
  seg : Seg4
  resent : Bool
deriving DecidableEq, Repr

/-- A peer context (R352): STATE (0 FREE, 1 LIVE, 2 LOST), the 48 bytes WRITE copied, the sequence numbers, rate and the state of
R355-R359 and R372. `buf` holds packets beyond a gap by PSN, `held` delivered ASM packets of collectives not yet started,
`queue` packets that wait for credit, `unacked` what has been sent, oldest first. `reads` are the export offset and length of READ_REQs not
answered. `reorder` is a packet to send after the next one, `delayed` those held for DELAY_US. -/
structure Ctx where
  state : Nat
  bytes : List Byte
  txPsn : Nat
  rxPsn : Nat
  rate : Nat
  buf : Sparse (Option Seg4)
  held : List Seg4
  queue : List Seg4
  unacked : List Unacked
  ackPsn : Nat
  credit : Nat
  arrived : Nat
  ece : Nat
  rto : Nat
  expiries : Nat
  marked : Nat
  acked : Nat
  reads : List (Nat × Nat)
  refused : Bool
  inj0 : Nat
  inj1 : Nat
  injN : Nat
  injSeen : Bool
  reorder : List WireFrame
  delayed : List WireFrame
deriving DecidableEq, Repr

/-- A FREE context. -/
def Ctx.free : Ctx :=
  { state := 0, bytes := List.replicate 48 0, txPsn := 0, rxPsn := 0, rate := 0, buf := [], held := [], queue := [], unacked := [],
    ackPsn := 0, credit := 0, arrived := 0, ece := 0, rto := 0, expiries := 0, marked := 0, acked := 0, reads := [],
    refused := false, inj0 := 0, inj1 := 0, injN := 0, injSeen := false, reorder := [], delayed := [] }

/-- The fabric: contexts, ports that are up, paused or whose crossing realigns, the frames that wait for a port, the ports this module has paused, the pauses it
has sent and the frames put on the wire, newest first. -/
structure Fabric where
  ctxs : Sparse Ctx
  up : Sparse Bool
  paused : Sparse Bool
  realign : Sparse Bool
  waiting : Sparse (List WireFrame)
  pfcSent : Sparse Bool
  pfcOut : List (Nat × Bool)
  wire : List WireFrame
deriving DecidableEq, Repr

/-- Every context FREE, every port down. -/
def Fabric.reset : Fabric := { ctxs := [], up := [], paused := [], realign := [], waiting := [], pfcSent := [], pfcOut := [], wire := [] }

/-- The copy Assembly keeps of a request it ran (R365). -/
structure ReqCopy where
  op : Nat
  kk : Nat
  count : Nat
  src : Nat
  dst : Nat
  status : Nat
  sat : Bool
  number : Nat
deriving DecidableEq, Repr

/-- A collective in progress: record `k`, the request's fields, its NUMBER, this member's contribution and whether it was read lost,
the parts received per CTX entry and segment, the final segments received, whether this member's part has gone up, the result once
known, its status, the start ring's epoch parity, and whether it is a repeat. -/
structure Coll where
  k : Nat
  req : ReqCopy
  own : List Byte
  lost : Bool
  parts : Sparse (List Byte)
  down : Sparse (List Byte)
  upSent : Bool
  result : Option (List Byte)
  parity : Bool
  again : Bool
deriving DecidableEq, Repr

/-- An Assembly group: NUMBER, LAST_STATUS, rings of START_BELL not yet taken with their epoch parity, the next record of the
pass, the copies of the step, requests started in the step, the collectives in progress, oldest first, and the statuses of those that failed in the
pass (R366). -/
structure Group where
  number : Nat
  last : Nat
  rings : List Bool
  nextK : Nat
  copies : List ReqCopy
  started : Nat
  colls : List Coll
  failed : List Nat
deriving DecidableEq, Repr

/-- A group after reset. -/
def Group.reset : Group :=
  { number := 0, last := 0, rings := [], nextK := 0, copies := [], started := 0, colls := [], failed := [] }

/-! ### Power, clocks, resets and the connector (13, 18) -/

/-- Module states (R376). -/
inductive ModState where
  | midnight | dawn | morning | day | dusk | night | twilight
deriving DecidableEq, Repr

/-- The code of a module state. -/
def ModState.code : ModState → Nat
  | .midnight => 0
  | .dawn => 1
  | .morning => 2
  | .day => 3
  | .dusk => 4
  | .night => 5
  | .twilight => 6

/-- The power controller and the module's supplies. `ready` is PWR_STATE.READY and `tested` whether the Morning self-test passed; `duskMs`, `duskDone` and
`endAll` follow Dusk (R379, R380). `cap` is in units of 256 sectors; `draws` holds the samples of the last 100 ms, newest first; `hot` the dies whose
THERMAL_LIMIT event stands; `cause` is PWR_RESET_CAUSE; `sensors` the last readings in thousandths of their unit, `wet` the leak sensor and `beyond` the
thresholds that stand exceeded (R479, R483). `slotAddr` is the strap SLOT_ADDR[2:0] of the host board (R478) and `leadMs` the ms for which the standby supply
has been within range, counted to 10 (R475). -/
structure Power where
  state : ModState
  ready : Bool
  tested : Bool
  duskMs : Nat
  duskDone : Bool
  endAll : Bool
  step : Nat
  cap : Nat
  overUs : Nat
  underUs : Nat
  lastW : Nat
  draws : List Nat
  temps : List Nat
  hot : List Nat
  mainOk : Bool
  standbyOk : Bool
  perst : Bool
  cause : Nat
  thermtrip : Bool
  smbalert : Bool
  slotAddr : Fin 8
  leadMs : Nat
  sensors : Sparse Int
  wet : Bool
  beyond : Sparse Bool
deriving DecidableEq, Repr

/-- After reset: Dawn (PWR_STATE's reset value), step 0 and CAP 64 (R391), supplies present. -/
def Power.reset : Power :=
  { state := .dawn, ready := false, tested := false, duskMs := 0, duskDone := false, endAll := false, step := 0, cap := 64, overUs := 0,
    underUs := 0, lastW := 0, draws := [], temps := [0, 0, 0, 0, 0], hot := [], mainOk := true, standbyOk := true, perst := false,
    cause := 0, thermtrip := false, smbalert := false, slotAddr := 0, leadMs := 10, sensors := [], wet := false, beyond := [] }

/-! ### Boot, firmware and attestation (14) -/

/-- A live debug permit (R429): SERIAL, GRANTS, and the SRV_NOW_MS at which it ends. -/
structure Permit where
  serial : Nat
  grants : Nat
  endMs : Nat
deriving DecidableEq, Repr

/-- A responder's answer to an SPDM request, an ERROR response by its code, or a PLDM or MCTP answer (R430, R431, R481). -/
inductive Reply where
  | none
  | version (versions : List Nat)
  | capabilities (cert chal measSig : Bool)
  | algorithms (p256 sha256 : Bool)
  | digests (digest : List Byte)
  | certificate (portion : List Byte) (remainder : Nat)
  | challenge (certHash nonce : List Byte) (signature : List Byte)
  | measurements (blocks : List (Nat × List Byte)) (signature : List Byte)
  | count (n : Nat)
  | error (code : Nat)
  | sensor (id : Nat) (milli : Int)
  | sensorUnavailable (id : Nat)
  | pldmBase (code : Nat) (data : List Byte)
  | unsupportedType (type : Nat)
  | platformEvent (id : Nat) (milli : Int)
deriving DecidableEq, Repr

/-- One SPDM responder: how far the connection has come (0 nothing, 1 version, 2 capabilities, 3 algorithms). -/
structure Responder where
  stage : Nat
  reply : Reply
deriving DecidableEq, Repr

/-- The flash (R408) and its counters (R409) keep their contents through every reset; the rest is what Dawn and Morning settled. `bank` is 0 A, 1 B,
3 recovery service; `identity` the identity private key; `owner` the OWNER_KEY in force; the headers are those of the running images; `rbkDesc` a
RBK_FW_STAGE that waits for the Rollbook; `romHash` the hash of the vendor root key in mask ROM, whose value the spec does not state (R405, log entry 9: free); `draws` is the model's own count of nonces drawn (log entry 9). -/
structure Security where
  flash : Memory
  counters : Sparse Nat
  bank : Nat
  booted : Bool
  identity : Option Nat
  owner : Option (List Byte)
  ownerSet : Bool
  requireMetering : Bool
  requireTested : Bool
  configSeq : Nat
  rejectA : Nat
  rejectB : Nat
  unmetered : Bool
  untestedTrain : Bool
  untestedRbk : Bool
  train : Nat
  tally : Nat
  rbkSvn : Nat
  careHeader : List Byte
  trainHeader : List Byte
  permit : Option Permit
  doe : Responder
  mctp : Responder
  pldm : Reply
  alert : Reply
  rbkDesc : Option DescRef
  draws : Nat
  romHash : List Byte
  vendorOk : Bool
  asking : Option LinkIn
deriving DecidableEq, Repr

/-- An idle responder. -/
def Responder.reset : Responder := { stage := 0, reply := .none }

/-- After reset: nothing booted, REQUIRE_METERING 1 and REQUIRE_TESTED 0 (SEC_STATUS's reset values). -/
def Security.reset : Security :=
  { flash := [], counters := [], bank := 0, booted := false, identity := none, owner := none, ownerSet := false,
    requireMetering := true, requireTested := false, configSeq := 0, rejectA := 0, rejectB := 0, unmetered := false,
    untestedTrain := false, untestedRbk := false, train := 0, tally := 0, rbkSvn := 0, careHeader := [], trainHeader := [],
    permit := none, doe := Responder.reset, mctp := Responder.reset, pldm := .none, alert := .none, rbkDesc := none, draws := 0,
    romHash := leBytes 32 (Config.freeWord 405 0), vendorOk := false, asking := none }

/-! ### The Rollbook (15) -/

/-- The Rollbook chip, which no module reset touches. `energyJournal` is ENERGY as journalled, `energyFrac` the part of a mJ integrated, in 10^-7 mJ;
`log` the entries by number, `forwarded` an image RBK_FW_STAGE has sent, `version` the TALLY version settled in the last Morning (R438), `metroKey` the
metrology public key in its flash (R447), which nothing the module does writes; `key` is the secret its own signing key is made from (R445) and `spare` the image in the
bank that does not run (R447). -/
structure Rollbook where
  energy : Nat
  energyFrac : Nat
  energyJournal : Nat
  input : Sparse Nat
  output : Sparse Nat
  cycles : Sparse Nat
  isSealed : Bool
  calValid : Bool
  saturated : Bool
  updates : Nat
  calibrations : Nat
  connects : Nat
  calRecord : List Byte
  expect : Nat
  series : Nat
  gaps : Nat
  logNext : Nat
  logHead : List Byte
  log : Sparse (List Byte)
  key : Nat
  runS : Nat
  reportNo : Nat
  svn : Nat
  header : List Byte
  body : List Byte
  spare : List Byte
  forwarded : Option (List Byte)
  version : Nat
  metroKey : List Byte
deriving DecidableEq, Repr

/-- A Rollbook as made: counts 0 (R436); the rest is the model's choice. -/
def Rollbook.reset : Rollbook :=
  { energy := 0, energyFrac := 0, energyJournal := 0, input := [], output := [], cycles := [], isSealed := false, calValid := false, saturated := false,
    updates := 0, calibrations := 0, connects := 0, calRecord := [], expect := 0, series := 0, gaps := 0, logNext := 0,
    logHead := List.replicate 32 0, log := [], key := Config.freeWord 445 2, runS := 0, reportNo := 0, svn := 0, header := [], body := [], spare := [], forwarded := none, version := 0, metroKey := List.replicate 64 0 }

/-- The Front Office's side of the two Rollbook links: SEQ of the next tally, whether one was sent in this series, messages on the link and those that wait for
requests to be allowed (R308) or for the crossing to realign (R396), the mailbox (BUSY, PRESENT, STATUS, the response bytes and the inputs of the command in
progress), the Caretaker's last view of the log, and the messages that a reset of the Rollbook discarded and no CDC_RESYNC has named yet (R396). -/
structure RbkLink where
  seq : Nat
  started : Bool
  link : List (List Byte)
  waiting : List (List Byte)
  busy : Bool
  present : Bool
  status : Nat
  resp : List Byte
  seen : Nat
  absent : Bool
  latch : List Nat
  lost : Nat
deriving DecidableEq, Repr

/-- Nothing sent. -/
def RbkLink.reset : RbkLink :=
  { seq := 0, started := false, link := [], waiting := [], busy := false, present := false, status := 0, resp := [], seen := 0, absent := false, latch := [], lost := 0 }

/-! ### The module -/

/-- What the last access from the bus returned: bytes read, and whether the completion was poisoned (R184) or
Unsupported Request (R309). -/
structure BusReply where
  data : List Byte
  poisoned : Bool
  unsupported : Bool
deriving DecidableEq, Repr

/-- The state of a module. -/
structure State where
  /-- Commands waiting, first in, first out. -/
  pending : List Instr
  /-- The reply of the last bus access. -/
  bus : BusReply
  /-- Setup registers by BAR0 offset; an unlisted one holds its reset value (R469). -/
  regs : Sparse Reg
  /-- Staged copies of CM registers (R12). -/
  staged : Sparse Reg
  /-- Writes to CM registers held until a pending commit is applied (R13), oldest first. -/
  heldWrites : List (Nat × Reg)
  /-- Commit groups whose commit is pending (R401). -/
  commits : Sparse Bool
  rooms : Vector Classroom 32
  wings : Vector WingSt 4
  mem : MemSys
  srv : Serving
  mdl : Models
  hif : HostIf
  err : Errors
  fab : Fabric
  asm : Sparse Group
  pwr : Power
  sec : Security
  rbk : Rollbook
  rlink : RbkLink
deriving DecidableEq, Repr

/-- The record of the STATE_CHANGED event of the entry to Dawn that reset stands for: from Midnight, trigger input (R377, R402, R491). -/
def dawnRecord : EventRec := { kind := 0x30, status := 0, subject := 1, detail := 0, detail2 := 0, seq := 0 }

/-- The machine right after reset: the supplies have come up and the module has just entered Dawn. -/
def State.reset : State :=
  { pending := [], bus := { data := [], poisoned := false, unsupported := false }, regs := [], staged := [],
    heldWrites := [], commits := [], rooms := Vector.replicate 32 Classroom.reset,
    wings := Vector.replicate 4 WingSt.reset, mem := MemSys.reset, srv := Serving.reset,
    mdl := { slots := [], vers := [] }, hif := { HostIf.reset with heldEvents := [dawnRecord], evSeq := 1 }, err := Errors.reset, fab := Fabric.reset, asm := [], pwr := Power.reset, sec := Security.reset,
    rbk := Rollbook.reset, rlink := RbkLink.reset }

end Sys2Proof.Machine
end

