-- ==== Sys2Proof/Machine/Ops.lean ====
section
/-! DEFINITION. The named operations over the state that the meanings share: registers and counters, Classrooms and
Wings, Slate access with its error effects (R158-R165, R183), Holds (R143), lesson faults (R155), host requests
(R308, R309), output rings (R336, R337) and events (R338-R340, R491). -/

namespace Sys2Proof.Machine

open Sys2Proof

/-! ### Registers -/

/-- The stored value of the register at BAR0 offset `o`. -/
def State.reg (s : State) (o : Nat) : Reg := Sparse.get regReset s.regs o

/-- The stored value as a number. -/
def State.regN (s : State) (o : Nat) : Nat := (s.reg o).toNat

/-- Store a register. -/
def State.setReg (s : State) (o : Nat) (v : Reg) : State := { s with regs := Sparse.set regReset s.regs o v }

/-- Add `n` to a counter, modulo 2^64 (every RC counter wraps, R62, R86, R120, R156, R187, R220, R245, R281, R300). -/
def State.bump (s : State) (o n : Nat) : State := s.setReg o (s.reg o + BitVec.ofNat 64 n)

/-- A field of a stored register. -/
def State.regField (s : State) (o lo w : Nat) : Nat := field (s.regN o) lo w

/-! ### Classrooms and Wings -/

/-- Classroom `k`. -/
def State.room (s : State) (k : Fin 32) : Classroom := s.rooms.get k

/-- Replace Classroom `k`. -/
def State.setRoom (s : State) (k : Fin 32) (r : Classroom) : State := { s with rooms := s.rooms.set k.val r k.isLt }

/-- Change Classroom `k`. -/
def State.modRoom (s : State) (k : Fin 32) (f : Classroom → Classroom) : State := s.setRoom k (f (s.room k))

/-- Wing `w`. -/
def State.wing (s : State) (w : Wing) : WingSt := s.wings.get w

/-- Replace Wing `w`. -/
def State.setWing (s : State) (w : Wing) (x : WingSt) : State := { s with wings := s.wings.set w.val x w.isLt }

/-- Wing `w`'s Sequencer. -/
def State.seq (s : State) (w : Wing) : Sequencer := (s.wing w).seq

/-- Change Wing `w`'s Sequencer. -/
def State.modSeq (s : State) (w : Wing) (f : Sequencer → Sequencer) : State :=
  s.setWing w { s.wing w with seq := f (s.seq w) }

/-- The Wing of Classroom `k`. -/
def wingOf (k : Fin 32) : Wing := ⟨k.val / 8, by omega⟩

/-- The Classroom of number `k` within its Wing. -/
def roomOf (k : Fin 32) : Room := ⟨k.val % 8, by omega⟩

/-- Mark an activation error of the pass in flight in Wing `w` (R75). -/
def State.markError (s : State) (w : Wing) : State := s.modSeq w (fun q => { q with error := true })

/-- Mark an activation error that Classroom `k` detected (R75; R462 tells Classrooms apart). -/
def State.markErrorIn (s : State) (k : Fin 32) : State :=
  { s.markError (wingOf k) with srv := { s.srv with errRooms := setMark s.srv.errRooms k true } }

/-- Mark trouble of the pass in flight in Wing `w` (R75). -/
def State.markTrouble (s : State) (w : Wing) : State := s.modSeq w (fun q => { q with trouble := true })

/-! ### Requests to the host (R308, R309) -/

/-- Whether the module may issue requests: Bus Master Enable is 1 and the function is in D0. -/
def State.canIssue (s : State) : Bool := s.hif.bme && !s.hif.d3

/-- Write bytes to host memory; while the module may not issue requests the write waits. -/
def State.hostWrite (s : State) (addr : Nat) (bytes : List Byte) : State :=
  if s.canIssue then { s with mem := { s.mem with host := Memory.writeN s.mem.host addr bytes } }
  else { s with hif := { s.hif with waitReqs := s.hif.waitReqs ++ [.write addr bytes] } }

/-- Send the MSI-X message of a vector: a masked vector sets its pending bit (R337). -/
def State.msixSend (s : State) (v : Nat) : State :=
  let s := s.bump Off.hifMsixSent 1
  if !marked s.hif.msixOpen v then { s with hif := { s.hif with msixPend := setMark s.hif.msixPend v true } }
  else if s.canIssue then { s with hif := { s.hif with sent := v :: s.hif.sent } }
  else { s with hif := { s.hif with waitReqs := s.hif.waitReqs ++ [.msix v] } }

/-! ### Output rings (R311, R316, R336, R337) -/

/-- The PHASE of the entry with index `i` in a ring of 2^log2 entries (R311). -/
def phaseBit (log2 i : Nat) : Nat := b2n (decide ((i / 2 ^ log2) % 2 = 0))

/-- Room of an output ring: 2^LOG2 - (P - C) - R; none when the consumer index is inconsistent (R316, R319). -/
def OutRing.room (r : OutRing) : Nat :=
  if r.cons > r.prod ∨ r.prod - r.cons > 2 ^ r.log2 then 0 else 2 ^ r.log2 - (r.next - r.cons) - r.resv

/-- The next index below which every entry is written, after index `i` was written (R336); an entry pends from the tick at which it was written, once it is covered (R337). -/
def OutRing.advance (fuel : Nat) (r : OutRing) : OutRing :=
  match fuel with
  | 0 => r
  | n + 1 =>
    match r.written.find? (fun e => e.1 == r.prod) with
    | some (i, t) =>
      OutRing.advance n { r with prod := r.prod + 1, written := r.written.filter (fun e => e.1 != i), pending := r.pending + 1,
                                 since := some (match r.since with | some u => min u t | none => t) }
    | none => r

/-- Note entry `i` as written at tick `now` and move the shadow producer index as far as it goes. -/
def OutRing.wrote (r : OutRing) (i : Nat) (now : Nat) : OutRing :=
  let r := { r with written := (i, now) :: r.written }
  OutRing.advance r.written.length r

/-- Whether a burst makes a message due (R337). -/
def OutRing.due (r : OutRing) (now : Nat) : Bool :=
  decide (r.pending > 0) &&
  ((decide (r.modCount ≠ 0) && decide (r.pending ≥ r.modCount)) ||
   (decide (r.modUs ≠ 0) && match r.since with | some t => decide (now - t ≥ 2 * r.modUs) | none => false))

/-- A field of a register whose value counts from the last setting of HIF_CTRL.ENABLE (R345). -/
def State.latchedField (s : State) (o lo w : Nat) : Nat := field (Sparse.get regReset s.hif.latched o).toNat lo w

/-- Address of a doorbell-area word. -/
def State.doorbell (s : State) (o : Nat) : Nat := s.latchedField Off.hifDoorbellBase 0 48 + o

/-- Address of a shadow-area word. -/
def State.shadow (s : State) (o : Nat) : Nat := s.latchedField Off.hifShadowBase 0 48 + o

/-- The attributes of output ring 0 as HIF_CQ0 and HIF_CTRL give them (R320); other rings as RING_CREATE gave them. -/
def State.outRing (s : State) (q : Nat) : OutRing :=
  let r := Sparse.get (fun _ => OutRing.absent) s.hif.outs q
  if q = 0 then
    { r with live := true, stream := false, base := s.latchedField Off.hifCq0 12 36 * 4096, log2 := s.latchedField Off.hifCq0 48 5,
             vector := s.latchedField Off.hifCq0 53 11, priv := true, tenant := 0, pasidEn := bit (s.regN Off.hifCtrl) 1,
             pasid := s.regField Off.hifCtrl 2 20, modCount := 1, modUs := 0 }
  else r

/-- The attributes of submission ring 0 as HIF_RING0 and HIF_CTRL give them (R320). -/
def State.subRing (s : State) (r : Nat) : SubRing :=
  let x := Sparse.get (fun _ => SubRing.absent) s.hif.subs r
  if r = 0 then
    { x with live := true, base := s.latchedField Off.hifRing0 12 36 * 4096, log2 := s.latchedField Off.hifRing0 48 5,
             priv := true, tenant := 0, cq := 0, pasidEn := bit (s.regN Off.hifCtrl) 1,
             pasid := s.regField Off.hifCtrl 2 20 }
  else x

/-- Store output ring `q`. -/
def State.setOut (s : State) (q : Nat) (r : OutRing) : State :=
  { s with hif := { s.hif with outs := Sparse.set (fun _ => OutRing.absent) s.hif.outs q r } }

/-- Store submission ring `r`. -/
def State.setSub (s : State) (r : Nat) (x : SubRing) : State :=
  { s with hif := { s.hif with subs := Sparse.set (fun _ => SubRing.absent) s.hif.subs r x } }

/-- End a write burst on output ring `q`: the shadow producer index, then a message if one is due (R336, R337). -/
def State.endBurst (s : State) (q : Nat) : State :=
  let r := s.outRing q
  let s := s.hostWrite (s.shadow (0x2000 + 8 * q)) (leBytes 8 r.prod)
  let r := { r with shadow := r.prod }
  if r.due s.hif.ticks then (s.setOut q { r with pending := 0, since := none }).msixSend r.vector else s.setOut q r

/-- The status a record or completion shows for OK: UNMETERED on a module that serves under that mark (R14, R421). -/
def State.okStatus (s : State) (st : Nat) : Nat := if st = 0 ∧ s.sec.unmetered then 0x51 else st

/-- The 32 bytes of a completion record (R325); `phase` is the entry's PHASE. A status other than OK shows no values: UNMETERED, which
stands for OK, is one (log entry 27). -/
def completionBytes (d : DescRef) (status value0 value1 phase : Nat) : List Byte :=
  let v0 := if status = 0 then value0 else 0
  let v1 := if status = 0 then value1 else 0
  leBytes 8 d.tag ++ leBytes 2 d.ring ++ leBytes 1 d.opcode ++ leBytes 1 status ++ leBytes 4 d.index ++
  leBytes 8 v0 ++ leBytes 4 (v1 % 2 ^ 31 + phase * 2 ^ 31) ++ leBytes 4 0

/-- Write a descriptor's completion into the entry it reserved, and forget the descriptor (R316, R324, R336); its burst ends at once but within a
commit or a Roster build. -/
def State.complete (s : State) (d : DescRef) (status value0 value1 : Nat) : State :=
  let q := (s.subRing d.ring).cq
  let r := s.outRing q
  let s := s.hostWrite (r.base + 32 * (d.entry % 2 ^ r.log2)) (completionBytes d (s.okStatus status) value0 value1 (phaseBit r.log2 d.entry))
  let s := s.setOut q (r.wrote d.entry s.hif.ticks)
  let s := { s with hif := { s.hif with fetched := s.hif.fetched.filter (fun f => !(f.desc.ring == d.ring && f.desc.index == d.index)) } }
  if s.hif.burst then s else s.endBurst q

/-! ### Events (R338-R340, R491) -/

/-- The 32 bytes of an event record written at `now` (R338). -/
def eventBytes (e : EventRec) (now phase : Nat) : List Byte :=
  leBytes 1 e.kind ++ leBytes 1 e.status ++ leBytes 2 e.seq ++ leBytes 4 e.subject ++ leBytes 8 now ++
  leBytes 8 e.detail ++ leBytes 4 (e.detail2 % 2 ^ 31 + phase * 2 ^ 31) ++ leBytes 4 0

/-- The event ring with its consumer index read again when the last one leaves no room and requests are allowed. -/
def State.evRing (s : State) : OutRing :=
  if s.hif.ev.room = 0 ∧ s.canIssue then { s.hif.ev with cons := Memory.readLE s.mem.host (s.doorbell 0xB000) 8 } else s.hif.ev

/-- Write an event record to the host: its NOW_MS is that of the write (R338), which waits while requests are not allowed. -/
def State.eventWrite (s : State) (a : Nat) (e : EventRec) (phase : Nat) : State :=
  if s.canIssue then s.hostWrite a (eventBytes e s.srv.nowMs phase)
  else { s with hif := { s.hif with waitReqs := s.hif.waitReqs ++ [.event a e phase] } }

/-- Write one record into the event ring, which has room: its entry, the shadow index and the message (R336, R337). -/
def State.putEvent (s : State) (e : EventRec) : State :=
  let r := s.evRing
  let s := s.eventWrite (r.base + 32 * (r.next % 2 ^ r.log2)) e (phaseBit r.log2 r.next)
  let r := { r with next := r.next + 1, prod := r.prod + 1 }
  let s := s.hostWrite (s.shadow 0xA000) (leBytes 8 r.prod)
  ({ s with hif := { s.hif with ev := r } }).msixSend r.vector

/-- The next event number, and the state that has used it. -/
def State.nextSeq (s : State) : State := { s with hif := { s.hif with evSeq := (s.hif.evSeq + 1) % 65536 } }

/-- When events were dropped since the last record and the ring has room, the EVENTS_LOST record comes first (R340). -/
def State.putLost (s : State) : State :=
  if s.hif.lostEvents > 0 ∧ s.evRing.room > 0 then
    let e : EventRec := { kind := 0x0F, status := 0, subject := 0, detail := s.hif.lostEvents, detail2 := 0, seq := s.hif.evSeq }
    { (s.putEvent e).nextSeq with hif := { (s.putEvent e).nextSeq.hif with lostEvents := 0 } }
  else s

/-- Write held records, oldest first, while the ring has room (R491). -/
def State.putHeld : Nat → State → State
  | 0, s => s
  | n + 1, s =>
    match s.hif.heldEvents with
    | [] => s
    | e :: es =>
      if s.evRing.room > 0 then
        State.putHeld n ({ s with hif := { s.hif with heldEvents := es } }.putEvent e)
      else s

/-- Drop an event: counted in HIF_EVENTS_LOST (R340). -/
def State.dropEvent (s : State) : State :=
  { (s.bump Off.hifEventsLost 1) with hif := { (s.bump Off.hifEventsLost 1).hif with lostEvents := s.hif.lostEvents + 1 } }

/-- Hold an event in the 64-record buffer, or drop it when the buffer is full (R491). -/
def State.holdEvent (s : State) (e : EventRec) : State :=
  if s.hif.heldEvents.length < 64 then { s with hif := { s.hif with heldEvents := s.hif.heldEvents ++ [e] } }.nextSeq
  else s.dropEvent

/-- Raise an event (R338-R340, R491, R309). -/
def State.event (s : State) (kind status subject detail detail2 : Nat) : State :=
  let e : EventRec := { kind := kind, status := status, subject := subject, detail := detail, detail2 := detail2, seq := s.hif.evSeq }
  if !s.hif.evReady then s.holdEvent e
  else if s.hif.d3 then s.dropEvent
  else
    let s := State.putHeld 64 s
    if s.hif.heldEvents ≠ [] then s.dropEvent
    else
      let s := s.putLost
      if s.evRing.room > 0 then (s.putEvent { e with seq := s.hif.evSeq }).nextSeq else s.dropEvent

/-- The active loops among frames, innermost first: (count table entry, iteration) (R137, R260). -/
def loopsOf (fs : List Frame) : List (Option Nat × Nat) :=
  fs.filterMap (fun f => match f with | .loop _ _ _ i e => some (e, i) | .call _ => none)

/-! ### Holds (R143-R146) -/

/-- Raise a request that keeps Timetable cycle `t` from beginning. A Hold that begins with the counter running adds one to SEQ_HOLDS (R146); a request
raised under a Hold extends it (R144). -/
def State.holdOn (s : State) (w : Wing) (t : Nat) (h : HoldReq) : State :=
  let q := s.seq w
  let s := if q.held then s else s.bump (Off.seqHolds w) 1
  s.modSeq w (fun q => { q with held := true, holdT := if q.held then min q.holdT t else t,
                                holds := if q.holds.contains h then q.holds else q.holds ++ [h] })

/-- Withdraw a request; the counter stays held until the Timetable resumes (R144). -/
def State.holdOff (s : State) (w : Wing) (h : HoldReq) : State :=
  s.modSeq w (fun q => { q with holds := q.holds.filter (fun x => x != h) })

/-- Whether cycle `t` of Wing `w` has not begun: the Hold keeps it (R144), or a Bell wait of that cycle is not judged yet, and the cycle is held as a whole if it
must wait (R147). What a period word sent for such a cycle waits in the skids. -/
def Sequencer.heldBack (q : Sequencer) (t : Nat) : Bool := (q.held && decide (q.holdT ≤ t)) || q.waitT == some t

/-- The Timetable counter as it reads: under the Hold it stays below the first held cycle (R143, R144). -/
def Sequencer.count (q : Sequencer) : Nat := if q.held then min q.t (q.holdT - 1) else q.t

/-- Whether a request is active. -/
def State.holding (s : State) (w : Wing) (h : HoldReq) : Bool := (s.seq w).holds.contains h

/-! ### Lesson faults (R99, R155) -/

/-- SEQ_FAULT_INFO's value (R156). -/
def faultInfo (ref : WordRef) (status unit : Nat) : Nat :=
  ref.word % 2 ^ 24 + (ref.lesson % 256) * 2 ^ 24 + (status % 256) * 2 ^ 32 + (unit % 128) * 2 ^ 40

/-- Record a lesson fault: SEQ_FAULTS, SEQ_FAULT_INFO, the status kept for the vote, and the event that names it. -/
def State.lessonFault (s : State) (w : Wing) (ref : WordRef) (unit : Nat) (room : Option Room) (status detail2 : Nat) : State :=
  let s := s.bump (Off.seqFaults w) 1
  let s := s.setReg (Off.seqFaultInfo w) (BitVec.ofNat 64 (faultInfo ref status unit))
  let s := s.modSeq w (fun q => { q with faults := q.faults ++ [status] })
  let subject := match room with | some c => 8 * w.val + c.val | none => 0xFF
  s.event 0x02 status subject (faultInfo ref status unit) detail2

/-- Take the sent entry of a slot operation of Classroom `c` from the Sequencer's skid, with the word that issued it and its
UNIT; a command that no word sent counts as issued by the current word (log entry 12). -/
def State.takeOp (s : State) (u : Cr) (unit : Nat) (o : SlotOp) : Option Sent × State :=
  let q := s.seq u.w
  match q.sent.find? (fun e => e.item == SentItem.op u.c unit o) with
  | some e => (some e, s.modSeq u.w (fun q => { q with sent := q.sent.erase e }))
  | none => (none, s)

/-- The word and UNIT a slot operation counts as issued by. -/
def State.issuer (s : State) (u : Cr) (unit : Nat) (e : Option Sent) : WordRef × Nat :=
  match e with
  | some x => (x.ref, x.unit)
  | none => ((s.seq u.w).after, 8 * u.c.val + unit)

/-- The dispatch cycle of a slot operation: that of the word that sent it. -/
def State.opCycle (s : State) (u : Cr) (unit : Nat) (o : SlotOp) : Nat :=
  match (s.takeOp u unit o).1 with
  | some x => x.t
  | none => (s.seq u.w).wordT

/-- Dispatch a slot operation to local unit `unit` of Classroom `u`: the operation with its word, or a lesson
fault (BAD_ARG) when a field is out of range (R137) or the unit is still busy with an operation a period word sent it (R132; the
Expander and the Movers queue). An operation whose cycle is held waits in the skid: nothing happens (R139, R144). -/
def State.dispatch (s : State) (u : Cr) (unit : Nat) (o : SlotOp) : Option (WaitOp SlotOp) × State :=
  let t := s.opCycle u unit o
  let held := (s.seq u.w).heldBack t
  let s0 := s
  let (e, s) := s.takeOp u unit o
  let (ref, un) := s.issuer u unit e
  let fr := match e with | some x => x.frames | none => (s.seq u.w).frames
  let busyUntil := Sparse.get (fun _ => 0) (s.room u.idx).busy unit
  let queues := unit = 1 ∨ unit = 5 ∨ unit = 6
  if held then (none, s0)
  else if !opInRange o then (none, s.lessonFault u.w ref un (some u.c) 0x11 0)
  else if e.isSome ∧ ¬ queues ∧ t < busyUntil then (none, s.lessonFault u.w ref un (some u.c) 0x11 0)
  else (some { op := o, ref := ref, unit := un, t := t, frames := fr },
        s.modRoom u.idx (fun r => { r with busy := Sparse.set (fun _ => 0) r.busy unit (t + opBusy o) }))

/-! ### The Slate (R158-R165, R183) -/

/-- Slate bytes (R158). -/
def slateSize : Nat := 786432

/-- `n` Slate bytes from `a`, wrapping (R158). -/
def Classroom.slateBytes (r : Classroom) (a n : Nat) : List Byte :=
  (List.range n).map (fun i => Memory.read r.slate ((a + i) % slateSize))

/-- A little-endian number from the Slate. -/
def Classroom.slateLE (r : Classroom) (a n : Nat) : Nat := leNat (r.slateBytes a n)

/-- The 8-byte words that the `n` bytes from `a` touch, in order. -/
def slateWords (a n : Nat) : List Nat :=
  if n = 0 then [] else (List.range ((a + n - 1) / 8 - a / 8 + 1)).map (fun i => (a / 8 + i) % (slateSize / 8))

/-- Report the Slate words among `ws` that read as uncorrectable or corrected, for requester `req` (R183). -/
def State.noteSlate (s : State) (k : Fin 32) (req : Nat) (ws : List Nat) : State :=
  let r := s.room k
  let bad := ws.filter (fun x => marked r.slateBad x)
  let cor := ws.filter (fun x => !marked r.slateBad x && marked r.slateCorr x)
  let s := if cor = [] then s else s.bump (Off.sltCorrected k) cor.length
  match bad.getLast? with
  | none => s
  | some x =>
    ((s.bump (Off.sltUncorrectable k) bad.length).setReg (Off.sltErrAddr k)
      (BitVec.ofNat 64 (8 * x + req * 2 ^ 20 + 2 ^ 24))).markErrorIn k

/-- Read `n` Slate bytes from `a` for requester `req`: one read of each word under them, so that a unit that takes its operands one by one reads, and counts, a word once for each
operand in it, and a row read together once (R183 does not say which reads an operation makes: DESIGN CHOICE, log entry 132). -/
def State.slateRead (s : State) (k : Fin 32) (req a n : Nat) : List Byte × State :=
  ((s.room k).slateBytes a n, s.noteSlate k req (slateWords a n))

/-- Store bytes without their error effects. -/
def Classroom.slateStore (r : Classroom) (a : Nat) (bs : List Byte) : Classroom :=
  let put := fun (m : Memory) (e : Nat × Byte) => Memory.write m ((a + e.1) % slateSize) e.2
  { r with slate := ((List.range bs.length).zip bs).foldl put r.slate,
           slateBad := (slateWords a bs.length).foldl (fun m x => setMark m x false) r.slateBad,
           slateCorr := (slateWords a bs.length).foldl (fun m x => setMark m x false) r.slateCorr }

/-- The words that a write of `n` bytes from `a` covers only in part (R165). -/
def partialWords (a n : Nat) : List Nat :=
  (slateWords a n).filter (fun x =>
    (List.range 8).any (fun i => decide ((8 * x + i + slateSize - a % slateSize) % slateSize ≥ n)))

/-- Write Slate bytes for requester `req`: the read half of a word covered in part reports an uncorrectable word, and every word
written takes fresh check bits (R165, R183). -/
def State.slateWrite (s : State) (k : Fin 32) (req a : Nat) (bs : List Byte) : State :=
  (s.noteSlate k req (partialWords a bs.length)).modRoom k (fun r => r.slateStore a bs)

end Sys2Proof.Machine
end

