-- ==== Sys2Proof/Machine/Array.lean ====
section
/-! DEFINITION. The ternary Array (02_ternary_array.md): FEED in Dense, Paired and Plane mode, the plane swap, plane
parity, and the Scoreboard's updates (R30-R62, R169, R170, R183). -/

namespace Sys2Proof.Machine

open Sys2Proof

/-- An element at the row buses: -128 is replaced by -127 (R33). -/
def feedElem (b : Byte) : Int := if b = 0x80#8 then -127 else b.toInt

/-- What a Desk adds to its Bench: `a` and `b` are the elements its row carries on lanes A and B (R30, R43). -/
def deskTerm (d : BitVec 3) (a b : Int) : Int :=
  if d.getLsbD 0 then
    let v := if d.getLsbD 2 then b else a
    if d.getLsbD 1 then -v else v
  else 0

/-- Desk `(row, col)` of a plane. -/
def Plane.at (p : Plane) (row col : Nat) : BitVec 3 := Sparse.get (fun _ => 0) p.desk (512 * row + col)

/-- A Desk's contribution for a vector of elements, by the plane's mode: SEL counts in Paired mode only (R30, R42, R43). -/
def Plane.term (p : Plane) (elem : Nat → Int) (row col : Nat) : Int :=
  match p.mode with
  | .paired => deskTerm (p.at row col) (elem (2 * row)) (elem (2 * row + 1))
  | _ => deskTerm (p.at row col) (elem row) (elem row)

/-- The sum of Bench `b` of a column (R31, R42). -/
def Plane.bench (p : Plane) (elem : Nat → Int) (col b : Nat) : Int := sumZ 32 (fun j => p.term elem (32 * b + j) col)

/-- The sum of the Benches of row group `g` of `G` of a column (R49); with G = 1 it is the column total (R42). -/
def Plane.group (p : Plane) (elem : Nat → Int) (col g G : Nat) : Int :=
  sumZ (16 / G) (fun j => p.bench elem col (16 * g / G + j))

/-- The combined value of stationary vector `o` in row group `g` (R50). -/
def Plane.combine (p : Plane) (elem : Nat → Int) (o g G : Nat) : Int :=
  sumZ p.p (fun j => p.group elem (o * p.p + j) g G * (2 ^ j : Nat))

/-- The mode an EXP_LOAD's code names (R134). -/
def modeOf (m : BitVec 2) : PlaneMode := if m = 0#2 then .dense else if m = 1#2 then .paired else .plane

/-- The row groups a GROUPS code names: 0b00 one, 0b01 two, 0b10 four (R134). -/
def groupsOf (code : BitVec 2) : Nat := 2 ^ code.toNat

/-- Bytes of one activation vector (R32). -/
def Plane.vecBytes (p : Plane) : Nat := if p.mode = .paired then 1024 else 512

/-- The Scoreboard updates of vector `i`: (column, token, value) (R41, R50). -/
def Plane.updates (p : Plane) (elem : Nat → Int) (token i G : Nat) : List (Nat × Nat × Int) :=
  match p.mode with
  | .plane =>
    (List.range G).flatMap (fun g =>
      (List.range (512 / p.p)).map (fun o => (o * p.p, (token + G * i + g) % 512, p.combine elem o g G)))
  | _ => (List.range 512).map (fun c => (c, (token + i) % 512, p.group elem c 0 1))

/-- The key of Scoreboard entry (column, token) (R169). -/
def sbKey (col tok : Nat) : Nat := 512 * tok + col

/-- The signed value of a Scoreboard entry. -/
def Classroom.sbAt (r : Classroom) (col tok : Nat) : Int := (Sparse.get (fun _ => 0) r.sb (sbKey col tok)).toInt

/-- Report a Scoreboard entry that a unit reads as Classroom state `r` holds it: uncorrectable or corrected (R183). -/
def State.noteSbOf (s : State) (k : Fin 32) (r : Classroom) (key : Nat) : State :=
  if marked r.sbBad key then
    ((s.bump (Off.sbUncorrectable k) 1).setReg (Off.sbErrAddr k)
      (BitVec.ofNat 64 (key % 512 + (key / 512) * 2 ^ 9 + 2 ^ 18))).markErrorIn k
  else if marked r.sbCorr key then s.bump (Off.sbCorrected k) 1
  else s

/-- Report a Scoreboard entry that a unit reads (R183). -/
def State.noteSb (s : State) (k : Fin 32) (key : Nat) : State := s.noteSbOf k (s.room k) key

/-- Store a Scoreboard entry with fresh check bits. -/
def Classroom.sbStore (r : Classroom) (key : Nat) (v : BitVec 32) : Classroom :=
  { r with sb := Sparse.set (fun _ => 0) r.sb key v, sbBad := setMark r.sbBad key false, sbCorr := setMark r.sbCorr key false }

/-- One Scoreboard update: write the result (ACC = 0) or add it with saturation (ACC = 1, R41, R56). -/
def State.sbUpdate (s : State) (k : Fin 32) (acc : Bool) (e : Nat × Nat × Int) : State :=
  let key := sbKey e.1 e.2.1
  if acc then
    let s := s.noteSb k key
    let sum := (s.room k).sbAt e.1 e.2.1 + e.2.2
    let s := s.modRoom k (fun r => r.sbStore key (BitVec.ofInt 32 (satS32 sum)))
    if inS32 sum then s
    else ((s.bump (Off.arrSat k) 1).markTrouble (wingOf k)).modSeq (wingOf k) (fun q => { q with sbSat := true })
  else s.modRoom k (fun r => r.sbStore key (BitVec.ofInt 32 e.2.2))

/-! ### Accumulators and drains (R53, R57, R171, R183) -/

/-- Accumulator (column, token) (R171). -/
def Classroom.accAt (r : Classroom) (c t : Nat) : F32 := Sparse.get (fun _ => 0) r.acc (sbKey c t)

/-- Write an accumulator. -/
def Classroom.accSet (r : Classroom) (c t : Nat) (v : F32) : Classroom :=
  { r with acc := Sparse.set (fun _ => 0) r.acc (sbKey c t) v }

/-- Apply `f column old` to the accumulators of token `t` in the columns `cs`, in their order. -/
def Classroom.accMap (r : Classroom) (cs : List Nat) (t : Nat) (f : Nat → F32 → F32) : Classroom :=
  cs.foldl (fun r c => r.accSet c t (f c (r.accAt c t))) r

/-- Apply `f column old` to every accumulator of token `t` in columns 0 .. n-1, in column order. -/
def State.accRow (s : State) (k : Fin 32) (n t : Nat) (f : Nat → F32 → F32) : State := s.modRoom k (fun r => r.accMap (List.range n) t f)

/-- A bf16 read from Slate bytes through Narrow port 0. Each operand read on its own is a Narrow read of its word, and counts a bad or corrected word again; a row is one read
(R183 does not say how many reads an operation makes: DESIGN CHOICE, log entry 132). -/
def State.rdBf16 (s : State) (k : Fin 32) (a : Nat) : F32 × State :=
  let (bs, s) := s.slateRead k 5 a 2
  (ofBf16 (BitVec.ofNat 16 (leNat bs)), s)

/-- What a drain makes of an accumulator: the scaled entry, or with FOLD the sum in one rounding (R57). -/
def drainValue (fold : Bool) (scale : F32) (e : Int) (old : F32) : F32 := if fold then ffma scale (ofInt e) old else fmul scale (ofInt e)

/-- The token that a drain reads next, and its 64 columns. -/
def DrainRun.tok (r : DrainRun) : Nat := (r.token + r.next / 8) % 512
/-- The columns of the next group. -/
def DrainRun.cols (r : DrainRun) : List Nat := (List.range 64).map (fun c => 64 * (r.next % 8) + c)

/-- A drain reads its next group of 64 entries, with their error effects, and folds them; with a token's first group it reads the token's scale (R57, R171, R183). -/
def State.drainStep (s : State) (k : Fin 32) (r : DrainRun) : State :=
  let (sc, s) := if r.next % 8 = 0 then s.rdBf16 k (r.scales + 2 * (r.next / 8)) else (r.scale, s)
  let s := r.cols.foldl (fun s c => s.noteSb k (sbKey c r.tok)) s
  let left : Option DrainRun := if r.next + 1 < 8 * r.ntok then some { r with next := r.next + 1, scale := sc } else none
  s.modRoom k (fun m => { m.accMap r.cols r.tok (fun c old => drainValue r.fold sc (m.sbAt c r.tok) old) with drain := left })

/-- The rest of a drain, with the Scoreboard as it stands: nothing else moves in the Timetable (R150; log entry 12). -/
def State.drainRest (k : Fin 32) : Nat → State → State
  | 0, s => s
  | n + 1, s => match (s.room k).drain with | none => s | some r => State.drainRest k n (s.drainStep k r)

/-- The groups of a drain of 512 tokens. -/
def drainFuel : Nat := 4096

/-! ### Vectors on their way (R32, R33, R40, R52, R53, R145)

A FEED reads vector `i` in Timetable cycle `d + i`, and its results reach the Scoreboard four cycles later, in Plane mode five. The Array of the model runs to a cycle
when something that can tell happens in it: a word is dispatched, a counter stops, a unit writes the Slate. -/

/-- The Array of vector `i` of a FEED: the Desk operations counted (R59) and its results on their way. -/
def State.arrayVector (s : State) (k : Fin 32) (f : FeedRun) (i : Nat) (bs : List Byte) : State :=
  let p := (s.room k).front
  let s := s.bump (Off.arrNonzero k) (p.desk.filter (fun e => e.2.getLsbD 0)).length
  let r : FeedResult :=
    { due := f.d + i + (if p.mode = .plane then 5 else 4), acc := f.op.acc,
      updates := p.updates (fun j => feedElem (bs.getD j 0)) f.op.token.toNat i (groupsOf f.op.groups) }
  s.modRoom k (fun c => { c with pipe := c.pipe ++ [r] })

/-- A FEED after its Feed port read a vector; one with nothing left to read or to pass on has ended. -/
def FeedRun.step (f : FeedRun) (raw : List (List Byte)) (next : Nat) : Option FeedRun :=
  if f.op.count.toNat < next ∧ raw = [] then none else some { f with next := next, raw := raw }

/-- Whether a plane swap of a FEED has still to take effect. -/
def Classroom.swapping (r : Classroom) : Bool := r.feeds.any (fun f => f.swap)

/-- The back plane's load that an EXP_LOAD of cycle `t` or before will begin: one sent and not yet taken, or one that waits for its item (R37, R110). -/
def State.loadAhead (s : State) (u : Cr) (t : Nat) : Option ExpLoadOp :=
  match (s.seq u.w).sent.findSome? (fun e => match e.item with
    | .op c 1 (.expLoad o) => if c = u.c ∧ e.t ≤ t then some o else none
    | _ => none) with
  | some o => some o
  | none => ((s.room u.idx).ex.waitLoad.filter (fun x => decide (x.t ≤ t))).map (·.op)

/-- The plane that vectors meet once the swaps that wait have taken effect has this mode: with one of them the back plane's, which a load still to begin gives it; with two the
front plane's, which a load between them gives it. -/
def State.feedMode (s : State) (k : Fin 32) : PlaneMode :=
  let r := s.room k
  match r.feeds.filter (fun f => f.swap) with
  | [] => r.front.mode
  | [f] => match s.loadAhead ⟨wingOf k, roomOf k⟩ f.d with
    | some o => modeOf o.mode
    | none => r.back.mode
  | _ => match r.ex.next with
    | e :: _ => modeOf e.1.mode
    | [] => r.front.mode

/-- The Feed port reads the next vector of the newest FEED, with its error effects and the clamp count; with no swap to wait for it passes the Array. -/
def State.feedNext (s : State) (k : Fin 32) (f : FeedRun) : State :=
  let n := if s.feedMode k = .paired then 1024 else 512
  let (bs, s) := s.slateRead k 0 (512 * f.op.slate.toNat + n * f.next) n
  let s := s.bump (Off.arrFeedCycles k) 1
  let s := s.bump (Off.arrClamped k) (bs.filter (fun b => b == 0x80#8)).length
  let set := fun (s : State) (g : Option FeedRun) => s.modRoom k (fun r => { r with feeds := r.feeds.dropLast ++ g.toList })
  if (s.room k).swapping then set s (f.step (f.raw ++ [bs]) (f.next + 1))
  else set (s.arrayVector k f f.next bs) (f.step [] (f.next + 1))

/-- The Feed port's reads of the cycles before `t`, at most `n` of them. -/
def State.feedReads (k : Fin 32) (t : Nat) : Nat → State → State
  | 0, s => s
  | n + 1, s =>
    match (s.room k).feeds.getLast? with
    | none => s
    | some f => if f.next ≤ f.op.count.toNat ∧ f.d + f.next < t then State.feedReads k t n (s.feedNext k f) else s

/-- The Scoreboard takes the results due before cycle `t`. -/
def State.takeResults (s : State) (k : Fin 32) (t : Nat) : State :=
  let pipe := (s.room k).pipe
  let s := s.modRoom k (fun r => { r with pipe := pipe.filter (fun e => decide (t ≤ e.due)) })
  (pipe.filter (fun e => decide (e.due < t))).foldl (fun s e => e.updates.foldl (fun s x => s.sbUpdate k e.acc x) s) s

/-- The Array at the start of cycle `t`: the vectors of the cycles before it are read, and the Scoreboard holds the updates of those cycles. -/
def State.arrayMove (s : State) (k : Fin 32) (t : Nat) : State := (State.feedReads k t 512 s).takeResults k t

/-- The reads that a drain makes in the cycles before `t`, each of what the Scoreboard held before that cycle's update (R53). -/
def State.drainsTo (k : Fin 32) (t : Nat) : Nat → State → State
  | 0, s => s
  | n + 1, s =>
    match (s.room k).drain with
    | none => s
    | some r => if r.d + r.next < t then State.drainsTo k t n ((s.arrayMove k (r.d + r.next)).drainStep k r) else s

/-- Run Classroom `k` to the start of Timetable cycle `t`: every cycle before it has passed for its Array and its drain. -/
def State.arrayTo (s : State) (k : Fin 32) (t : Nat) : State :=
  if (s.room k).feeds = [] ∧ (s.room k).pipe = [] ∧ (s.room k).drain = none then s else (State.drainsTo k t drainFuel s).arrayMove k t

/-- Classroom `k` as a drain that reads in cycle `t` sees it (R53). -/
def State.drainView (s : State) (k : Fin 32) (t : Nat) : Classroom := (s.arrayTo k t).room k

/-- Run Classroom `k` until nothing is on its way. -/
def State.arrayEnd (s : State) (k : Fin 32) : State :=
  let s := match (s.room k).feeds.getLast? with | none => s | some f => State.feedReads k (f.d + 513) 512 s
  State.drainRest k drainFuel (s.takeResults k ((s.room k).pipe.foldl (fun m e => max m (e.due + 1)) 0))

/-! ### Parity and swap -/

/-- The Bench segment of a Desk key. -/
def segOf (key : Nat) : Nat := 16 * (key % 512) + key / 512 / 32

/-- The parity of the 96 bits of segment `g` (R61). -/
def segParity (desk : Sparse (BitVec 3)) (g : Nat) : Bool :=
  (desk.filter (fun e => segOf e.1 == g)).foldl
    (fun acc e => xor acc (xor (e.2.getLsbD 0) (xor (e.2.getLsbD 1) (e.2.getLsbD 2)))) false

/-- The segments that hold a listed Desk. -/
def segsOf (desk : Sparse (BitVec 3)) : List Nat := uniq (desk.map (fun e => segOf e.1))

/-- The parity bits a load writes (R61). -/
def parityBits (desk : Sparse (BitVec 3)) : Sparse Bool :=
  (segsOf desk).foldl (fun m g => setMark m g (segParity desk g)) []

/-- The segments whose stored parity differs from their bits. -/
def Plane.mismatches (p : Plane) : Nat :=
  ((uniq (segsOf p.desk ++ p.parity.map (·.1))).filter (fun g => segParity p.desk g != marked p.parity g)).length

/-- The check of the front plane, made only while the Wing has a step in flight (R61). -/
def State.parityCheck (s : State) (k : Fin 32) : State :=
  let n := (s.room k).front.mismatches
  if (s.seq (wingOf k)).phase = .idle ∨ n = 0 then s
  else (s.bump (Off.arrParity k) n).markErrorIn k

/-- Exchange the roles of the planes, with their attributes (R35). -/
def Classroom.swap (r : Classroom) : Classroom :=
  { r with front := r.back, back := r.front, frontId := !r.frontId }

/-- The swap taking effect: the exchange, then the check of the plane that became front (R35, R61). -/
def State.swapPlanes (s : State) (k : Fin 32) : State := (s.modRoom k Classroom.swap).parityCheck k

/-- The Hold request of a swap that waits for its load (R36). -/
def swapHold (c : Room) : HoldReq := { cause := .expanderLate, room := some c, unit := 0 }

/-- Whether the first swap that has still to take effect can: no load is in progress, and none of its FEED's cycle or before is about to begin (R36, R37). -/
def State.swapReady (s : State) (u : Cr) (f : FeedRun) : Bool := decide ((s.room u.idx).loads = 0) && (s.loadAhead u f.d).isNone

/-- The vectors of FEED `f` read so far pass the Array. -/
def State.passRaw (s : State) (k : Fin 32) (f : FeedRun) : State :=
  f.raw.zipIdx.foldl (fun s e => s.arrayVector k f (f.next - f.raw.length + e.2) e.1) s

/-- The FEEDs whose swap has taken effect, up to the next one that waits, give their vectors to the Array. -/
def State.passFeeds (k : Fin 32) : List FeedRun → State → List FeedRun × State
  | [], s => ([], s)
  | f :: fs, s =>
    if f.swap then (f :: fs, s)
    else
      let (gs, s) := State.passFeeds k fs (s.passRaw k f)
      ((f.step [] f.next).toList ++ gs, s)

/-- The first swap that waits takes effect: the planes are exchanged, and the vectors read for the plane that is front now pass the Array (R35, R36). -/
def State.swapFirst (s : State) (k : Fin 32) : State :=
  match (s.room k).feeds with
  | [] => s
  | f :: fs =>
    let s := s.swapPlanes k
    let (gs, s) := State.passFeeds k ({ f with swap := false } :: fs) s
    s.modRoom k (fun r => { r with feeds := gs })

/-- The first FEED of a Classroom whose swap waits. -/
def Classroom.swapFeed (r : Classroom) : Option FeedRun := match r.feeds with | f :: _ => if f.swap then some f else none | [] => none

/-- A swap judged in cycle `t`, once it is due, two cycles after its FEED's dispatch: it takes effect, or it holds the Wing from there until its load is complete (R36). -/
def State.swapDue (t : Nat) (s : State) (u : Cr) : State :=
  match (s.room u.idx).swapFeed with
  | none => s
  | some f =>
    if t < f.d + 2 ∨ s.holding u.w (swapHold u.c) then s
    else if s.swapReady u f then s.swapFirst u.idx
    else s.holdOn u.w (f.d + 2) (swapHold u.c)

/-- A dispatched FEED: it reads vector 0 in its cycle, and its swap takes effect, unless a load is in progress or about to begin: then it is judged two cycles on (R36, R37). A
FEED no word sent has no Timetable cycles to wait for: its swap is judged at once, and it runs to its end (log entry 12). -/
def State.feedDispatched (s : State) (u : Cr) (x : WaitOp SlotOp) (o : FeedOp) (sent : Bool) : State :=
  let k := u.idx
  let run : FeedRun := { op := o, d := x.t, next := 0, raw := [], swap := o.swap, sent := sent }
  let waits := o.swap && ((s.room k).swapping || !s.swapReady u run)
  let s := if o.swap && !waits then s.swapPlanes k else s
  let run := { run with swap := waits }
  let s := s.modRoom k (fun r => { r with feeds := r.feeds ++ [run] })
  if sent then State.feedReads k (x.t + 1) 1 s
  else if waits then s.holdOn u.w (x.t + 2) (swapHold u.c)
  else s.arrayEnd k

/-- FEED (R40). -/
def State.feedCmd (s : State) (u : Cr) (o : FeedOp) : State :=
  let sent := (s.takeOp u 0 (.feed o)).1.isSome
  match s.dispatch u 0 (.feed o) with
  | (some x, s) => (if (s.room u.idx).feeds ≠ [] ∧ !(s.room u.idx).swapping then s.arrayEnd u.idx else s).feedDispatched u x o sent
  | (none, s) => s

/-- SWAP_AFTER_LOAD (R36): the waiting swap takes effect once no load is in progress or about to begin; each cycle of waiting is counted. -/
def State.swapAfterLoad (s : State) (u : Cr) (waited : Nat) : State :=
  match (s.room u.idx).swapFeed with
  | none => s
  | some f =>
    if !s.swapReady u f then s
    else
      let s := ((s.bump (Off.arrSwapWaits u.idx) waited).holdOff u.w (swapHold u.c)).swapFirst u.idx
      if f.sent then s else s.arrayEnd u.idx

/-! ### The Wing's Timetable (R121, R144) -/

/-- The first cycle up to `t` that a swap which is not ready keeps from beginning. -/
def State.swapCap (s : State) (w : Wing) (t : Nat) : Nat :=
  (List.finRange 8).foldl (fun m c =>
    let u : Cr := ⟨w, c⟩
    match (s.room u.idx).swapFeed with
    | some f => if s.swapReady u f then m else min m (f.d + 2)
    | none => m) t

end Sys2Proof.Machine
end

