-- ==== Sys2Proof/Machine/Expander.lean ====
section
/-! DEFINITION. The Expander and the Layer-output compressor (R98-R115, R457, R489). -/

namespace Sys2Proof.Machine

open Sys2Proof

/-- Change the Expander of Classroom `k`. -/
def State.modEx (s : State) (k : Fin 32) (f : Expander → Expander) : State := s.modRoom k (fun r => { r with ex := f r.ex })

/-- The Expander of Classroom `k`. -/
def State.ex (s : State) (k : Fin 32) : Expander := (s.room k).ex

/-- A lesson fault the Expander raises: counted in EXP_FAULTS, its event names the item's Slate address (R99). -/
def State.expFault (s : State) (u : Cr) (ref : WordRef) (unit status addr : Nat) : State :=
  (s.bump (Off.expFaults u.idx) 1).lessonFault u.w ref unit (some u.c) status addr

/-- Dispatch an operation to the Expander; a fault found there counts in EXP_FAULTS (R99). -/
def State.expDispatch (s : State) (u : Cr) (op : SlotOp) : Option (WaitOp SlotOp) × State :=
  let r := s.dispatch u 1 op
  if r.1.isSome ∨ (s.seq u.w).heldBack (s.opCycle u 1 op) then r else (none, r.2.bump (Off.expFaults u.idx) 1)

/-! ### Holds of the Expander -/

/-- An item past its due cycle (R109). -/
def dueHold (c : Room) : HoldReq := { cause := .expanderLate, room := some c, unit := 1 }
/-- A dispatch that found the queue full (R107). -/
def fullHold (c : Room) : HoldReq := { cause := .expanderLate, room := some c, unit := 2 }
/-- An EXP_LOAD that found no complete item (R110). -/
def loadHold (c : Room) : HoldReq := { cause := .expanderLate, room := some c, unit := 3 }
/-- A codebook load whose slot is in use (R104). -/
def cbHold (c : Room) : HoldReq := { cause := .codebookBusy, room := some c, unit := 4 }

/-! ### Items -/

/-- Whether an operation fills a decode buffer (R110). -/
def needsBuffer : SlotOp → Bool
  | .expTile _ => true
  | .expPlanes _ => true
  | _ => false

/-- The Slate address of an item's input. -/
def itemAddr : SlotOp → Nat
  | .expTile o => 32 * o.src.toNat
  | .expPlanes o => 32 * o.src.toNat
  | .expAct o => 32 * o.src.toNat
  | .expBf16 o => 32 * o.src.toNat
  | _ => 0

/-- The codebook slot an item names in CB: its use count includes it (R104). -/
def itemSlot : SlotOp → Option Nat
  | .expTile o => if o.cb.toNat < 16 then some o.cb.toNat else none
  | _ => none

/-- The use count of a slot (R104). -/
def Expander.uses (e : Expander) (slot : Nat) : Nat := (e.queue.filter (fun i => itemSlot i.op == some slot)).length

/-- A codebook slot. -/
def Expander.slot (e : Expander) (i : Nat) : CbSlot := Sparse.get (fun _ => CbSlot.empty) e.slots i

/-- Read an item's header at its dispatch: 32 bytes, and 128 more for an entropy-coded tile; 16 for an activation item (R91, R107). -/
def State.itemHeader (s : State) (k : Fin 32) (op : SlotOp) : List Byte × State :=
  match op with
  | .expTile _ =>
    let (h, s) := s.slateRead k 1 (itemAddr op) 32
    if tileCodec h = 1 then
      let (l, s) := s.slateRead k 1 (itemAddr op + 32) 128
      (h ++ l, s)
    else (h, s)
  | .expAct _ => s.slateRead k 1 (itemAddr op) 16
  | _ => ([], s)

/-- What an item's header and operands show at dispatch: its fault's status, whether its output is zero, and its phase lengths
(R95, R97, R102, R105, R106, R108, R115, R489). R489 lists no phases for an EXP_PLANES whose O is too large: it keeps those R108 gives its O, and fills its decode
buffer with zeros (DESIGN CHOICE, log entry 108). An entropy-coded tile whose header is malformed and whose generation does not match has one fault, the header's: R97 and R105
do not say whether a second is raised (DESIGN CHOICE, log entry 130). -/
def itemPlan (e : Expander) (op : SlotOp) (h : List Byte) : Option Nat × Bool × Nat × Nat :=
  match op with
  | .expTile o =>
    if 16 ≤ o.cb.toNat ∧ o.cb.toNat ≤ 30 then (some 0x11, true, 1, 256)
    else if tileBad h o.cb.toNat then (some 0x11, true, 1, 256)
    else if tileCodec h = 1 then
      let c := e.slot o.cb.toNat
      if c.failed then (none, true, (tilePhases h).1, (tilePhases h).2)
      else if c.lens.isNone ∨ c.gen ≠ hfield h 1 1 then (some 0x33, true, 1, 256)
      else (none, false, (tilePhases h).1, (tilePhases h).2)
    else (none, false, (tilePhases h).1, (tilePhases h).2)
  | .expPlanes o =>
    let p := o.p.toNat + 1
    let cnt := o.count.toNat + 1
    let x := max 1 (ceilDiv (2 * cnt) (groupsOf o.g))
    if cnt > 512 / p then (some 0x11, true, 1, x) else (none, false, 1, x)
  | .expAct _ =>
    if actBad h then (some 0x11, true, 1, 8 * min (max (actBlocks h) 1) 64) else (none, false, 1, 8 * actBlocks h)
  | .expBf16 o => (none, false, 1, 4 * (o.count.toNat + 1))
  | _ => (none, false, 1, 1)

/-- The budget the shadow schedule uses (R108). -/
def itemBudget (op : SlotOp) (cost : Nat) : Nat :=
  match op with
  | .expTile o => o.budget.toNat + 1
  | .expAct o => o.budget.toNat + 1
  | _ => cost

/-- Put an item into the queue: header, fault found from it, EXP_OVER_BUDGET and the due cycle (R107-R109). The shadow schedule begins afresh
at a step's start, where T does, and at a replay as it stood at the replay point (DESIGN CHOICE, log entry 20). -/
def State.enqueue (s : State) (u : Cr) (x : WaitOp SlotOp) : State :=
  let (h, s) := s.itemHeader u.idx x.op
  let e := s.ex u.idx
  let (fault, zero, r, xp) := itemPlan e x.op h
  let cost := max r xp
  let b := itemBudget x.op cost
  let s := match fault with
    | some st => s.expFault u x.ref x.unit st (itemAddr x.op)
    | none => s
  let s := if cost > b then s.bump (Off.expOverBudget u.idx) 1 else s
  let sr := max (x.t + 4) (e.sr + e.sb)
  let sx := max (sr + b) (e.sx + e.sb)
  let item : ExpItem :=
    { op := x.op, ref := x.ref, unit := x.unit, phase := .queued, hdr := h, r := r, x := xp, faulted := fault.isSome, zero := zero,
      payload := [], tile := [], bytes := [], due := sx + b, held := false }
  s.modEx u.idx (fun e => { e with queue := e.queue ++ [item], sr := sr, sx := sx, sb := b })

/-! ### Deadlock (R109) -/

/-- Whether the items up to and including the first `n` of the queue need more decode buffers than can come free without a later
Timetable operation. -/
def Expander.stuck (e : Expander) (n : Nat) : Bool :=
  decide (e.full.length - e.next.length + ((e.queue.take n).filter (fun i => needsBuffer i.op)).length > 2)

/-- Release the Expander's Holds, raise a BAD_ARG fault for the awaited item and drop every queued item without output. -/
def State.deadlock (s : State) (u : Cr) (ref : WordRef) (unit addr : Nat) : State :=
  let s := ((s.holdOff u.w (dueHold u.c)).holdOff u.w (fullHold u.c)).holdOff u.w (cbHold u.c)
  (s.expFault u ref unit 0x11 addr).modEx u.idx (fun e => { e with queue := [] })

/-! ### Codebooks (R102, R104) -/

/-- A codebook load reads its image: the generation rises, and the slot is filled or emptied by the checks (R102). An image whose CHECK fails is a detected error and nothing
else, whatever its lengths; its reserved bits are not looked at (DESIGN CHOICE, log entry 109). -/
def State.codebookRead (s : State) (u : Cr) (o : ExpCbloadOp) (ref : WordRef) (unit : Nat) : State :=
  let a := 32 * o.src.toNat
  let (bs, s) := s.slateRead u.idx 1 a 128
  let slot := o.slot.toNat
  let gen := ((s.ex u.idx).slot slot).gen
  let set := fun (s : State) (lens : Option (List Nat)) (failed : Bool) =>
    s.modEx u.idx (fun e => { e with slots := Sparse.set (fun _ => CbSlot.empty) e.slots slot
                                       { lens := lens, gen := (gen + 1) % 256, failed := failed } })
  if crc16 (bs.take 124) ≠ hfield bs 124 2 then
    set ((s.bump (Off.expCheck u.idx) 1).markErrorIn u.idx) none true
  else if cbValid (cbLens bs) then set s (some (cbLens bs)) false
  else set (s.expFault u ref unit 0x11 a) none true

/-- Read a waiting codebook load once its slot's use count is 0. -/
def State.codebookServe (s : State) (u : Cr) : State :=
  match (s.ex u.idx).cbLoad with
  | none => s
  | some x =>
    if (s.ex u.idx).uses x.op.slot.toNat > 0 then s
    else
      let s := (s.modEx u.idx (fun e => { e with cbLoad := none })).holdOff u.w (cbHold u.c)
      s.codebookRead u x.op x.ref x.unit

/-- The number of queue entries up to the last one that names `slot`. -/
def Expander.lastUse (e : Expander) (slot : Nat) : Nat :=
  e.queue.length - (e.queue.reverse.takeWhile (fun i => !(itemSlot i.op == some slot))).length

/-- The Slate address, word and UNIT of queue entry `n - 1`. -/
def Expander.entry (e : Expander) (n : Nat) : Nat × WordRef × Nat :=
  match e.queue[n - 1]? with
  | some i => (itemAddr i.op, i.ref, i.unit)
  | none => (0, ⟨0, 0⟩, 0)

/-- EXP_CBLOAD: read at once when the slot is not in use, else hold with CODEBOOK_BUSY (R104). -/
def State.expCbload (s : State) (u : Cr) (o : ExpCbloadOp) : State :=
  match s.expDispatch u (.expCbload o) with
  | (none, s) => s
  | (some x, s) =>
    let e := s.ex u.idx
    if e.uses o.slot.toNat = 0 then s.codebookRead u o x.ref x.unit
    else
      let s := (s.modEx u.idx (fun e => { e with cbLoad := some { op := o, ref := x.ref, unit := x.unit, t := x.t, frames := x.frames } })).holdOn u.w (x.t + 1) (cbHold u.c)
      let n := e.lastUse o.slot.toNat
      if e.stuck n then
        let (a, ref, un) := e.entry n
        (s.deadlock u ref un a).codebookServe u
      else s

/-! ### Dispatch of items (R107) -/

/-- Dispatch an item: into the queue, or waiting with the Wing held while the queue is full. -/
def State.expItem (s : State) (u : Cr) (op : SlotOp) : State :=
  match s.expDispatch u op with
  | (none, s) => s
  | (some x, s) =>
    let e := s.ex u.idx
    if e.queue.length < 8 ∧ e.waiting = [] then s.enqueue u x
    else
      let s := (s.modEx u.idx (fun e => { e with waiting := e.waiting ++ [x] })).holdOn u.w x.t (fullHold u.c)
      if e.stuck 1 then
        let (a, ref, un) := e.entry 1
        s.deadlock u ref un a
      else s

/-- EXP_QUEUE_ENTRY_FREE: the oldest waiting item is dispatched once an entry is free. -/
def State.expEntryFree (s : State) (u : Cr) : State :=
  match (s.ex u.idx).waiting with
  | [] => s
  | x :: xs =>
    if (s.ex u.idx).queue.length < 8 then
      let s := (s.modEx u.idx (fun e => { e with waiting := xs })).enqueue u x
      if xs = [] then s.holdOff u.w (fullHold u.c) else s
    else s

/-! ### Phases (R108) -/

/-- The input the Reader fetches (R108). -/
def State.itemInput (s : State) (k : Fin 32) (i : ExpItem) : List Byte × State :=
  match i.op with
  | .expTile _ => s.slateRead k 1 (itemAddr i.op + i.hdr.length) (hfield i.hdr 4 4)
  | .expPlanes o => s.slateRead k 1 (itemAddr i.op) ((o.count.toNat + 1) * (512 / groupsOf o.g))
  | .expAct _ => s.slateRead k 1 (itemAddr i.op + 16) (hfield i.hdr 4 4)
  | .expBf16 o =>
    let n := o.count.toNat + 1
    let (b, s) := s.slateRead k 1 (itemAddr i.op) (352 * n)
    let (d, s) := s.slateRead k 1 (32 * o.side.toNat) n
    (b ++ d, s)
  | _ => ([], s)

/-- CHECK of an item with a header (R98). -/
def itemCheck (i : ExpItem) : Option Nat :=
  match i.op with
  | .expTile _ => some (hfield i.hdr 8 2)
  | .expAct _ => some (hfield i.hdr 10 2)
  | _ => none

/-- Fetch an item's input: its CRC is checked and stationary bytes out of range are counted (R98, R112). A faulted item reads nothing (R489). -/
def State.readItem (s : State) (u : Cr) (i : ExpItem) : ExpItem × State :=
  if i.faulted then ({ i with phase := .reading }, s)
  else
    let (bs, s) := s.itemInput u.idx i
    let s := match itemCheck i with
      | some c => if crc16 bs = c then s else (s.bump (Off.expCheck u.idx) 1).markErrorIn u.idx
      | none => s
    let s := match i.op with
      | .expPlanes o => s.bump (Off.expPlaneRange u.idx) (bs.filter (planeRange (o.p.toNat + 1))).length
      | _ => s
    ({ i with phase := .reading, payload := bs }, s)

/-- Replace queue entry `n`. -/
def Expander.setEntry (e : Expander) (n : Nat) (i : ExpItem) : Expander := { e with queue := e.queue.set n i }

/-- The Reader phase in progress has ended. -/
def Expander.fetchDone (e : Expander) : Expander :=
  { e with queue := e.queue.map (fun (j : ExpItem) => if j.phase == ItemPhase.reading then { j with phase := .fetched } else j) }

/-- EXP_READER_PHASE_START: the item being read is fetched, and the Reader takes the oldest item not yet read. -/
def State.readerStart (s : State) (u : Cr) : State :=
  match (s.ex u.idx).queue.findIdx? (fun i => i.phase == .queued) with
  | none => s
  | some n =>
    match (s.ex u.idx).queue[n]? with
    | none => s
    | some i =>
      let (i, s) := s.readItem u i
      s.modEx u.idx (fun e => e.fetchDone.setEntry n i)

/-- What an item's expand phase produces: a tile, or Slate bytes; none when the payload is malformed (R90, R94, R113, R489). -/
def itemOutput (e : Expander) (i : ExpItem) : Option (Sparse (BitVec 3) × List Byte) :=
  match i.op with
  | .expTile o =>
    if i.zero then some ([], [])
    else if tileCodec i.hdr = 0 then (rawTile i.payload).map (fun t => (t, []))
    else (entropyTile ((e.slot o.cb.toNat).lens.getD []) i.hdr i.payload).map (fun t => (t, []))
  | .expPlanes o =>
    if i.zero then some ([], []) else some (planesTile (o.p.toNat + 1) (groupsOf o.g) (o.count.toNat + 1) i.payload, [])
  | .expAct _ =>
    if i.zero then some ([], List.replicate (64 * i.x) 0)
    else (actDense i.hdr i.payload).map (fun b => ([], b))
  | .expBf16 o =>
    let n := o.count.toNat + 1
    some ([], (List.range n).flatMap (fun b => bf16Block ((i.payload.drop (352 * b)).take 352) (hfield i.payload (352 * n + b) 1)))
  | _ => some ([], [])

/-- Decode buffers free for the next item (R110). -/
def Classroom.freeBuffers (r : Classroom) : Nat :=
  2 - (r.ex.full.length + r.loads + (r.ex.queue.filter (fun i => i.phase == .expanding && needsBuffer i.op)).length)

/-- EXP_EXPAND_PHASE_START: the head of the queue, once read and with its decode buffer free, is decoded. -/
def State.expandStart (s : State) (u : Cr) : State :=
  match (s.ex u.idx).queue with
  | [] => s
  | i :: rest =>
    if (i.phase == .queued) || (i.phase == .expanding) then s
    else if needsBuffer i.op && decide ((s.room u.idx).freeBuffers = 0) then s
    else
      match itemOutput (s.ex u.idx) i with
      | some (t, b) =>
        s.modEx u.idx (fun e => { e with queue := { i with phase := .expanding, tile := t, bytes := b } :: rest })
      | none =>
        let zeros := match i.op with | .expAct _ => List.replicate (64 * i.x) 0 | _ => []
        (s.expFault u i.ref i.unit 0x11 (itemAddr i.op)).modEx u.idx (fun e =>
          { e with queue := { i with phase := .expanding, faulted := true, zero := true, tile := [], bytes := zeros } :: rest })

/-! ### Loads (R34, R110, R111) -/

/-- The SEL bits of a select buffer joined to a tile's Desks (R111). -/
def withSel (sel : Memory) (buf : Nat) (desk : Sparse (BitVec 3)) : Sparse (BitVec 3) :=
  (sel.filter (fun e => e.1 / 32768 == buf)).foldl (fun m e =>
    (List.range 8).foldl (fun m i =>
      if e.2.getLsbD i then
        let k := 512 * (e.1 % 32768 / 64) + 8 * (e.1 % 64) + i
        Sparse.set (fun _ => 0) m k (Sparse.get (fun _ => 0) m k ||| 4#3)
      else m) m) desk

/-- Count the select bytes with a parity error that a Paired load reads (R183). -/
def State.noteSel (s : State) (u : Cr) (buf : Nat) : State :=
  let n := ((s.ex u.idx).selBad.filter (fun e => e.1 / 32768 == buf && e.2)).length
  if n = 0 then s else (s.bump (Off.sltSelCheck u.idx) n).markErrorIn u.idx

/-- Write the oldest full decode buffer into the back plane. The model writes the whole plane when the load begins; the load is in progress
until BACK_PLANE_LOAD_COMPLETE, and a select transfer that lands before then reaches the rows not yet written (`State.lateSel`). -/
def State.startLoad (s : State) (u : Cr) (o : ExpLoadOp) : State :=
  match (s.ex u.idx).full with
  | [] => s
  | t :: ts =>
    let paired := decide (o.mode = 1#2)
    let s := if paired then s.noteSel u (b2n o.selbuf) else s
    s.modRoom u.idx (fun r =>
      let desk := if paired then withSel r.ex.sel (b2n o.selbuf) t else t
      { r with back := { desk := desk, mode := modeOf o.mode, p := o.p.toNat, parity := parityBits desk }
               loads := r.loads + 1
               ex := { r.ex with full := ts, selReads := r.ex.selReads ++ [if paired then some o.selbuf else none] } })

/-- The load of an EXP_LOAD of cycle `e`, whose first write cycle is the next one, meets a plane swap of that cycle or before: the swap takes effect first if it can; if it already
holds the Wing, the load writes the plane that is still back; and else both wait for the swap to be judged (R36, R37, R110). -/
def State.beginLoad (s : State) (u : Cr) (o : ExpLoadOp) (e : Nat) : State :=
  match (s.room u.idx).swapFeed with
  | none => s.startLoad u o
  | some f =>
    if e ≤ f.d ∨ s.holding u.w (swapHold u.c) then s.startLoad u o
    else if s.swapReady u f then (s.swapFirst u.idx).startLoad u o
    else s.modEx u.idx (fun x => { x with next := x.next ++ [(o, e)] })

/-- The loads that waited for a swap to be judged, and whose first write cycle has come by cycle `t`, begin. -/
def State.nextLoads (t : Nat) (s : State) (u : Cr) : State :=
  let go := (s.ex u.idx).next.filter (fun x => decide (x.2 + 1 ≤ t))
  go.foldl (fun s x => s.beginLoad u x.1 x.2) (s.modEx u.idx (fun x => { x with next := x.next.filter (fun y => !decide (y.2 + 1 ≤ t)) }))

/-- Run the Wing's Classrooms to cycle `t`, or to the first cycle that a swap holds: the swaps due by then are judged and the loads that waited for them begin, and the cycles before
it pass for the Arrays and the drains (R36-R38, R52, R53, R145). -/
def State.roundTo (s : State) (w : Wing) (t : Nat) : State :=
  let t := s.swapCap w t
  (List.finRange 8).foldl (fun s c => ((s.swapDue t ⟨w, c⟩).nextLoads t ⟨w, c⟩).arrayTo (roomIndex w c) t) s

/-- The Timetable of Wing `w` reaches cycle `t`, but no cycle that the Hold keeps from beginning (R144). Two FEEDs dispatched in a row may each have a swap to be judged, hence two
rounds. -/
def State.runTo (s : State) (w : Wing) (t : Nat) : State :=
  let t := if (s.seq w).held then min t (s.seq w).holdT else t
  let s := (s.roundTo w t).roundTo w t
  let t := if (s.seq w).held then min t (s.seq w).holdT else t
  s.modSeq w (fun q => { q with t := max q.t t })

/-- EXP_LOAD (R110): with no item ahead of it a BAD_ARG fault, whose event names Slate address 0, as no item is there to name (DESIGN CHOICE, log entry 130); with none complete the
Wing holds until one is. -/
def State.expLoad (s : State) (u : Cr) (o : ExpLoadOp) : State :=
  match s.expDispatch u (.expLoad o) with
  | (none, s) => s
  | (some x, s) =>
    let e := s.ex u.idx
    if e.full.length > e.next.length then s.beginLoad u o x.t
    else if e.queue.any (fun i => needsBuffer i.op) then
      (s.modEx u.idx (fun e => { e with waitLoad := some { op := o, ref := x.ref, unit := x.unit, t := x.t, frames := x.frames } })).holdOn u.w (x.t + 1) (loadHold u.c)
    else s.expFault u x.ref x.unit 0x11 0

/-- The Desks of a plane with the SEL bits of rows `row` and later read again from a select buffer (R111). -/
def reSel (sel : Memory) (buf row : Nat) (desk : Sparse (BitVec 3)) : Sparse (BitVec 3) :=
  let old := desk.filter (fun e => decide (e.1 < 512 * row))
  let clear := desk.filterMap (fun e => if 512 * row ≤ e.1 ∧ e.2 &&& 3#3 ≠ 0 then some (e.1, e.2 &&& 3#3) else none)
  old ++ (withSel sel buf clear).filter (fun e => decide (512 * row ≤ e.1))

/-- Bytes that land in select buffer `buf` while a load that has written `pairs` pairs of rows reads it reach exactly the rows still to be written (R111, R168). -/
def State.lateSel (s : State) (k : Fin 32) (buf : Bool) (pairs : Nat) : State :=
  if (s.ex k).selReads.contains (some buf) then
    s.modRoom k (fun r =>
      let desk := reSel r.ex.sel (b2n buf) (2 * pairs) r.back.desk
      { r with back := { r.back with desk := desk, parity := parityBits desk } })
  else s

/-- BACK_PLANE_LOAD_COMPLETE: the load ends and its decode buffer is free. -/
def State.loadComplete (s : State) (u : Cr) : State :=
  s.modRoom u.idx (fun r => { r with loads := r.loads - 1, ex := { r.ex with selReads := r.ex.selReads.drop 1 } })

/-- A waiting EXP_LOAD takes the item that has just completed. -/
def State.serveLoad (s : State) (u : Cr) : State :=
  match (s.ex u.idx).waitLoad with
  | none => s
  | some x =>
    if (s.ex u.idx).full = [] then s
    else ((s.modEx u.idx (fun e => { e with waitLoad := none })).holdOff u.w (loadHold u.c)).beginLoad u x.op x.t

/-! ### Completion and due cycles (R108, R109) -/

/-- Deliver a completed item: a tile to a decode buffer, bytes to the Slate. -/
def State.deliver (s : State) (u : Cr) (i : ExpItem) : State :=
  match i.op with
  | .expTile _ => s.modEx u.idx (fun e => { e with full := e.full ++ [i.tile] })
  | .expPlanes _ => s.modEx u.idx (fun e => { e with full := e.full ++ [i.tile] })
  | .expAct o => s.slateWrite u.idx 1 (64 * o.dst.toNat) i.bytes
  | .expBf16 o => s.slateWrite u.idx 1 (64 * o.dst.toNat) i.bytes
  | _ => s

/-- EXP_ITEM_COMPLETE: the expand phase of the head of the queue ends. -/
def State.itemComplete (s : State) (u : Cr) : State :=
  match (s.ex u.idx).queue with
  | [] => s
  | i :: rest =>
    if !(i.phase == .expanding) then s
    else
      let s := (s.modEx u.idx (fun e => { e with queue := rest })).deliver u i
      let s := s.bump (Off.expItems u.idx) 1
      let s := if rest.any (fun j => j.held) then s else s.holdOff u.w (dueHold u.c)
      s.serveLoad u

/-- EXP_ITEM_DUE: the counter reads D - 4 for the oldest item not yet held for, which will not be complete in its due cycle D (R109, R143). -/
def State.itemDue (s : State) (u : Cr) : State :=
  match (s.ex u.idx).queue.findIdx? (fun i => !i.held) with
  | none => s
  | some n =>
    match (s.ex u.idx).queue[n]? with
    | none => s
    | some i =>
      let s := s.runTo u.w (i.due - 4)
      if (s.ex u.idx).stuck (n + 1) then s.deadlock u i.ref i.unit (itemAddr i.op)
      else (s.modEx u.idx (fun e => e.setEntry n { i with held := true })).holdOn u.w i.due (dueHold u.c)

/-! ### The replay point (R102, R105, R457) -/

/-- An entropy-coded item whose expand phase has not ended at a replay point is a generation mismatch with the phase lengths of R489, whatever was found of it before, be it that its
slot was emptied by a failed load (R105, R457 against R102's "no further fault": DESIGN CHOICE, log entry 130). -/
def State.mismatchItem (s : State) (u : Cr) (n : Nat) : State :=
  match (s.ex u.idx).queue[n]? with
  | none => s
  | some i =>
    let ent := match i.op with | .expTile _ => decide (tileCodec i.hdr = 1) | _ => false
    if ent then
      (s.expFault u i.ref i.unit 0x33 (itemAddr i.op)).modEx u.idx (fun e => e.setEntry n { i with faulted := true, zero := true, tile := [], r := 1, x := 256 })
    else s

/-- The replay point in one Expander: mismatches, then every slot empty with generation 0. The first pass keeps the shadow schedule's terms; `again`, a replay, begins
from them, as it dispatches every word in the same Timetable cycle (R151; DESIGN CHOICE, log entry 20). -/
def State.expReplay (s : State) (u : Cr) (again : Bool) : State :=
  let s := (List.range 8).foldl (fun s n => s.mismatchItem u n) s
  s.modEx u.idx (fun e =>
    if again then { e with slots := [], sr := e.replay.1, sx := e.replay.2.1, sb := e.replay.2.2 }
    else { e with slots := [], replay := (e.sr, e.sx, e.sb) })

/-! ### The Layer-output compressor (R113-R115) -/

/-- LOC_PACK. -/
def State.locPack (s : State) (u : Cr) (o : LocPackOp) : State :=
  match s.dispatch u 4 (.locPack o) with
  | (none, s) => s
  | (some _, s) =>
    let n := o.blocks.toNat
    let (bs, s) := s.slateRead u.idx 7 (512 * o.src.toNat) (512 * n)
    let (item, raw) := packAct n bs
    let s := s.slateWrite u.idx 7 (32 * o.dst.toNat) item
    let s := s.bump (Off.locBlocks u.idx) n
    if raw then s.bump (Off.locRaw u.idx) 1 else s

end Sys2Proof.Machine
end

