-- ==== Sys2Proof/Machine/Links.lean ====
section
/-! DEFINITION. The die-to-die links (R23): the dies each joins, the routes of R24, the flits an access sends over them, and their audit (R453). -/

namespace Sys2Proof.Machine

open Sys2Proof

/-- A die that links join. -/
inductive LinkEnd where
  | wing (w : Wing)
  | office
deriving DecidableEq, Repr

/-- The dies that a link joins (R23), with ring 0-3 as 0-3 and office 0-3 as 4-7 (R462). -/
def linkEnds (l : Fin 8) : LinkEnd × LinkEnd :=
  match l with
  | 0 => (.wing 0, .wing 1)
  | 1 => (.wing 1, .wing 3)
  | 2 => (.wing 3, .wing 2)
  | 3 => (.wing 2, .wing 0)
  | 4 => (.office, .wing 0)
  | 5 => (.office, .wing 1)
  | 6 => (.office, .wing 2)
  | 7 => (.office, .wing 3)

/-- A link and the direction in which it is used: `away` from the first die that `linkEnds` names. -/
structure Hop where
  link : Fin 8
  away : Bool
deriving DecidableEq, Repr

/-- The die a hop leaves. -/
def Hop.source (h : Hop) : LinkEnd := if h.away then (linkEnds h.link).1 else (linkEnds h.link).2

/-- The die a hop reaches. -/
def Hop.target (h : Hop) : LinkEnd := if h.away then (linkEnds h.link).2 else (linkEnds h.link).1

/-- The table of Wing-to-Wing routes (R24). Opposite Wings are two hops apart in the ring order W0, W1, W3, W2, W0. -/
def wingRoute (v w : Wing) : List Hop :=
  match v.val, w.val with
  | 0, 1 => [⟨0, true⟩]
  | 0, 2 => [⟨3, false⟩]
  | 0, 3 => [⟨0, true⟩, ⟨1, true⟩]
  | 1, 0 => [⟨0, false⟩]
  | 1, 2 => [⟨1, true⟩, ⟨2, true⟩]
  | 1, 3 => [⟨1, true⟩]
  | 2, 0 => [⟨3, true⟩]
  | 2, 1 => [⟨3, true⟩, ⟨0, true⟩]
  | 2, 3 => [⟨2, false⟩]
  | 3, 0 => [⟨2, true⟩, ⟨3, true⟩]
  | 3, 1 => [⟨1, false⟩]
  | 3, 2 => [⟨2, true⟩]
  | _, _ => []

/-- The office link of a Wing. -/
def officeLink (w : Wing) : Fin 8 := ⟨4 + w.val, by omega⟩

/-- The hops from one die to another (R24): a Wing and the Front Office use that Wing's office link only. -/
def route : LinkEnd → LinkEnd → List Hop
  | .wing v, .wing w => wingRoute v w
  | .wing v, .office => [⟨officeLink v, false⟩]
  | .office, .wing w => [⟨officeLink w, true⟩]
  | .office, .office => []

/-- The key of one channel of a link in one direction. -/
def linkKey (h : Hop) (ch : Nat) : Nat := 8 * h.link.val + 4 * b2n h.away + ch

/-- Buffers of a die-to-die channel, per direction (R453). -/
def linkBuffers (c : Fin 4) : Nat := if c = 0 then 256 else if c = 1 then 512 else 128

/-- A channel after reset: every buffer is free, and the sender holds a credit for each. -/
def channelReset (k : Nat) : Channel := { sent := 0, freed := 0, credits := linkBuffers ⟨k % 4, by omega⟩ }

/-- Channel `ch` of a link in one direction. -/
def State.channel (s : State) (h : Hop) (ch : Nat) : Channel := Sparse.get channelReset s.mem.links (linkKey h ch)

/-- The running count of flits sent over a channel in one direction (R453). -/
def State.flits (s : State) (h : Hop) (ch : Nat) : Nat := (s.channel h ch).sent

/-- `k` flits are sent, received and their buffers freed, and the credits are back (log entry 102). -/
def Channel.pass (c : Channel) (k : Nat) : Channel := { c with sent := (c.sent + k) % 2 ^ 32, freed := (c.freed + k) % 2 ^ 32 }

/-- `n` bytes go from one die to another in channel `ch`, in flits of 256 bytes over every link of the route; what each link sends is received and its
buffers freed within the command (log entry 102). -/
def State.carry (s : State) (src dst : LinkEnd) (ch n : Nat) : State :=
  if n = 0 then s
  else { s with mem := { s.mem with links := (route src dst).foldl (fun m h =>
      Sparse.set channelReset m (linkKey h ch) ((Sparse.get channelReset m (linkKey h ch)).pass (ceilDiv n 256))) s.mem.links } }

/-- A control message of the Front Office, a start record, a vote or a verdict: one flit of channel 3 (R453, log entry 102). -/
def State.control3 (s : State) (src dst : LinkEnd) : State := s.carry src dst 3 1

/-! ### The audit (R453) -/

/-- UNIT of a die-to-die link (R462). -/
def linkUnit (l : Fin 8) : Nat := 0x200 + l.val

/-- The direction an audit is of. -/
def auditHop (a : Audit) : Hop := ⟨a.link, a.away⟩

/-- What an audit finds in a channel: the receiver answers with its running count at the cut, and the sender's credits stand as they do. -/
def auditFinds (a : Audit) (c : Channel) : Channel := { c with freed := a.freed.toNat, credits := a.credits }

/-- Whether a channel of `n` buffers is in balance: the credits equal the buffers less the flits sent and not yet freed. -/
def Channel.balanced (c : Channel) (n : Nat) : Bool :=
  let out := (c.sent + 2 ^ 32 - c.freed) % 2 ^ 32
  decide (out ≤ n) && decide (c.credits + out = n)

/-- The channel that an audit is of, as it finds it. -/
def State.audited (s : State) (a : Audit) : Channel := auditFinds a (s.channel (auditHop a) a.channel.val)

/-- Whether an audit finds the sender's credits equal to the buffers less the flits not yet freed. -/
def State.auditHolds (s : State) (a : Audit) : Bool := (s.audited a).balanced (linkBuffers a.channel)

/-- The channel stands as the audit found it. -/
def State.setAudited (s : State) (a : Audit) : State :=
  { s with mem := { s.mem with links := Sparse.set channelReset s.mem.links (linkKey (auditHop a) a.channel.val) (s.audited a) } }

end Sys2Proof.Machine
end

