-- ==== Sys2Proof/Machine/Library.lean ====
section
/-! DEFINITION. The Library of a Wing (R174-R186): scratch bytes with their error effects, and the cache of T1 lines with its
hints and ways. -/

namespace Sys2Proof.Machine

open Sys2Proof

/-- Bytes of a Wing's Library: 1 GiB (R174). -/
def libSize : Nat := 2 ^ 30

/-- The key of Library offset `o` of Wing `w`. -/
def libKey (w : Wing) (o : Nat) : Nat := libSize * w.val + o

/-- The end of scratch of Wing `w` (R175). -/
def State.scratchEnd (s : State) (w : Wing) : Nat := s.regField (Off.libSplit w) 0 5 * 2 ^ 26

/-- The number of cache sets of Wing `w` (R177). -/
def State.cacheSets (s : State) (w : Wing) : Nat := (16 - s.regField (Off.libSplit w) 0 5) * 4096

/-- The 32-byte sectors that `n` bytes from `a` touch, as numbers. -/
def sectors (a n : Nat) : List Nat :=
  if n = 0 then [] else (List.range ((a + n - 1) / 32 - a / 32 + 1)).map (fun i => a / 32 + i)

/-- Library bytes as stored, without error effects. -/
def State.libBytes (s : State) (w : Wing) (o n : Nat) : List Byte :=
  (List.range n).map (fun i => Memory.read s.mem.lib (libKey w ((o + i) % libSize)))

/-- A little-endian number from the Library, without error effects. -/
def State.libLE (s : State) (w : Wing) (o n : Nat) : Nat := leNat (s.libBytes w o n)

/-- Whether one of the sectors under `n` bytes from Library offset `o` is uncorrectable. -/
def State.libIsBad (s : State) (w : Wing) (o n : Nat) : Bool :=
  (sectors (libKey w o) n).any (fun x => marked s.mem.libBad x)

/-- Count and record the uncorrectable and corrected Library sectors among those read (R183, R184). -/
def State.noteSectors (s : State) (w : Wing) (xs : List Nat) : State :=
  let bad := xs.filter (fun x => marked s.mem.libBad x)
  let cor := xs.filter (fun x => !marked s.mem.libBad x && marked s.mem.libCorr x)
  let s := if cor = [] then s else s.bump (Off.libCorrected w) cor.length
  match bad.getLast? with
  | none => s
  | some x =>
    (s.bump (Off.libUncorrectable w) bad.length).setReg (Off.libErrAddr w)
      (BitVec.ofNat 64 ((32 * x) % libSize + b2n (decide ((32 * x) % libSize ≥ s.scratchEnd w)) * 2 ^ 30 + 2 ^ 31))

/-- Count and record what a read of `n` bytes from Library offset `o` met. -/
def State.noteLib (s : State) (w : Wing) (o n : Nat) : State := s.noteSectors w (sectors (libKey w o) n)

/-- A scratch read by a paced unit, a Mover or the Sequencer: an uncorrectable sector is an activation error (R184). -/
def State.libRead (s : State) (w : Wing) (o n : Nat) : List Byte × State :=
  let bad := s.libIsBad w o n
  let bs := s.libBytes w o n
  let s := s.noteLib w o n
  (bs, if bad then s.markError w else s)

/-- A scratch read by the Front Office, over its office link: the bytes, whether a sector was uncorrectable, and the counts (R24, R184). -/
def State.libReadFo (s : State) (w : Wing) (o n : Nat) : List Byte × Bool × State :=
  (s.libBytes w o n, s.libIsBad w o n, (s.noteLib w o n).carry (.wing w) .office 0 n)

/-- The effects of a Front Office read of scratch whose bytes are looked at elsewhere (R24, R184). -/
def State.libTouchFo (s : State) (w : Wing) (o n : Nat) : State := (s.libReadFo w o n).2.2

/-- A scratch read of several runs of bytes (offset, length) by the Front Office, each sector read once: the runs, whether a sector was uncorrectable, and
the counts (R184). -/
def State.libReadRuns (s : State) (w : Wing) (runs : List (Nat × Nat)) : List (List Byte) × Bool × State :=
  let xs := uniq (runs.flatMap (fun r => sectors (libKey w r.1) r.2))
  (runs.map (fun r => s.libBytes w r.1 r.2), xs.any (fun x => marked s.mem.libBad x), (s.noteSectors w xs).carry (.wing w) .office 0 (32 * xs.length))

/-- Whether sector number `x` lies wholly within `n` bytes from `a`. -/
def covers (a n x : Nat) : Bool := decide (a ≤ 32 * x ∧ 32 * x + 32 ≤ a + n)

/-- Write Library bytes; a sector written whole takes fresh check bits. -/
def State.libWrite (s : State) (w : Wing) (o : Nat) (bs : List Byte) : State :=
  let k := libKey w o
  let whole := (sectors k bs.length).filter (fun x => covers k bs.length x)
  { s with mem := { s.mem with
      lib := Memory.writeN s.mem.lib k bs
      libBad := whole.foldl (fun m x => setMark m x false) s.mem.libBad
      libCorr := whole.foldl (fun m x => setMark m x false) s.mem.libCorr } }

/-- A write of Library bytes by the Front Office, over the Wing's office link (R24). -/
def State.libWriteFo (s : State) (w : Wing) (o : Nat) (bs : List Byte) : State := (s.carry .office (.wing w) 0 bs.length).libWrite w o bs

/-! ### The cache (R177-R181) -/

/-- The way of a set that holds line `tag`. -/
def CacheSet.find (c : CacheSet) (tag : Nat) : Option (Nat × CacheLine) :=
  (List.range 16).findSome? (fun i =>
    match Sparse.get (fun _ => none) c.ways i with
    | some l => if l.tag = tag then some (i, l) else none
    | none => none)

/-- Store way `i` of a set. -/
def CacheSet.put (c : CacheSet) (i : Nat) (l : Option CacheLine) : CacheSet :=
  { c with ways := Sparse.set (fun _ => none) c.ways i l }

/-- Make way `i` the most recent. -/
def CacheSet.recent (c : CacheSet) (i : Nat) : CacheSet := { c with order := i :: c.order.filter (fun j => j != i) }

/-- Make way `i` the least recent. -/
def CacheSet.oldest (c : CacheSet) (i : Nat) : CacheSet := { c with order := c.order.filter (fun j => j != i) ++ [i] }

/-- Ways of a set that hold KEEP. -/
def CacheSet.keeps (c : CacheSet) : Nat :=
  countN 16 (fun i => match Sparse.get (fun _ => none) c.ways i with | some l => l.keep | none => false)

/-- The way a new line takes among the ways of the mask `ways`: the lowest invalid one, else the least recent without KEEP (R179). -/
def CacheSet.victim (c : CacheSet) (ways : Nat) : Option Nat :=
  let allowed := fun i => bit ways i
  match firstIdx 16 (fun i => allowed i && (Sparse.get (fun _ => none) c.ways i).isNone) with
  | some i => some i
  | none =>
    c.order.reverse.find? (fun i => allowed i &&
      match Sparse.get (fun _ => none) c.ways i with | some l => !l.keep | none => true)

/-- Cache set `x` of Wing `w`. -/
def State.cacheSet (s : State) (w : Wing) (x : Nat) : CacheSet :=
  Sparse.get (fun _ => CacheSet.empty) (s.wing w).cache x

/-- Store a cache set. -/
def State.setCacheSet (s : State) (w : Wing) (x : Nat) (c : CacheSet) : State :=
  s.setWing w { s.wing w with cache := Sparse.set (fun _ => CacheSet.empty) (s.wing w).cache x c }

/-- An access would set KEEP on a thirteenth way: it then acts as NORMAL and is counted (R179), be it that it could allocate no way in any case (DESIGN CHOICE, log entry 132). -/
def State.keepHint (s : State) (w : Wing) (c : CacheSet) (hint : Nat) (has : Bool) : Nat × State :=
  if hint = 2 ∧ !has ∧ c.keeps ≥ 12 then (0, s.bump (Off.libKeepRefused w) 1) else (hint, s)

/-- The Library sector that holds sector `j` of way `i` of set `x`: the model lays the cache's ways out in set order above scratch
(DESIGN CHOICE, log entry 13; only the error marks and LIB_ERR_ADDR show it). -/
def State.waySector (s : State) (w : Wing) (x i j : Nat) : Nat := (libKey w (s.scratchEnd w)) / 32 + 512 * x + 32 * i + j

/-- Put a line into way `i`: its cells take fresh check bits. -/
def State.fillWay (s : State) (w : Wing) (x i : Nat) (c : CacheSet) (l : CacheLine) : State :=
  let s := s.setCacheSet w x (c.put i (some l))
  let xs := (List.range 32).map (fun j => s.waySector w x i j)
  { s with mem := { s.mem with libBad := xs.foldl (fun m k => setMark m k false) s.mem.libBad
                               libCorr := xs.foldl (fun m k => setMark m k false) s.mem.libCorr } }

/-- The valid bit of sector `sec` in its line, when the access brought it whole: an uncorrectable sector is never valid in a line (log entry 22). -/
def sectorBit (sec : Nat) (ok : Bool) : BitVec 32 := if ok then BitVec.ofNat 32 (2 ^ (sec % 32)) else 0#32

/-- An access to a line no way holds: fetched if it reads, allocated as its hint gives (R178, R179). -/
def State.cacheAbsent (s : State) (w : Wing) (write : Bool) (hint ways sec : Nat) (ok : Bool) : State :=
  let x := sec / 32 % s.cacheSets w
  let c := s.cacheSet w x
  let (hint, s) := s.keepHint w c hint false
  let s := if write then s else s.bump (Off.libMisses w) 1
  if hint ≥ 3 ∨ (write ∧ hint = 1) then s
  else
    match c.victim ways with
    | none => s
    | some i =>
      s.fillWay w x i (if hint = 1 then c.oldest i else c.recent i)
        { tag := sec / 32, valid := sectorBit sec ok, keep := decide (hint = 2) }

/-- An access to the line in way `i`; a sector written or fetched into it takes fresh check bits (R178-R180, R182). -/
def State.cachePresent (s : State) (w : Wing) (write : Bool) (hint sec i : Nat) (l : CacheLine) (ok : Bool) : State :=
  let x := sec / 32 % s.cacheSets w
  let c := s.cacheSet w x
  let (hint, s) := s.keepHint w c hint l.keep
  let s := if write then s
    else if bit l.valid.toNat (sec % 32) then s.bump (Off.libHits w) 1 else s.bump (Off.libMisses w) 1
  if hint = 3 then s.setCacheSet w x (c.put i none)
  else
    let fresh := write || !bit l.valid.toNat (sec % 32)
    let k := s.waySector w x i (sec % 32)
    let c := c.put i (some { l with valid := (l.valid &&& ~~~ (sectorBit sec true)) ||| sectorBit sec ok, keep := l.keep || decide (hint = 2) })
    let s := s.setCacheSet w x (if hint = 1 ∨ hint = 4 then c else c.recent i)
    if fresh then { s with mem := { s.mem with libBad := setMark s.mem.libBad k false, libCorr := setMark s.mem.libCorr k false } } else s

/-- An uncorrectable sector of a cache line: the line is invalidated and refetched, and no error reaches the requester (R184). -/
def State.cacheRefetch (s : State) (w : Wing) (x i j : Nat) : State :=
  let k := s.waySector w x i j
  let s := s.setCacheSet w x ((s.cacheSet w x).put i none)
  let s := (s.bump (Off.libUncorrectable w) 1).bump (Off.libRefetch w) 1
  s.setReg (Off.libErrAddr w) (BitVec.ofNat 64 ((32 * k) % libSize + 2 ^ 30 + 2 ^ 31))

/-- One access to sector `sec` of a T1 line (R178-R181): `hint` 0 NORMAL, 1 STREAM, 2 KEEP, 3 LAST_USE, 4 LAST_USE before the transfer's
last sector of the line; `ways` the tenant's way mask; `ok` false when the sector read or left in HBM is uncorrectable. With no cache set every access is served uncached (R188). -/
def State.cacheAccess (s : State) (w : Wing) (write : Bool) (hint ways sec : Nat) (ok : Bool) : State :=
  let sets := s.cacheSets w
  if sets = 0 then (if write then s else s.bump (Off.libMisses w) 1)
  else
    let x := sec / 32 % sets
    match (s.cacheSet w x).find (sec / 32) with
    | none => s.cacheAbsent w write hint ways sec ok
    | some (i, l) =>
      if !write && bit l.valid.toNat (sec % 32) && marked s.mem.libBad (s.waySector w x i (sec % 32)) then
        (s.cacheRefetch w x i (sec % 32)).cacheAbsent w write hint ways sec ok
      else
        let seen := !write && bit l.valid.toNat (sec % 32) && marked s.mem.libCorr (s.waySector w x i (sec % 32))
        (if seen then s.bump (Off.libCorrected w) 1 else s).cachePresent w write hint sec i l ok

/-- Whether a line of Wing `w` holds sector `sec` readable: a read of it then reads no HBM. -/
def State.cacheHolds (s : State) (w : Wing) (sec : Nat) : Bool :=
  let sets := s.cacheSets w
  let x := sec / 32 % sets
  decide (sets ≠ 0) && (match (s.cacheSet w x).find (sec / 32) with
    | some (i, l) => bit l.valid.toNat (sec % 32) && !marked s.mem.libBad (s.waySector w x i (sec % 32))
    | none => false)

/-- Sector `sec` is no longer valid in the line that holds it, if one does. -/
def State.uncache (s : State) (w : Wing) (sec : Nat) : State :=
  let x := sec / 32 % s.cacheSets w
  match (s.cacheSet w x).find (sec / 32) with
  | some (i, l) => s.setCacheSet w x ((s.cacheSet w x).put i (some { l with valid := l.valid &&& ~~~ (sectorBit sec true) }))
  | none => s

/-- Invalidate every line of Wing `w`. -/
def State.cacheClear (s : State) (w : Wing) : State := s.setWing w { s.wing w with cache := [] }

/-- Apply a new split of Wing `w` (R175): every line invalidated, sectors that become scratch written with zeros. -/
def State.applySplit (s : State) (w : Wing) (old new : Nat) : State :=
  let s := s.cacheClear w
  let lo := libKey w (min old new * 2 ^ 26)
  let hi := libKey w (new * 2 ^ 26)
  let keep := fun (a : Nat) => !(decide (lo ≤ a) && decide (a < hi))
  { s with mem := { s.mem with
      lib := s.mem.lib.filter (fun e => keep e.1)
      libBad := s.mem.libBad.filter (fun e => keep (32 * e.1))
      libCorr := s.mem.libCorr.filter (fun e => keep (32 * e.1)) } }

end Sys2Proof.Machine
end

