-- ==== Sys2Proof/Machine/Hbm.lean ====
section
/-! DEFINITION. T1: sector reads and writes with their outcomes, poison marks, counters and the mark of a shared image's chunk
(R192-R206, R296). -/

namespace Sys2Proof.Machine

open Sys2Proof

/-- Bytes of HBM (R190). -/
def hbmSize : Nat := 2 ^ 41

/-- What an unlisted byte of HBM reads as: 0, or a free value once its region's contents have become undefined (R195, log entries 2, 7). -/
def MemSys.hbmUnlisted (m : MemSys) (a : Nat) : Byte :=
  let n := Sparse.get (fun _ => 0) m.eras (a / 2 ^ 35)
  if n = 0 then 0 else Config.freeByte n a

/-- A byte of HBM. -/
def MemSys.hbmAt (m : MemSys) (a : Nat) : Byte := Sparse.get m.hbmUnlisted m.hbm a

/-- `n` bytes of HBM as stored. -/
def State.hbmBytes (s : State) (a n : Nat) : List Byte := (List.range n).map (fun i => s.mem.hbmAt (a + i))

/-- A little-endian number in HBM, without read effects. -/
def State.hbmLE (s : State) (a n : Nat) : Nat := leNat (s.hbmBytes a n)

/-- Store bytes in HBM without effects on marks. -/
def MemSys.hbmStore : MemSys → Nat → List Byte → MemSys
  | m, _, [] => m
  | m, a, b :: bs => MemSys.hbmStore { m with hbm := Sparse.set m.hbmUnlisted m.hbm a b } (a + 1) bs

/-- The stack that holds address `a`, regions interleaved as MEM_INTERLEAVE gives (R193, R194). -/
def State.stackOf (s : State) (a : Nat) : Fin 32 :=
  let w := a / 2 ^ 39 % 4
  let r := a / 2 ^ 35 % 16
  let u := a % 2 ^ 35
  let pw := if bit (s.regN Off.memInterleave) r then (w + u / 4096) % 4 else w
  ⟨8 * (pw % 4) + a / 32 / 64 % 8, by omega⟩

/-- The stack's state. -/
def State.stack (s : State) (k : Fin 32) : Stack := s.mem.hbmStacks.get k

/-- Change a stack. -/
def State.modStack (s : State) (k : Fin 32) (f : Stack → Stack) : State :=
  { s with mem := { s.mem with hbmStacks := s.mem.hbmStacks.set k.val (f (s.stack k)) k.isLt } }

/-- The Wing whose cache serves a T1 address: that of the stack that holds it (DEDUCED, log entry 23). -/
def State.cacheWing (s : State) (a : Nat) : Wing := wingOf (s.stackOf a)

/-- Whether a sector's granule is CHECKED (R196). -/
def State.isChecked (s : State) (x : Nat) : Bool := marked s.mem.checked (32 * x / 2 ^ 21)

/-- Whether a read of a sector is uncorrectable (R198). -/
def State.sectorBad (s : State) (x : Nat) : Bool := marked s.mem.hbmPoison x || marked s.mem.hbmBad x

/-- Sectors that class `cls` may issue in a window of stack `k`: its MEM_BUDGET field in units of 256 (R205). -/
def State.classLimit (s : State) (k : Fin 32) (cls : Nat) : Nat := 256 * s.regField (Off.memBudget k) (8 * min cls 2) 7

/-- Whether a class has reached its limit in the window of stack `k`, or all classes have together reached CAP (R205). -/
def State.windowFull (s : State) (k : Fin 32) (cls : Nat) : Bool :=
  let t := s.stack k
  let n := if cls = 0 then t.issued0 else if cls = 1 then t.issued1 else t.issued2
  decide (n ≥ s.classLimit k cls) || decide (t.issued0 + t.issued1 + t.issued2 ≥ 256 * t.capNow)

/-- A new window of stack `k` opens, under the CAP that stands by now (R206). -/
def State.nextWindow (s : State) (k : Fin 32) : State :=
  s.modStack k (fun t => { t with issued0 := 0, issued1 := 0, issued2 := 0, capNow := t.cap, ended := t.ended + b2n (decide (t.issued2 = 0)) })

/-- Issue a sector in a class (R205, R220); in a window where its class has reached its limit it waits for the next one. -/
def State.issue (s : State) (cls x : Nat) : State :=
  let k := s.stackOf (32 * x)
  let s := if s.windowFull k cls then s.nextWindow k else s
  if cls = 0 then (s.modStack k (fun t => { t with issued0 := t.issued0 + 1 })).bump (Off.memSectorsLat k) 1
  else if cls = 1 then (s.modStack k (fun t => { t with issued1 := t.issued1 + 1 })).bump (Off.memSectorsWgt k) 1
  else (s.modStack k (fun t => { t with issued2 := t.issued2 + 1 })).bump (Off.memSectorsMove k) 1

/-- The stacks that hold the `n` bytes from `a`: 2 KiB pieces take the eight stacks of a Wing in turn, and the four Wings within 16 KiB (R193, R194);
both ends of the range are looked at. -/
def State.stacksOf (s : State) (a n : Nat) : List Nat :=
  if n = 0 then []
  else uniq ((List.range 8).flatMap (fun j =>
    [(s.stackOf (a + min (2048 * j) (n - 1))).val, (s.stackOf (a + (n - 1) - min (2048 * j) (n - 1))).val]))

/-- Note an uncorrectable sector of a stack toward persistent fault cause 2: ERR_PERSIST.STACK_UE within 60 s (R462). -/
def State.noteUe (s : State) (k : Fin 32) : State :=
  let ts := s.srv.nowMs :: (s.stack k).ueTimes.filter (fun t => decide (s.srv.nowMs - t < 60000))
  let s := s.modStack k (fun t => { t with ueTimes := ts })
  let lim := s.regField Off.errPersist 8 16
  if lim ≠ 0 ∧ ts.length ≥ lim ∧ s.err.due.isNone then { s with err := { s.err with due := some (2, 0x100 + k.val) } } else s

/-- MEM_ERR_ADDR and the count of an uncorrectable outcome (R198, R220). -/
def State.noteBad (s : State) (x : Nat) : State :=
  let k := s.stackOf (32 * x)
  let p := marked s.mem.hbmPoison x
  let c := s.isChecked x
  let o := if p then Off.memPoisonReads k else if c then Off.memCheckFails k else Off.memUncorrectable k
  ((s.bump o 1).setReg (Off.memErrAddr k)
    (BitVec.ofNat 64 (x % 2 ^ 43 + b2n c * 2 ^ 43 + b2n p * 2 ^ 44 + 2 ^ 45))).noteUe k

/-! ### Chunks of resident images (R284, R296) -/

/-- 2 MiB. -/
def chunkSize : Nat := 2097152

/-- Chunks of a span (R284). -/
def Span.chunks (p : Span) : Nat := ceilDiv p.length chunkSize

/-- The chunks of an image's spans other than the hash span (R287). -/
def Image.chunks (i : Image) : Nat := (i.spans.map (fun p => if p.kind = 0x0F then 0 else p.chunks)).sum

/-- Find the chunk that holds address `a` with spans placed at `base`; the hash span's chunks are numbered after the others (log
entry 21). `n` is the first chunk number of the spans left, `hashN` that of the hash span. -/
def chunkIn (base a hashN : Nat) : Nat → List Span → Option Nat
  | _, [] => none
  | n, p :: ps =>
    let lo := base + p.dest
    let first := if p.kind = 0x0F then hashN else n
    if lo ≤ a ∧ a < lo + p.length then some (first + (a - lo) / chunkSize)
    else chunkIn base a hashN (if p.kind = 0x0F then n else n + p.chunks) ps

/-- Slot record `k` (R287). -/
def State.slotRec (s : State) (k : Nat) : SlotRec := Sparse.get (fun _ => SlotRec.empty) s.mdl.slots k

/-- Store a slot record. -/
def State.setSlot (s : State) (k : Nat) (r : SlotRec) : State :=
  { s with mdl := { s.mdl with slots := Sparse.set (fun _ => SlotRec.empty) s.mdl.slots k r } }

/-- Version record `v` (R292). -/
def State.verRec (s : State) (v : Nat) : VerRec := Sparse.get (fun _ => VerRec.empty) s.mdl.vers v

/-- Store a version record. -/
def State.setVer (s : State) (v : Nat) (r : VerRec) : State :=
  { s with mdl := { s.mdl with vers := Sparse.set (fun _ => VerRec.empty) s.mdl.vers v r } }

/-- A slot whose spans lie in T1: not EMPTY or PARKED (R296). -/
def SlotRec.occupied (r : SlotRec) : Bool := !(r.state == .empty) && !(r.state == .parked)

/-- A version whose spans lie in T1 (R296). -/
def VerRec.occupied (r : VerRec) : Bool := !(r.state == .empty)

/-- A chunk of a slot or of a version. -/
inductive ImageRef where
  | slot (k : Nat)
  | version (v : Nat)
deriving DecidableEq, Repr

/-- The image and chunk that hold an address (R296). -/
def State.chunkAt (s : State) (a : Nat) : Option (ImageRef × Nat) :=
  let inSlot := s.mdl.slots.findSome? (fun e =>
    match e.2.occupied, e.2.img with
    | true, some i => (chunkIn 0 a i.chunks 0 i.spans).map (fun c => (ImageRef.slot e.1, c))
    | _, _ => none)
  match inSlot with
  | some x => some x
  | none => s.mdl.vers.findSome? (fun e =>
      match e.2.occupied, e.2.img with
      | true, some i => (chunkIn e.2.base a i.chunks 0 i.spans).map (fun c => (ImageRef.version e.1, c))
      | _, _ => none)

/-- Whether a chunk is marked POISONED. -/
def State.chunkPoisoned (s : State) (r : ImageRef) (c : Nat) : Bool :=
  match r with
  | .slot k => (s.slotRec k).poisoned.contains c
  | .version v => (s.verRec v).poisoned.contains c

/-- Mark a chunk POISONED: the slot goes REPAIRING (the version shows REPAIR), the count and the event (R296). -/
def State.poisonChunk (s : State) (r : ImageRef) (c : Nat) : State :=
  if s.chunkPoisoned r c then s
  else
    let s := s.bump Off.srvMdlPoisoned 1
    match r with
    | .slot k =>
      let x := s.slotRec k
      (s.setSlot k { x with poisoned := x.poisoned ++ [c], state := if x.state = .resident then .repairing else x.state }).event
        0x07 0 k c 0
    | .version v =>
      let x := s.verRec v
      (s.setVer v { x with poisoned := x.poisoned ++ [c] }).event 0x07 0 (0x1000 + v) c 0

/-- Whether a poison mark or a PROTECTED uncorrectable sector is to be marked in an image (R296). -/
def State.reportChunk (s : State) (x : Nat) : State :=
  if s.isChecked x && !marked s.mem.hbmPoison x then s
  else match s.chunkAt (32 * x) with
    | some (r, c) => s.poisonChunk r c
    | none => s

/-! ### Reads and writes -/

/-- Read one sector in a class: its counts, and whether it was uncorrectable (R198). -/
def State.readSector (s : State) (cls x : Nat) : Bool × State :=
  let s := s.issue cls x
  if s.sectorBad x then (true, (s.noteBad x).reportChunk x)
  else if marked s.mem.hbmCorr x && !s.isChecked x then (false, s.bump (Off.memCorrected (s.stackOf (32 * x))) 1)
  else (false, s)

/-- Read the sectors under `n` bytes from `a`: the uncorrectable ones, in order. -/
def State.readSectors (s : State) (cls : Nat) : List Nat → List Nat × State
  | [] => ([], s)
  | x :: xs =>
    let (b, s) := s.readSector cls x
    let (bad, s) := State.readSectors s cls xs
    (if b then x :: bad else bad, s)

/-- A read of one T1 sector through the cache: a line that holds it answers, else HBM does; the access takes its hint and ways either way
(R178-R181). The answer says whether the sector was uncorrectable. -/
def State.cachedRead (s : State) (cls hint ways x : Nat) : Bool × State :=
  let w := s.cacheWing (32 * x)
  let (bad, s) := if s.cacheHolds w x then (false, s) else s.readSector cls x
  (bad, s.cacheAccess w false hint ways x (!bad))

/-- Reads of sectors through the cache: the uncorrectable ones, in order. -/
def State.cachedReads (s : State) (cls hint ways : Nat) : List Nat → List Nat × State
  | [] => ([], s)
  | x :: xs =>
    let (b, s) := s.cachedRead cls hint ways x
    let (bad, s) := State.cachedReads s cls hint ways xs
    (if b then x :: bad else bad, s)

/-- Read bytes of HBM: the bytes as stored, the uncorrectable sectors, and the effects. -/
def State.hbmRead (s : State) (cls a n : Nat) : List Byte × List Nat × State :=
  let bs := s.hbmBytes a n
  let (bad, s) := s.readSectors cls (sectors a n)
  (bs, bad, s)

/-- Clear the marks of a sector written whole (R200). -/
def State.freshSector (s : State) (x : Nat) : State :=
  { s with mem := { s.mem with hbmPoison := setMark s.mem.hbmPoison x false, hbmBad := setMark s.mem.hbmBad x false,
                               hbmCorr := setMark s.mem.hbmCorr x false } }

/-- Mark a sector poisoned: no line holds it as valid any longer (R200, log entry 22). -/
def State.poisonSector (s : State) (x : Nat) : State :=
  let s := s.uncache (s.cacheWing (32 * x)) x
  { s with mem := { s.mem with hbmPoison := setMark s.mem.hbmPoison x true } }

/-- Write `part`, bytes from `a` within sector `x`: a whole sector takes fresh check bits; a part is a read and a write of its
whole sector, and a sector whose read half is uncorrectable is left as stored (R202). -/
def State.writeSector (s : State) (cls a : Nat) (part : List Byte) (x : Nat) : Bool × State :=
  if part.length = 32 then
    let s := (s.issue cls x).freshSector x
    (false, { s with mem := s.mem.hbmStore a part })
  else
    let (bad, s) := s.readSector cls x
    if bad then (true, s)
    else
      let s := (s.issue cls x).freshSector x
      (false, { s with mem := s.mem.hbmStore a part })

/-- Write bytes from `a` into the sectors under them, in order; the answer lists those left as stored. -/
def State.writeSectors (s : State) (cls a : Nat) (bs : List Byte) : List Nat → List Nat × State
  | [] => ([], s)
  | x :: xs =>
    let m := 32 * x + 32 - a
    let (b, s) := s.writeSector cls a (bs.take m) x
    let (bad, s) := State.writeSectors s cls (a + m) (bs.drop m) xs
    (if b then x :: bad else bad, s)

/-- Write bytes to HBM in a class: the sectors left as stored, and the effects. -/
def State.hbmWrite (s : State) (cls a : Nat) (bs : List Byte) : List Nat × State :=
  s.writeSectors cls a bs (sectors a bs.length)

/-- The Library way mask of an access: MEM_SHARED_WAYS when shared, else the tenant's WAYS (R216). -/
def State.waysOf (s : State) (tenant : Option Nat) : Nat :=
  match tenant with
  | none => s.regField Off.memSharedWays 0 16
  | some t => (Sparse.get (fun _ => Quota.zero) s.mem.quotas t).ways

/-- The bytes of a T1 access go between the requester's die and the Wings whose stacks hold its sectors, `n` bytes from `a`, to the stacks for a write (R24). -/
def State.carryT1 (s : State) (e : LinkEnd) (write : Bool) (cls a n : Nat) : State :=
  let ws := (sectors a n).map (fun x => s.cacheWing (32 * x))
  (List.finRange 4).foldl (fun s w =>
    let m := 32 * ws.count w
    if write then s.carry e (.wing w) cls m else s.carry (.wing w) e cls m) s

/-- A read of T1 bytes for a tenant, through the cache of the Wing of each sector's stack (R177-R181, R216): the bytes as stored and the
uncorrectable sectors. -/
def State.t1Read (s : State) (cls hint : Nat) (tenant : Option Nat) (a n : Nat) : List Byte × List Nat × State :=
  let bs := s.hbmBytes a n
  let (bad, s) := (s.carryT1 .office false cls a n).cachedReads cls hint (s.waysOf tenant) (sectors a n)
  (bs, bad, s)

/-- A write of T1 bytes for a tenant: HBM is written, and each sector's line follows its hint (R178, R181, R216). The answer lists the sectors left
as stored (R202). -/
def State.t1Write (s : State) (cls hint : Nat) (tenant : Option Nat) (a : Nat) (bs : List Byte) : List Nat × State :=
  let ways := s.waysOf tenant
  let (bad, s) := (s.carryT1 .office true cls a bs.length).hbmWrite cls a bs
  (bad, (sectors a bs.length).foldl (fun s x => s.cacheAccess (s.cacheWing (32 * x)) true hint ways x (!s.sectorBad x)) s)

/-- A Front Office write of class 0 (R204) for a tenant, with the hint NORMAL (log entry 114). -/
def State.foWriteFor (s : State) (tenant : Option Nat) (a : Nat) (bs : List Byte) : List Nat × State := s.t1Write 0 0 tenant a bs

/-- A Front Office write of class 0 (R204) that is for no one session: shared (R216). -/
def State.foWrite (s : State) (a : Nat) (bs : List Byte) : List Nat × State := s.foWriteFor none a bs

/-- A Front Office write whose failed sectors the caller does not look at. -/
def State.foPut (s : State) (a : Nat) (bs : List Byte) : State := (s.foWrite a bs).2

/-- A Front Office read of class 0 for a tenant, with the hint NORMAL (log entry 114). -/
def State.foReadFor (s : State) (tenant : Option Nat) (a n : Nat) : List Byte × List Nat × State := s.t1Read 0 0 tenant a n

/-- A Front Office read of class 0, shared. -/
def State.foRead (s : State) (a n : Nat) : List Byte × List Nat × State := s.foReadFor none a n

/-- The effects of a Front Office read of class 0 whose bytes are looked at elsewhere: issued, counted, recorded (R198, R204). -/
def State.foTouch (s : State) (a n : Nat) : State := (s.foRead a n).2.2

end Sys2Proof.Machine
end

