-- ==== Sys2Proof/Machine/Pages.lean ====
section
/-! DEFINITION. The Front Office's records in T1: page records (R223), session records (R247, R248), the page pool (R332), Trays (R238), and the
division of KV heads (R261). -/

namespace Sys2Proof.Machine

open Sys2Proof

/-! ### Page records (R222, R223) -/

/-- A page record's fields. STATE: 0 FREE, 1 OPEN, 2 FULL, 3 SUMMARY, 4 LOST; TIER: 0 T1, 1 T2, 2 T3. -/
structure PageRec where
  state : Nat
  tier : Nat
  head : Bool
  tree : Bool
  fill : Nat
  trayn : Nat
  refs : Nat
  kscale : Nat
  vscale : Nat
  score : F32
  addr : Nat
  tenant : Nat
  layer : Nat
  kvhead : Nat
  ordinal : Nat
  summary : Nat
  sumslot : Nat
  step : Nat
deriving DecidableEq, Repr

/-- Read a page record's bytes. -/
def readPage (b : List Byte) : PageRec :=
  { state := hfield b 0 1 % 8, tier := hfield b 0 1 / 8 % 4, head := bit (hfield b 0 1) 5, tree := bit (hfield b 0 1) 6,
    fill := hfield b 1 1 % 128, trayn := hfield b 2 1 % 128, refs := hfield b 4 4, kscale := hfield b 8 2, vscale := hfield b 10 2,
    score := BitVec.ofNat 32 (hfield b 12 4), addr := hfield b 16 6, tenant := field (hfield b 24 4) 0 10,
    layer := field (hfield b 24 4) 10 7, kvhead := field (hfield b 24 4) 17 4, ordinal := hfield b 28 4, summary := hfield b 32 4,
    sumslot := hfield b 36 1 % 64, step := hfield b 40 4 }

/-- The 64 bytes of a page record. -/
def pageBytes (r : PageRec) : List Byte :=
  leBytes 1 (r.state + r.tier * 8 + b2n r.head * 32 + b2n r.tree * 64) ++ leBytes 1 r.fill ++ leBytes 1 r.trayn ++ leBytes 1 0 ++
  leBytes 4 r.refs ++ leBytes 2 r.kscale ++ leBytes 2 r.vscale ++ leBytes 4 r.score.toNat ++ leBytes 6 r.addr ++ leBytes 2 0 ++
  leBytes 4 (r.tenant + r.layer * 2 ^ 10 + r.kvhead * 2 ^ 17) ++ leBytes 4 r.ordinal ++ leBytes 4 r.summary ++ leBytes 1 r.sumslot ++
  leBytes 3 0 ++ leBytes 4 r.step ++ List.replicate 20 0

/-- Head dimension D of a page. -/
def PageRec.d (r : PageRec) : Nat := if r.head then 256 else 128

/-- Payload bytes: 128 * D (R222). -/
def PageRec.size (r : PageRec) : Nat := 128 * r.d

/-- No page: a page-table hole, an empty head record word (R261). -/
def noPage : Nat := 0xFFFFFFFF

/-- Page records the pool holds. -/
def State.pageCount (s : State) : Nat := match s.srv.pool with | some p => 2 ^ p.recLog2 | none => 0

/-- The device address of page record `n`. -/
def State.pageAddr (s : State) (n : Nat) : Nat := (match s.srv.pool with | some p => p.records | none => 0) + 64 * n

/-- Whether a page record's sectors read as uncorrectable. -/
def State.pageRecBad (s : State) (n : Nat) : Bool := (sectors (s.pageAddr n) 64).any (fun x => s.sectorBad x)

/-- Whether page `n`'s record has been given up: found unreadable, or unreadable now (R244, R459). -/
def State.pageGone (s : State) (n : Nat) : Bool := marked s.srv.quarantine (65536 + n) || s.pageRecBad n

/-- Page record `n`; the page of a record that was given up is LOST (R244). -/
def State.page (s : State) (n : Nat) : PageRec :=
  let r := readPage (s.hbmBytes (s.pageAddr n) 64)
  if s.pageGone n then { r with state := 4 } else r

/-- Write page record `n`; one that was given up keeps what it holds. -/
def State.setPage (s : State) (n : Nat) (r : PageRec) : State := if s.pageGone n then s else s.foPut (s.pageAddr n) (pageBytes r)

/-- What an unreadable record of page `n` leads to: the page is LOST, told once with the session's handle, and its number is never issued again (R244). -/
def State.noticePage (s : State) (n handle : Nat) : State :=
  if n ≥ s.pageCount ∨ !s.pageRecBad n ∨ marked s.srv.quarantine (65536 + n) then s
  else
    let s := ((s.bump Off.srvKvLost 1).event 0x04 0x30 n handle 0).bump Off.errQuarantined 1
    { s with srv := { s.srv with quarantine := setMark s.srv.quarantine (65536 + n) true } }

/-- The Front Office reads page record `n` (R198, R204). -/
def State.lookPage (s : State) (n handle : Nat) : State :=
  if n ≥ s.pageCount ∨ marked s.srv.quarantine (65536 + n) then s else (s.foTouch (s.pageAddr n) 64).noticePage n handle

/-- The page whose record holds address `a`. -/
def State.recordAt (s : State) (a : Nat) : Option Nat :=
  let b := s.pageAddr 0
  if b ≤ a ∧ a < s.pageAddr s.pageCount then some ((a - b) / 64) else none

/-- The page, not FREE, whose payload slot holds address `a`. -/
def State.pageAt (s : State) (a : Nat) : Option Nat :=
  match s.srv.pool with
  | none => none
  | some p =>
    if (List.range 4).any (fun w => decide (p.bases.getD w 0 ≤ a ∧ a < p.bases.getD w 0 + 16384 * 2 ^ p.log2s.getD w 0)) then
      firstIdx (2 ^ p.recLog2) (fun n =>
        let r := s.page n
        decide (r.state ≠ 0) && decide (r.tier = 0) && decide (r.addr ≤ a ∧ a < r.addr + r.size))
    else none

/-! ### Session records (R247, R248) -/

/-- A session record's fields. STATE: 0 FREE, 1 IDLE, 2 ACTIVE, 3 PAUSING, 4 PAUSED, 5 RESUMING, 6 ENDING. -/
structure SessRec where
  state : Nat
  evictable : Bool
  batch : Bool
  publish : Bool
  degraded : Bool
  model : Nat
  tdLog2 : Nat
  handle : Nat
  tenant : Nat
  ring : Nat
  domain : Nat
  mset : Nat
  position : Nat
  pend : Nat
  input : Nat
  kvmap : Nat
  tray : Nat
  stopset : Nat
  temp : Nat
  topK : Nat
  topP : Nat
  maxTokens : Nat
  seed : Nat
  draw : Nat
  turnTokens : Nat
  turn : Nat
  seq : Nat
  histN : Nat
  expire : Nat
  last : Nat
  history : List Nat
  node : Nat
deriving DecidableEq, Repr

/-- Read a session record's bytes. -/
def readSess (b : List Byte) : SessRec :=
  { state := hfield b 0 1 % 16, evictable := bit (hfield b 0 1) 4, batch := bit (hfield b 0 1) 5, publish := bit (hfield b 0 1) 6,
    degraded := bit (hfield b 0 1) 7, model := hfield b 1 1 % 64, tdLog2 := hfield b 2 1 % 8, handle := hfield b 4 4,
    tenant := hfield b 8 2 % 1024, ring := hfield b 10 2 % 4096, domain := hfield b 12 2, mset := hfield b 14 2,
    position := hfield b 16 4, pend := hfield b 20 4, input := hfield b 24 6, kvmap := hfield b 32 6, tray := hfield b 40 4 % 2 ^ 30,
    stopset := hfield b 44 2, temp := hfield b 46 2, topK := hfield b 48 1 % 128, topP := hfield b 50 2, maxTokens := hfield b 52 4,
    seed := hfield b 56 8, draw := hfield b 64 8, turnTokens := hfield b 72 4, turn := hfield b 76 2, seq := hfield b 78 1,
    histN := hfield b 79 1, expire := hfield b 80 8, last := hfield b 88 8,
    history := (List.range 16).map (fun i => hfield b (96 + 4 * i) 4), node := hfield b 160 4 }

/-- The 256 bytes of a session record. -/
def sessBytes (r : SessRec) : List Byte :=
  leBytes 1 (r.state + b2n r.evictable * 16 + b2n r.batch * 32 + b2n r.publish * 64 + b2n r.degraded * 128) ++ leBytes 1 r.model ++
  leBytes 1 r.tdLog2 ++ leBytes 1 0 ++ leBytes 4 r.handle ++ leBytes 2 r.tenant ++ leBytes 2 r.ring ++ leBytes 2 r.domain ++
  leBytes 2 r.mset ++ leBytes 4 r.position ++ leBytes 4 r.pend ++ leBytes 6 r.input ++ leBytes 2 0 ++ leBytes 6 r.kvmap ++
  leBytes 2 0 ++ leBytes 4 r.tray ++ leBytes 2 r.stopset ++ leBytes 2 r.temp ++ leBytes 1 r.topK ++ leBytes 1 0 ++ leBytes 2 r.topP ++
  leBytes 4 r.maxTokens ++ leBytes 8 r.seed ++ leBytes 8 r.draw ++ leBytes 4 r.turnTokens ++ leBytes 2 r.turn ++ leBytes 1 r.seq ++
  leBytes 1 r.histN ++ leBytes 8 r.expire ++ leBytes 8 r.last ++
  (List.range 16).flatMap (fun i => leBytes 4 (r.history.getD i 0)) ++ leBytes 4 r.node ++ List.replicate 92 0

/-- A table register's ADDR (R281). -/
def State.tableAddr (s : State) (o : Nat) : Nat := s.regField o 8 40 * 256

/-- A table register's LOG2 (R281). -/
def State.tableLog2 (s : State) (o : Nat) : Nat := s.regField o 0 5

/-- Nodes in the array, 0 when the table is absent (R281). -/
def State.nodeCount (s : State) : Nat :=
  let l := s.tableLog2 Off.srvPrefixNodes
  if 8 ≤ l ∧ l ≤ 20 then 2 ^ l else 0

/-- Hash buckets. -/
def State.bucketCount (s : State) : Nat :=
  let l := s.tableLog2 Off.srvPrefixBuckets
  if 10 ≤ l ∧ l ≤ 24 then 2 ^ l else 0

/-- Bytes of an extension. -/
def State.extSize (s : State) : Nat :=
  let l := s.tableLog2 Off.srvPrefixExt
  if 12 ≤ l ∧ l ≤ 16 then 2 ^ l else 0

/-- Whether the tree's tables are all present. -/
def State.treeOn (s : State) : Bool := decide (s.nodeCount > 0) && decide (s.bucketCount > 0) && decide (s.extSize > 0)

/-- The address of node `n`. -/
def State.nodeAddr (s : State) (n : Nat) : Nat := s.tableAddr Off.srvPrefixNodes + 128 * n
/-- The address of node `n`'s extension. -/
def State.extAddr (s : State) (n : Nat) : Nat := s.tableAddr Off.srvPrefixExt + n * s.extSize
/-- The address of a bucket's head. -/
def State.bucketAddr (s : State) (b : Nat) : Nat := s.tableAddr Off.srvPrefixBuckets + 4 * b

/-- Stop sets in the table (R249). -/
def stopsets : Nat := 4096

/-- Sessions in the table: 0 when the table is absent (R281). -/
def State.sessCount (s : State) : Nat :=
  let l := s.tableLog2 Off.srvSessionTable
  if 8 ≤ l ∧ l ≤ 16 then 2 ^ l else 0

/-- The device address of session record `i`. -/
def State.sessAddr (s : State) (i : Nat) : Nat := s.tableAddr Off.srvSessionTable + 256 * i

/-- Session record `i` as stored. -/
def State.sess (s : State) (i : Nat) : SessRec := readSess (s.hbmBytes (s.sessAddr i) 256)

/-- The Front Office's shadow of a session record: HANDLE, TENANT, RING, MODEL, MSET, KVMAP, TD_LOG2, NODE (R459); its layout is the
model's (DESIGN CHOICE, log entry 25). -/
def shadowBytes (r : SessRec) : List Byte :=
  leBytes 4 r.handle ++ leBytes 2 r.tenant ++ leBytes 2 r.ring ++ leBytes 1 r.model ++ leBytes 1 r.tdLog2 ++ leBytes 2 r.mset ++
  leBytes 8 r.kvmap ++ leBytes 4 r.node ++ leBytes 8 0

/-- Whether a session record's sectors read as uncorrectable (R459). -/
def State.sessBad (s : State) (i : Nat) : Bool := (sectors (s.sessAddr i) 256).any (fun x => s.sectorBad x)

/-- Write session record `i`, for its tenant (R216), and its shadow; a FREE record has none. A record that cannot be read keeps what it holds, and the
shadow tells of it (R459). -/
def State.setSess (s : State) (i : Nat) (r : SessRec) : State :=
  let s := if s.sessBad i then s else (s.foWriteFor (some r.tenant) (s.sessAddr i) (sessBytes r)).2
  { s with srv := { s.srv with shadows := Sparse.set (fun _ => []) s.srv.shadows i (if r.state = 0 then [] else shadowBytes r) } }

/-- Change session record `i`. -/
def State.modSess (s : State) (i : Nat) (f : SessRec → SessRec) : State := s.setSess i (f (s.sess i))

/-- The Front Office reads session record `i` for its session (R198, R204, R216). -/
def State.lookSess (s : State) (i : Nat) : State := (s.foReadFor (some (s.sess i).tenant) (s.sessAddr i) 256).2.2

/-- The record a handle names, when it is live (R247); one whose expiry has been found is live no longer (R272). -/
def State.findSess (s : State) (handle : Nat) : Option Nat :=
  let i := handle % 65536
  if i < s.sessCount ∧ !marked s.srv.quarantine i then
    let r := s.sess i
    if r.state ≠ 0 ∧ r.handle = handle ∧ !s.srv.expired.contains i then some i else none
  else none

/-- The read of the record that a handle's index names (R198, R247). -/
def State.lookHandle (s : State) (handle : Nat) : State :=
  let i := handle % 65536
  if i < s.sessCount ∧ !marked s.srv.quarantine i then s.lookSess i else s

/-! ### Models: KV heads by Wing (R261) -/

/-- The Wing that holds KV head `h`. -/
def Image.headWing (i : Image) (h : Nat) : Nat := field i.wingmap (2 * h) 2

/-- KV heads a Wing holds. -/
def Image.heads (i : Image) (w : Nat) : List Nat := (List.range i.kvHeads).filter (fun h => i.headWing h == w)

/-- H_w: the largest number of KV heads that any one Wing holds. -/
def Image.hw (i : Image) : Nat := ((List.range 4).map (fun w => (i.heads w).length)).foldl max 0

/-- The local number of a head in its Wing: its place among the Wing's heads in ascending order. -/
def Image.hlocal (i : Image) (h : Nat) : Nat := ((i.heads (i.headWing h)).filter (fun x => decide (x < h))).length

/-- Head dimension D of an image. -/
def Image.d (i : Image) : Nat := if i.d256 then 256 else 128

/-- The image a model slot holds or last held. -/
def State.image (s : State) (k : Nat) : Option Image := (s.slotRec k).img

/-- The Library scratch offset of a session's Tray for a layer and KV head (R238). -/
def trayOff (r : SessRec) (i : Image) (layer h : Nat) : Nat :=
  r.tray + (layer * i.hw + i.hlocal h) * (2 * i.d * 2 ^ r.tdLog2)

/-- The device address of a session's head record (R262). -/
def headRec (r : SessRec) (i : Image) (layer h : Nat) : Nat := r.kvmap + (layer * i.kvHeads + h) * 8192

/-- Whether an address lies in a table of the Front Office: session records, prefix nodes, extensions and bucket heads, stop sets (R281). -/
def State.inTables (s : State) (a : Nat) : Bool :=
  let within := fun (b n : Nat) => decide (b ≤ a ∧ a < b + n)
  within (s.tableAddr Off.srvSessionTable) (256 * s.sessCount) || within (s.tableAddr Off.srvPrefixNodes) (128 * s.nodeCount) ||
  within (s.tableAddr Off.srvPrefixExt) (s.extSize * s.nodeCount) || within (s.tableAddr Off.srvPrefixBuckets) (4 * s.bucketCount) ||
  within (s.tableAddr Off.srvStopsets) (768 * stopsets)

/-- Whether an address lies in the head records of a session record (R262). -/
def State.inHeads (s : State) (r : SessRec) (a : Nat) : Bool :=
  match s.image r.model with
  | some i => decide (r.kvmap ≤ a ∧ a < r.kvmap + 8192 * i.layers * i.kvHeads)
  | none => false

/-- Whether an address lies in the page numbers or key maps of a session's head records, outside its share records (R262, R459). -/
def State.inNames (s : State) (r : SessRec) (a : Nat) : Bool :=
  let o := (a - r.kvmap) % 8192
  s.inHeads r a && decide (o < 5120 ∨ 7168 ≤ o)

/-- Every live session's record number. -/
def State.liveSessions (s : State) : List Nat :=
  (List.range s.sessCount).filter (fun k => !marked s.srv.quarantine k && decide ((s.sess k).state ≠ 0))

/-- A page becomes LOST (R244): its record, the count and the event with the session's handle. -/
def State.losePage (s : State) (n handle : Nat) : State :=
  let s := s.noticePage n handle
  let r := s.page n
  if r.state = 4 ∨ n ≥ s.pageCount then s
  else ((s.setPage n { r with state := 4 }).bump Off.srvKvLost 1).event 0x04 0x30 n handle 0

end Sys2Proof.Machine
end

