-- ==== Sys2Proof/Machine/Vector.lean ====
section
/-! DEFINITION. The Vector unit: draining the Scoreboard, the VEC_APPLY functions and the quantizer (R57, R66-R74, R83-R85,
R171-R173, R227-R236). -/

namespace Sys2Proof.Machine

open Sys2Proof

/-! ### Accumulators -/

/-- The tokens of a vector operation: (index, token) (R171, R173). -/
def tokens (token : BitVec 9) (ntok : BitVec 9) : List (Nat × Nat) :=
  (List.range (ntok.toNat + 1)).map (fun i => (i, (token.toNat + i) % 512))

/-- A binary32 read from Slate bytes through Narrow port 0. -/
def State.rdF32 (s : State) (k : Fin 32) (a : Nat) : F32 × State :=
  let (bs, s) := s.slateRead k 5 a 4
  (BitVec.ofNat 32 (leNat bs), s)

/-- bf16 values `a + 2c`, c = 0 .. n-1, read through Narrow port 0. -/
def State.rdRow (s : State) (k : Fin 32) (a n : Nat) : (Nat → F32) × State :=
  let (bs, s) := s.slateRead k 5 a (2 * n)
  (fun c => ofBf16 (BitVec.ofNat 16 (leNat ((bs.drop (2 * c)).take 2))), s)

/-! ### VEC_DRAIN (R57, R171) -/

/-- A drain accepted in cycle `d`: it reads its groups in the Timetable cycles from there on, each as its cycle passes; one that no word sent has no cycles to wait for and reads all
of them now (R53, R171; log entry 12). -/
def State.startDrain (s : State) (u : Cr) (sent : Bool) (r : DrainRun) : State :=
  let s := State.drainRest u.idx drainFuel s
  let s := s.modRoom u.idx (fun m => { m with drain := some r })
  if sent then s else State.drainRest u.idx drainFuel s

/-- VEC_DRAIN. -/
def State.vecDrain (s : State) (u : Cr) (o : VecDrainOp) : State :=
  let sent := (s.takeOp u 2 (.vecDrain o)).1.isSome
  match s.dispatch u 2 (.vecDrain o) with
  | (some x, s) => s.startDrain u sent
      { fold := o.fold, scales := 2 * o.scales.toNat, token := o.token.toNat, ntok := o.ntok.toNat + 1, d := x.t, next := 0, scale := 0 }
  | (none, s) => s

/-! ### VEC_APPLY functions 0x01-0x06 (R173) -/

/-- Slate byte A of an apply function (R173). -/
def applyA (o : VecApplyOp) : Nat := 16 * o.arg.toNat

/-- A dispatched VEC_APPLY: `f` runs when its fields are in range. -/
def State.vecApply (s : State) (u : Cr) (fn : VecFunc) (o : VecApplyOp) (f : State → WaitOp SlotOp → State) : State :=
  match s.dispatch u 2 (.vecApply fn o) with
  | (some x, s) => f s x
  | (none, s) => s

/-- SCALE_COLS. -/
def State.scaleCols (s : State) (u : Cr) (o : VecApplyOp) : State :=
  s.vecApply u .scaleCols o (fun s _ =>
    let (g, s) := s.rdRow u.idx (applyA o) 512
    (tokens o.token o.ntok).foldl (fun s e => s.accRow u.idx 512 e.2 (fun c x => fmul (g c) x)) s)

/-- SCALE_ROWS. -/
def State.scaleRows (s : State) (u : Cr) (o : VecApplyOp) : State :=
  s.vecApply u .scaleRows o (fun s _ =>
    (tokens o.token o.ntok).foldl (fun s e =>
      let (g, s) := s.rdBf16 u.idx (applyA o + 2 * e.1)
      s.accRow u.idx 512 e.2 (fun _ x => fmul g x)) s)

/-- ADD_ROWS. -/
def State.addRows (s : State) (u : Cr) (o : VecApplyOp) : State :=
  s.vecApply u .addRows o (fun s _ =>
    (tokens o.token o.ntok).foldl (fun s e =>
      let (g, s) := s.rdRow u.idx (applyA o + 1024 * e.1) 512
      s.accRow u.idx 512 e.2 (fun c x => fadd x (g c))) s)

/-- The sum of squares of a token's accumulators (R173). -/
def Classroom.sumsq (r : Classroom) (t : Nat) : F32 :=
  (List.range 512).foldl (fun q c => ffma (r.accAt c t) (r.accAt c t) q) 0

/-- SUMSQ. -/
def State.sumsq (s : State) (u : Cr) (o : VecApplyOp) : State :=
  s.vecApply u .sumsq o (fun s _ =>
    (tokens o.token o.ntok).foldl (fun s e =>
      s.slateWrite u.idx 5 (applyA o + 4 * e.1) (leBytes 4 ((s.room u.idx).sumsq e.2).toNat)) s)

/-- NORM_ROWS. -/
def State.normRows (s : State) (u : Cr) (o : VecApplyOp) : State :=
  s.vecApply u .normRows o (fun s _ =>
    let a := applyA o
    let (invD, s) := s.rdF32 u.idx a
    let (eps, s) := s.rdF32 u.idx (a + 4)
    let (g, s) := s.rdRow u.idx (a + 16) 512
    (tokens o.token o.ntok).foldl (fun s e =>
      let (q, s) := s.rdF32 u.idx (a + 1040 + 4 * e.1)
      let r := fdiv f32One (fsqrt (fadd (fmul q invD) eps))
      s.accRow u.idx 512 e.2 (fun c x => fmul (fmul x r) (g c))) s)

/-- One token of SILU_MUL. -/
def Classroom.silu (r : Classroom) (t : Nat) : Classroom :=
  (List.range 256).foldl (fun r c =>
    let x := r.accAt c t
    let sg := fdiv f32One (fadd f32One (fexp (fneg x)))
    (r.accSet c t (fmul (fmul x sg) (r.accAt (c + 256) t))).accSet (c + 256) t 0) r

/-- SILU_MUL. -/
def State.siluMul (s : State) (u : Cr) (o : VecApplyOp) : State :=
  s.vecApply u .siluMul o (fun s _ =>
    (tokens o.token o.ntok).foldl (fun s e => s.modRoom u.idx (fun r => r.silu e.2)) s)

/-! ### ROTATE (R236) -/

/-- Rotate the pairs of token `t` with the (cos, sin) table `tab`. -/
def Classroom.rotate (r : Classroom) (d col0 ncol t : Nat) (tab : Nat → F32 × F32) : Classroom :=
  ((List.range ncol).filter (fun i => decide (i % d < d / 2))).foldl (fun r i =>
    let c := col0 + i
    let (cs, sn) := tab (i % d)
    let x := r.accAt c t
    let y := r.accAt (c + d / 2) t
    (r.accSet c t (ffma (fneg y) sn (fmul x cs))).accSet (c + d / 2) t (ffma y cs (fmul x sn))) r

/-- ROTATE: an NCOL that is not a multiple of D (D = 0 included, log entry 14) or COL0 + NCOL above 512 is a lesson fault. -/
def State.rotate (s : State) (u : Cr) (o : VecApplyOp) : State :=
  s.vecApply u .rotate o (fun s x =>
    let a := applyA o
    let (h, s) := s.slateRead u.idx 5 a 6
    let d := leNat (h.take 2)
    let col0 := leNat ((h.drop 2).take 2)
    let ncol := leNat ((h.drop 4).take 2)
    if d = 0 ∨ ncol % d ≠ 0 ∨ col0 + ncol > 512 then s.lessonFault u.w x.ref x.unit (some u.c) 0x11 a
    else
      (tokens o.token o.ntok).foldl (fun s e =>
        let (bs, s) := s.slateRead u.idx 5 (a + 16 + 4 * d * e.1) (4 * d)
        let tab := fun j => (BitVec.ofNat 32 (leNat ((bs.drop (8 * j)).take 4)), BitVec.ofNat 32 (leNat ((bs.drop (8 * j + 4)).take 4)))
        s.modRoom u.idx (fun r => r.rotate d col0 ncol e.2 tab)) s)

/-! ### The Margin (R83-R85) -/

/-- MARGIN_H: h and zf of R83 for each token. The spec gives no operand layout; the model reads at A five u16: r, n_v, n_u, the first
V column and the first zf column, then from A + 16 sv[t][j] as bf16 at 2 * (t * r + j), and su after them (DESIGN CHOICE, log
entry 15). -/
def Classroom.marginH (r : Classroom) (rank nv nu vcol zcol t : Nat) (sv su : Nat → F32) : Classroom :=
  (List.range rank).foldl (fun r j =>
    let h := (List.range nv).foldl (fun h i => ffma (sv (i * rank + j)) (r.accAt ((vcol + i * rank + j) % 512) t) h) 0
    (List.range nu).foldl (fun r i => r.accSet ((zcol + i * rank + j) % 512) t (fmul (su (i * rank + j)) h)) r) r

/-- MARGIN_H. -/
def State.marginH (s : State) (u : Cr) (o : VecApplyOp) : State :=
  s.vecApply u .marginH o (fun s _ =>
    let a := applyA o
    let (hd, s) := s.slateRead u.idx 5 a 10
    let f := fun i => leNat ((hd.drop (2 * i)).take 2)
    let (sv, s) := s.rdRow u.idx (a + 16) (f 0 * f 1)
    let (su, s) := s.rdRow u.idx (a + 16 + 2 * (f 0 * f 1)) (f 0 * f 2)
    (tokens o.token o.ntok).foldl (fun s e =>
      s.modRoom u.idx (fun r => r.marginH (f 0) (f 1) (f 2) (f 3) (f 4) e.2 sv su)) s)

/-- MARGIN_ADD: the last line of R83 with s_z[i] as bf16 at A + 2i and tu from the Scoreboard entries of the same columns and
token (DESIGN CHOICE, log entry 15), read in the cycles of a drain. -/
def State.marginAdd (s : State) (u : Cr) (o : VecApplyOp) : State :=
  let sent := (s.takeOp u 2 (.vecApply .marginAdd o)).1.isSome
  s.vecApply u .marginAdd o (fun s x => s.startDrain u sent
    { fold := true, scales := applyA o, token := o.token.toNat, ntok := o.ntok.toNat + 1, d := x.t, next := 0, scale := 0 })

/-! ### Online softmax (R228-R235) -/

/-- Attention row `i`. -/
def Classroom.row (r : Classroom) (i : Nat) : AttRow := Sparse.get (fun _ => AttRow.reset) r.att i

/-- Store an attention row. -/
def Classroom.setRow (r : Classroom) (i : Nat) (x : AttRow) : Classroom :=
  { r with att := Sparse.set (fun _ => AttRow.reset) r.att i x }

/-- Element `d` of a row's output. -/
def AttRow.at (x : AttRow) (d : Nat) : F32 := Sparse.get (fun _ => 0) x.o d

/-- Map a row's output over dimensions 0 .. n-1. -/
def AttRow.mapO (x : AttRow) (n : Nat) (f : Nat → F32 → F32) : AttRow :=
  { x with o := (List.range n).foldl (fun m d => Sparse.set (fun _ => 0) m d (f d (Sparse.get (fun _ => 0) m d))) x.o }

/-- An attention block record (R229), with its key map (R230). -/
structure AttBlock where
  first : Bool
  causal : Bool
  coarse : Bool
  d : Nat
  block : Nat
  qgroup : Nat
  c : F32
  qscale : Nat
  rowpos : Nat
  pbase : Nat
  mass : Nat
  keymap : Nat
  counts : Nat → Nat
  pos0 : Nat → Nat

/-- Read the fields of a block record (R229). -/
def readBlock (bs km : List Byte) : AttBlock :=
  let f := fun o n => leNat ((bs.drop o).take n)
  { first := bit (f 0 1) 0, causal := bit (f 0 1) 1, coarse := bit (f 0 1) 2, d := if bit (f 0 1) 3 then 256 else 128,
    block := f 2 1 % 64, qgroup := f 3 1 % 64, c := BitVec.ofNat 32 (f 4 4), qscale := f 8 4 % 2 ^ 20, rowpos := f 12 4 % 2 ^ 20,
    pbase := f 16 4 % 2 ^ 20, mass := f 20 4 % 2 ^ 20, keymap := f 24 4 % 2 ^ 20,
    counts := fun i => leNat ((km.drop i).take 1), pos0 := fun i => leNat ((km.drop (8 + 4 * i)).take 4) }

/-- Whether key `k` is valid for a row at position `pos` (R230). -/
def AttBlock.valid (b : AttBlock) (pos k : Nat) : Bool :=
  decide (k % 64 < b.counts (k / 64)) && (!b.causal || decide (b.pos0 (k / 64) + k % 64 ≤ pos))

/-- The exact product of a binary32 and 127, rounded once to an integer (R231). -/
def prob127 (x : F32) : Nat :=
  match fval x with
  | .fin false m e => if 0 ≤ e then 127 * m * 2 ^ e.toNat else rneShift (127 * m) (-e).toNat
  | _ => 0

/-- Add the pending P.V result of row `r` to its output (R231). -/
def Classroom.foldRow (c : Classroom) (i d : Nat) (x : AttRow) : AttRow :=
  x.mapO d (fun j v => fadd v (ofInt (c.sbAt (256 + 8 * i) j)))

/-- One row of SOFTMAX_BLOCK: the new row, the probability codes and the page sums (R231). -/
def Classroom.softRow (r : Classroom) (b : AttBlock) (i pos : Nat) (qs : F32) : AttRow × List Nat × List F32 :=
  let x := r.row i
  let x := if b.first then ({ m := 0xFF800000#32, l := 0, o := x.o, pend := false } : AttRow).mapO b.d (fun _ _ => 0) else x
  let x := if x.pend then r.foldRow i b.d x else x
  let cr := fmul qs b.c
  let xs := fun k => fmul (ofInt (r.sbAt (8 * i) k)) cr
  let mx := (List.range 512).foldl (fun mx k => if b.valid pos k then fmax mx (xs k) else mx) 0xFF800000#32
  let mn := fmax x.m mx
  if mn = 0xFF800000#32 then
    ({ x with pend := true }, List.replicate 512 0, List.replicate 8 0)
  else
    let a := if x.m = 0xFF800000#32 then 0 else fexp (fsub x.m mn)
    let x : AttRow := { x with l := fmul x.l a }
    let x := x.mapO b.d (fun _ v => fmul v a)
    let qs := (List.range 512).map (fun k => if b.valid pos k then prob127 (fexp (fsub (xs k) mn)) % 256 else 0)
    let l := qs.foldl (fun l (q : Nat) => fadd l (ofInt q)) x.l
    let sums := (List.range 8).map (fun p => ((qs.drop (64 * p)).take 64).foldl (fun v (q : Nat) => fadd v (ofInt q)) 0)
    ({ x with l := l, m := mn, pend := true }, qs, sums)

/-- Report the Scoreboard entries SOFTMAX_BLOCK reads for row `i` (R183, R231). -/
def State.noteRow (s : State) (k : Fin 32) (i d : Nat) (scores : Bool) : State :=
  let s := if ((s.room k).row i).pend then (List.range d).foldl (fun s j => s.noteSb k (sbKey (256 + 8 * i) j)) s else s
  if scores then (List.range 512).foldl (fun s j => s.noteSb k (sbKey (8 * i) j)) s else s

/-- A row's position: read when CAUSAL is 1 (R229, R230). -/
def State.rowPos (s : State) (k : Fin 32) (b : AttBlock) (i : Nat) : Nat × State :=
  if b.causal then
    let (bs, s) := s.slateRead k 5 (b.rowpos + 4 * i) 4
    (leNat bs, s)
  else (0, s)

/-- SOFTMAX_BLOCK on one row (R231). -/
def State.softBlockRow (s : State) (k : Fin 32) (b : AttBlock) (row0 n i : Nat) : State :=
  let (qs, s) := s.rdBf16 k (b.qscale + 2 * (i / b.qgroup))
  let (pos, s) := s.rowPos k b i
  let s := if b.first then s.modRoom k (fun r => r.setRow i { r.row i with pend := false }) else s
  let s := s.noteRow k i b.d true
  let (x, qs, sums) := (s.room k).softRow b i pos qs
  let s := s.modRoom k (fun r => r.setRow i x)
  let s := s.slateWrite k 5 (b.pbase + 512 * i) (qs.map (BitVec.ofNat 8))
  s.slateWrite k 5 (b.mass + 64 * (n * b.block + (i - row0)))
    (sums.flatMap (fun v => leBytes 4 v.toNat) ++ leBytes 4 x.m.toNat)

/-- Coarse scoring of the block's rows (R235). -/
def State.softCoarse (s : State) (k : Fin 32) (b : AttBlock) (row0 n : Nat) : State :=
  let rows := (List.range n).map (fun i => row0 + i)
  let (crs, s) := rows.foldl (fun (acc : List (Nat × F32) × State) i =>
    let (qs, s) := acc.2.rdBf16 k (b.qscale + 2 * (i / b.qgroup))
    (acc.1 ++ [(i, fmul qs b.c)], s)) (([] : List (Nat × F32)), s)
  let s := rows.foldl (fun s i => (List.range 512).foldl (fun s j => s.noteSb k (sbKey (8 * i) j)) s) s
  let r := s.room k
  let out := (List.range 512).flatMap (fun j =>
    let p := j / 64
    let v := if b.pos0 p ≤ j % 64 ∧ j % 64 < b.counts p then
        crs.foldl (fun v (e : Nat × F32) => ffma (ofInt (r.sbAt (8 * e.1) j)) e.2 v) 0
      else 0xFF800000#32
    leBytes 4 v.toNat)
  s.slateWrite k 5 b.pbase out

/-- SOFTMAX_BLOCK. A count of rows above 32, rows past 31, QGROUP 0 or a key map COUNT above 64 is a lesson fault (R229, R230). A QGROUP of 33-63, which the table of R229 leaves
out without naming it a fault, is taken as it stands (DESIGN CHOICE, log entry 133). -/
def State.softmaxBlock (s : State) (u : Cr) (o : VecApplyOp) : State :=
  s.vecApply u .softmaxBlock o (fun s x =>
    let n := o.ntok.toNat + 1
    let row0 := o.token.toNat % 32
    let a := applyA o
    let (bs, s) := s.slateRead u.idx 5 a 32
    let b0 := readBlock bs []
    let (km, s) := s.slateRead u.idx 5 b0.keymap 48
    let b := readBlock bs km
    if n > 32 ∨ row0 + n > 32 ∨ b.qgroup = 0 ∨ (List.range 8).any (fun i => decide (b.counts i > 64)) then
      s.lessonFault u.w x.ref x.unit (some u.c) 0x11 a
    else if b.coarse then s.softCoarse u.idx b row0 n
    else (List.range n).foldl (fun s i => s.softBlockRow u.idx b row0 n (row0 + i)) s)

/-- An attention end record (R234). -/
structure AttEnd where
  nblocks : Nat
  d : Nat
  row0 : Nat
  nrows : Nat
  heads : Nat
  vs : F32
  mass : Nat
  shares : Nat
  outToken : Nat
  outCol : Nat
deriving DecidableEq, Repr

/-- Read an end record (R234). -/
def readEnd (bs : List Byte) : AttEnd :=
  let f := fun o n => leNat ((bs.drop o).take n)
  { nblocks := f 0 1 % 128, d := if bit (f 0 1) 7 then 256 else 128, row0 := f 1 1 % 32, nrows := f 2 1 % 64,
    heads := f 3 1 % 64, vs := BitVec.ofNat 32 (f 4 4), mass := f 8 4 % 2 ^ 20, shares := f 12 4 % 2 ^ 20,
    outToken := f 16 2 % 512, outCol := f 18 2 % 512 }

/-- End one row: fold, write its outputs scaled by VS / l, and count an empty row (R234). -/
def State.endRow (s : State) (k : Fin 32) (e : AttEnd) (i : Nat) : State :=
  let s := s.noteRow k (e.row0 + i) e.d false
  let r := s.room k
  let x := r.row (e.row0 + i)
  let x := if x.pend then { r.foldRow (e.row0 + i) e.d x with pend := false } else x
  let s := if isZero x.l then s.bump (Off.vecAttEmpty k) 1 else s
  let g := if isZero x.l then 0 else fdiv e.vs x.l
  s.modRoom k (fun r =>
    let r := r.setRow (e.row0 + i) x
    (List.range e.d).foldl (fun r j =>
      r.accSet (e.outCol + (i % e.heads) * e.d + j) ((e.outToken + i / e.heads) % 512) (fmul (x.at j) g)) r)

/-- The share of slot `p` of block `j` (R234). -/
def Classroom.share (r : Classroom) (e : AttEnd) (j p : Nat) : F32 :=
  (List.range e.nrows).foldl (fun sh i =>
    let x := r.row (e.row0 + i)
    if isZero x.l then sh
    else
      let a := e.mass + 64 * (e.nrows * j + i)
      let v := BitVec.ofNat 32 (r.slateLE (a + 4 * p) 4)
      let m := BitVec.ofNat 32 (r.slateLE (a + 32) 4)
      fadd sh (fdiv (fmul v (fexp (fsub m x.m))) x.l)) 0

/-- SOFTMAX_END (R234). -/
def State.softmaxEnd (s : State) (u : Cr) (o : VecApplyOp) : State :=
  s.vecApply u .softmaxEnd o (fun s x =>
    let n := o.ntok.toNat + 1
    let a := applyA o
    let (bs, s) := s.slateRead u.idx 5 a 32
    let e := readEnd bs
    if e.nblocks = 0 ∨ e.nblocks > 64 ∨ e.nrows = 0 ∨ e.nrows > 32 ∨ e.row0 + e.nrows > 32 ∨ e.heads = 0 ∨ e.heads > 32 ∨
       n < e.nblocks ∨ 256 * n < e.nrows * e.d ∨ e.outCol + e.heads * e.d > 512 then
      s.lessonFault u.w x.ref x.unit (some u.c) 0x11 a
    else
      let s := (List.range e.nrows).foldl (fun s i => s.endRow u.idx e i) s
      (List.range e.nblocks).foldl (fun s j =>
        let s := (List.range e.nrows).foldl (fun s i =>
          if isZero ((s.room u.idx).row (e.row0 + i)).l then s
          else s.noteSlate u.idx 5 (slateWords (e.mass + 64 * (e.nrows * j + i)) 36)) s
        (List.range 8).foldl (fun s p =>
          s.slateWrite u.idx 5 (e.shares + 32 * j + 4 * p) (leBytes 4 ((s.room u.idx).share e j p).toNat)) s) s)

end Sys2Proof.Machine
end

