-- ==== Sys2Proof/Machine/Quant.lean ====
section
/-! DEFINITION. The quantizer and its scale log (R64-R74, R84, R153). -/

namespace Sys2Proof.Machine

open Sys2Proof

/-- The largest magnitude of width `w` (R65). -/
def widthMax (w : Nat) : Nat := if w = 1 then 1 else 2 ^ (w - 1) - 1

/-- A quantization parameter record (R67). -/
structure QParam where
  width : Nat
  satLimit : Nat
  zeroLimit : Nat
  floor : BF16
  layer : Nat
  reserved : Bool
deriving DecidableEq, Repr

/-- Read a parameter record; `reserved` says that a reserved bit is set (R67). Byte 1 has no row in
R67's table: the model takes it as reserved (DESIGN CHOICE, log entry 110). -/
def readQParam (bs : List Byte) : QParam :=
  let f := fun o n => leNat ((bs.drop o).take n)
  { width := f 0 1 % 16, satLimit := f 2 2 % 1024, zeroLimit := f 4 2 % 1024, floor := BitVec.ofNat 16 (f 6 2), layer := f 8 2,
    reserved := decide (f 0 1 / 16 ≠ 0 ∨ f 1 1 ≠ 0 ∨ f 2 2 / 1024 ≠ 0 ∨ f 4 2 / 1024 ≠ 0 ∨ f 10 6 ≠ 0) }

/-- A record that is no lesson fault (R68). -/
def QParam.ok (p : QParam) : Bool :=
  decide (1 ≤ p.width ∧ p.width ≤ 8) && decide (p.satLimit ≤ 512) && decide (p.zeroLimit ≤ 512) && bf16PosNormal p.floor &&
  !p.reserved

/-- Counts of a block (R69). -/
structure BlockStat where
  sat : Nat
  zero : Nat
  nonfinite : Bool
  absmax : F32
deriving DecidableEq, Repr

/-- No value counted yet. -/
def BlockStat.zeroed : BlockStat := { sat := 0, zero := 0, nonfinite := false, absmax := 0 }

/-- The s32 `a` of R69: the product rounded to an integer, its low 32 bits. What a product that overflows to infinity gives is left open: a free value (log
entry 111). -/
def quantInt (p : F32) : Int :=
  match fval p with
  | .fin _ _ _ => (BitVec.ofInt 32 (toIntRne p)).toInt
  | _ => (BitVec.ofNat 32 (Config.freeWord 69 p.toNat)).toInt

/-- Quantize one element: its code and the counts after it (R69). -/
def quantElem (w : Nat) (inv : F32) (x : F32) (st : BlockStat) : Int × BlockStat :=
  let m := widthMax w
  match fval x with
  | .nan => (0, { st with sat := st.sat + 1, nonfinite := true })
  | .inf n => (if n then -(m : Int) else m, { st with sat := st.sat + 1, nonfinite := true })
  | .fin _ _ _ =>
    let a := quantInt (fmul x inv)
    let st := { st with absmax := if frank st.absmax < frank (fabs x) then fabs x else st.absmax }
    let st := if a > m ∨ a < -(m : Int) then { st with sat := st.sat + 1 } else st
    let st := if a = 0 ∧ !isZero x then { st with zero := st.zero + 1 } else st
    (if w = 1 then (if flt x 0 then -1 else 1) else satSym a m, st)

/-- Quantize a block with scale `sc` (R69-R71): its codes and counts. -/
def quantBlock (w : Nat) (sc : BF16) (xs : List F32) : List Int × BlockStat :=
  let inv := fdiv f32One (ofBf16 sc)
  let (qs, st) := xs.foldl (fun (acc : List Int × BlockStat) x =>
    let (q, st) := quantElem w inv x acc.2
    (acc.1 ++ [q], st)) (([] : List Int), BlockStat.zeroed)
  if bf16PosNormal sc then (qs, st)
  else (List.replicate xs.length 0, { sat := xs.length, zero := 0, nonfinite := true, absmax := st.absmax })

/-- The value of a nonnegative finite bf16 pattern in units of 2^-133. -/
def bf16Units (p : Nat) : Nat := if p < 128 then p else (128 + p % 128) * 2 ^ (p / 128 - 1)

/-- Bits `i - 1 .. 0` of the largest pattern whose value times `m` lies below `a` (units of 2^-133). -/
def scaleSearch (m a : Nat) : Nat → Nat → Nat
  | 0, p => p
  | i + 1, p => scaleSearch m a i (if bf16Units (p + 2 ^ i) * m < a then p + 2 ^ i else p)

/-- The smallest bf16 `v` with `v * m >= absmax` (R72). A NaN in the log record states none: the value is free (log entry 9). -/
def scaleFor (m : Nat) (absmax : BF16) : Nat :=
  let p := absmax.toNat
  if p ≥ 2 ^ 15 then 0
  else if p < 255 * 128 then scaleSearch m (bf16Units p) 15 0 + 1
  else if p = 255 * 128 then p
  else Config.freeWord 72 p % 65536

/-- A scale log record (R73). -/
structure LogRec where
  absmax : BF16
  scale : BF16
  sat : Nat
  zero : Nat
  width : Nat
  trouble : Bool
  nonfinite : Bool
  rescaled : Bool
deriving DecidableEq, Repr

/-- Read a scale log record (R73). -/
def readLog (bs : List Byte) : LogRec :=
  let v := leNat bs
  { absmax := BitVec.ofNat 16 v, scale := BitVec.ofNat 16 (v / 2 ^ 16), sat := field v 32 10, zero := field v 42 10,
    width := field v 52 4, trouble := bit v 56, nonfinite := bit v 57, rescaled := bit v 58 }

/-- The bytes of a scale log record (R73). -/
def logBytes (r : LogRec) : List Byte :=
  leBytes 8 (r.absmax.toNat + r.scale.toNat * 2 ^ 16 + (r.sat % 1024) * 2 ^ 32 + (r.zero % 1024) * 2 ^ 42 + (r.width % 16) * 2 ^ 52 +
    b2n r.trouble * 2 ^ 56 + b2n r.nonfinite * 2 ^ 57 + b2n r.rescaled * 2 ^ 58)

/-- The scale of a block on a pass after the first, and whether it is a recomputed one (R72, R73). -/
def nextScale (rescale : Bool) (m : Nat) (floor : BF16) (rec : LogRec) : BF16 × Bool :=
  if rescale ∧ rec.trouble ∧ !rec.nonfinite ∧ rec.absmax ≠ 0#16 then
    (BitVec.ofNat 16 (max (scaleFor m rec.absmax) floor.toNat), true)
  else (rec.scale, rec.rescaled)

/-- The base of the Roster buffer that a Wing's step uses (R126). -/
def Sequencer.rosterBase (q : Sequencer) : Nat := q.latBase + if q.rosterBuf then 2 ^ q.latSize else 0

/-- The Library offset of the token trouble map of the step (R257: the fifth offset of the Roster header). -/
def State.troubleMap (s : State) (w : Wing) : Nat :=
  (s.seq w).rosterBase + s.libLE w ((s.seq w).rosterBase + 540) 4

/-- Set the trouble bit of token entry `i` of the step's Roster (R74, R257). The map has a bit for each token entry and no other. -/
def State.setTrouble (s : State) (w : Wing) (i : Nat) : State :=
  if s.libLE w (s.seq w).rosterBase 4 ≤ i then s
  else
    let a := s.troubleMap w + i / 8
    let v := s.libLE w a 1
    s.libWrite w a (leBytes 1 (if bit v (i % 8) then v else v + 2 ^ (i % 8)))

/-- The attention group size of the model whose step is in flight (R283). -/
def State.stepGroup (s : State) : Nat :=
  match (Sparse.get (fun _ => SlotRec.empty) s.mdl.slots s.srv.plan.slot).img with | some i => max 1 i.agroup | none => 1

/-- The token entry of block `b` of a QUANT, whose accumulator token is `tok`, by the innermost active loop that counts Roster entries: under the 256-token halves (entry 3)
the accumulators hold the half's tokens in order; under token entries (0, 2, 8-15) block 0 is the loop's own entry; under version groups (5) and attention groups (16-22) block 0
is the group's first entry; with no such loop the accumulator tokens are the Roster's (DESIGN CHOICE, log entry 16). -/
def State.blockEntry (s : State) (w : Wing) (fs : List Frame) (agroup tok acc b : Nat) : Nat :=
  let base := (s.seq w).rosterBase
  let first := fun (k : Nat) => s.libLE w (base + 256 + 4 * k) 4
  match (loopsOf fs).find? (fun l => l.1.isSome) with
  | some (some 3, i) => 256 * i + tok % 256
  | some (some 5, i) => s.libLE w (base + s.libLE w (base + 532) 4 + 16 * i) 4 + b
  | some (some k, i) =>
    if k = 0 ∨ k = 2 ∨ (8 ≤ k ∧ k ≤ 15) then first k + i + b
    else if 16 ≤ k ∧ k ≤ 22 then (first k + i) * agroup + b
    else acc + b
  | _ => acc + b

/-- Quantize block `b` (R66-R74). -/
def State.quantOne (s : State) (u : Cr) (o : QuantOp) (x : WaitOp SlotOp) (p : QParam) (b : Nat) : State :=
  let k := u.idx
  let q := s.seq u.w
  let l := o.len.toNat + 1
  let tok := (o.accToken.toNat + b) % 512
  let xs := (List.range l).map (fun i => (s.room k).accAt (o.accCol.toNat + i) tok)
  let sa := 2 * o.scales.toNat + 2 * b
  let la := 8 * o.log.toNat + 8 * b
  let (sc, rescaled, s) :=
    if q.pass = 0 then
      let (bs, s) := s.slateRead k 5 sa 2
      (BitVec.ofNat 16 (leNat bs), false, s)
    else
      let (bs, s) := s.libRead u.w la 8
      let (v, r) := nextScale q.rescale (widthMax p.width) p.floor (readLog bs)
      (v, r, s)
  let (qs, st) := quantBlock p.width sc xs
  let absmax := bf16Ceil st.absmax
  let nonfinite := st.nonfinite || decide (absmax = 0x7F80#16)
  let trouble := nonfinite || decide (st.sat > p.satLimit) || decide (st.zero > p.zeroLimit)
  let s := s.slateWrite k 5 (64 * o.out.toNat + l * b) (qs.map (BitVec.ofInt 8))
  let s := s.slateWrite k 5 sa (leBytes 2 sc.toNat)
  let s := s.libWrite u.w la (logBytes { absmax := absmax, scale := sc, sat := st.sat, zero := st.zero, width := p.width,
                                         trouble := trouble, nonfinite := nonfinite, rescaled := rescaled })
  let s := ((s.bump (Off.vecQBlocks k) 1).bump (Off.vecQSat k) st.sat).bump (Off.vecQZero k) st.zero
  if trouble then ((s.bump (Off.vecQTrouble k) 1).setTrouble u.w (s.blockEntry u.w x.frames (s.stepGroup) tok o.accToken.toNat b)).markTrouble u.w else s

/-- QUANT (R66). After the check point, and under a record R68 refuses, it is a lesson fault. -/
def State.quantCmd (s : State) (u : Cr) (o : QuantOp) : State :=
  match s.dispatch u 2 (.quant o) with
  | (none, s) => s
  | (some x, s) =>
    if (s.seq u.w).passed then s.lessonFault u.w x.ref x.unit (some u.c) 0x11 0
    else
      let (bs, s) := s.slateRead u.idx 5 (16 * o.param.toNat) 16
      let p := readQParam bs
      if !p.ok then s.lessonFault u.w x.ref x.unit (some u.c) 0x11 p.layer
      else (List.range (o.blocks.toNat + 1)).foldl (fun s b => s.quantOne u o x p b) s

end Sys2Proof.Machine
end

