-- ==== Sys2Proof/Machine/Movers.lean ====
section
/-! DEFINITION. The Movers: MOV_COPY, MOV_ITEM and MOV_PAGE, what a transfer does when it lands, and due cycles (R134-R136, R168, R176, R191,
R198-R200, R226, R244, R260-R262, R286, R296, R297). -/

namespace Sys2Proof.Machine

open Sys2Proof

/-! ### Mover queues -/

/-- The transfers of a Mover, oldest first. -/
def State.xfers (s : State) (m : MoverId) : List Xfer :=
  let r := s.room m.cr.idx
  if m.m then r.mov1 else r.mov0

/-- Replace the transfers of a Mover. -/
def State.setXfers (s : State) (m : MoverId) (xs : List Xfer) : State :=
  s.modRoom m.cr.idx (fun r => if m.m then { r with mov1 := xs } else { r with mov0 := xs })

/-- The Slate requester code of a Mover (R187). -/
def moverReq (m : MoverId) : Nat := if m.m then 4 else 3

/-- The local unit of a Mover. -/
def moverUnit (m : MoverId) : Nat := if m.m then 6 else 5

/-- The Hold of late transfers (R136). -/
def lateHold (m : MoverId) : HoldReq := { cause := .dataLate, room := some m.c, unit := 16 + b2n m.m }
/-- The Hold of a dispatch that found its Mover full (R135). -/
def moverHold (m : MoverId) : HoldReq := { cause := .dataLate, room := some m.c, unit := 18 + b2n m.m }

/-! ### Addresses (R176, R190, R191) -/

/-- Where a device address lies. -/
inductive Place where
  | hbm
  | lib (w : Wing) (o : Nat)
  | window (n o : Nat)
  | peer (p o : Nat)
  | none
deriving DecidableEq, Repr

/-- Decode a device address (R190). -/
def placeOf (a : Nat) : Place :=
  if a < hbmSize then .hbm
  else if 0x100000000000 ≤ a ∧ a < 0x100100000000 then
    .lib ⟨(a - 0x100000000000) / 2 ^ 30 % 4, by omega⟩ ((a - 0x100000000000) % 2 ^ 30)
  else if 0x200000000000 ≤ a ∧ a < 0x300000000000 then .window ((a - 0x200000000000) / 2 ^ 32) (a % 2 ^ 32)
  else if 0x300000000000 ≤ a ∧ a < 0x400000000000 then .peer ((a - 0x300000000000) / 2 ^ 32) (a % 2 ^ 32)
  else .none

/-- Whether every byte of a range lies in HBM or in one Wing's scratch (R176, R191). -/
def State.moverRange (s : State) (a n : Nat) : Bool :=
  match placeOf a with
  | .hbm => decide (a + n ≤ hbmSize)
  | .lib w o => decide (o + n ≤ s.scratchEnd w)
  | _ => false

/-- Whether a range meets a span of a resident model image or version (R286). -/
def State.inImage (s : State) (a n : Nat) : Bool :=
  let hit := fun (base : Nat) (i : Image) => i.spans.any (fun p => decide (a < base + p.dest + p.length ∧ base + p.dest < a + n))
  s.mdl.slots.any (fun e => (e.2.state == .resident || e.2.state == .repairing) && (match e.2.img with | some i => hit 0 i | none => false)) ||
  s.mdl.vers.any (fun e => (e.2.state == .current || e.2.state == .retiring) && (match e.2.img with | some i => hit e.2.base i | none => false))

/-! ### Roster lookups (R257-R262) -/

/-- A number in the Roster of Wing `w`'s step, read by a Mover. -/
def State.rosterRead (s : State) (w : Wing) (o n : Nat) : Nat × State :=
  let (bs, s) := s.libRead w ((s.seq w).rosterBase + o) n
  (leNat bs, s)

/-- The offset of a Roster area: 0 token entries, 1 page-table entries, 2 version groups, 3 selection area, 4 trouble map, 5 zero block (R257). -/
def State.rosterArea (s : State) (w : Wing) (i : Nat) : Nat × State := s.rosterRead w (524 + 4 * i) 4

/-- The current token entry of a based transfer (R260): none when no Roster loop gives one. -/
def State.currentEntry (s : State) (w : Wing) (fs : List Frame) : Option Nat × State :=
  match (loopsOf fs).find? (fun l => l.1.isSome) with
  | some (some 5, i) =>
    let (g, s) := s.rosterArea w 2
    let (t, s) := s.rosterRead w (g + 16 * i) 4
    (some t, s)
  | some (some k, i) =>
    if k = 0 ∨ k = 2 ∨ (8 ≤ k ∧ k ≤ 15) then
      let (f, s) := s.rosterRead w (256 + 4 * k) 4
      (some (f + i), s)
    else (none, s)
  | _ => (none, s)

/-- BASE k of a token entry (R259). -/
def State.entryBase (s : State) (w : Wing) (e k : Nat) : Nat × State :=
  let (t, s) := s.rosterArea w 0
  s.rosterRead w (t + 64 * e + 16 + 6 * (k - 1)) 6

/-- The outermost loop's iteration: the layer of MOV_PAGE (R261, R263). -/
def outerIter (fs : List Frame) : Nat := match (loopsOf fs).getLast? with | some (_, i) => i | none => 0

/-- The page-table entry that ENTRY names; bit 19 goes through a selection record (R226, R262; the records come first in the selection area, then
the page-table bases: DESIGN CHOICE, log entry 24). -/
def State.pageEntry (s : State) (w : Wing) (e : Nat) : Nat × State :=
  if e < 2 ^ 19 then (e, s)
  else
    let q := e % 2 ^ 19
    let (sel, s) := s.rosterArea w 3
    let (idx, s) := s.rosterRead w (sel + 8 * q + 4) 4
    let (n, s) := s.rosterRead w 60 4
    let (b, s) := s.rosterRead w (sel + 512 * n + 4 * (q / 64)) 4
    (b + s.srv.plan.sinks + idx, s)

/-- The Roster session whose page-table entries hold entry `e`. -/
def State.sessOfPt (s : State) (e : Nat) : Option RosterSess :=
  let hw := match s.image s.srv.plan.slot with | some i => i.hw | none => 1
  s.srv.plan.sessions.find? (fun x => decide (x.pt ≤ e ∧ e < x.pt + x.ptes hw))

/-! ### Starting a transfer -/

/-- What a Mover operation becomes at dispatch: nothing to do, a transfer, or a BAD_ARG lesson fault. -/
inductive XferPlan where
  | nothing
  | fault
  | go (x : Xfer)
deriving DecidableEq, Repr

/-- A transfer with its common fields. -/
def mkXfer (x : WaitOp SlotOp) (due : Nat) (hint cls ways : Nat) (segs : List Seg) : Xfer :=
  { op := x.op, ref := x.ref, unit := x.unit, segs := segs, out := false, data := [], bad := [], sel := none,
    due := if due = 0 then none else some (x.t + due), late := false, hint := hint, cls := cls, ways := ways, page := none }

/-- MOV_COPY (R134, R260): the Slate bytes of an outward transfer are read at dispatch (R136). -/
def State.planCopy (s : State) (m : MoverId) (o : MovCopyOp) (x : WaitOp SlotOp) : XferPlan × State :=
  let n := 32 * (o.len.toNat + 1)
  let (base, s) :=
    if o.base = 0#3 then (some 0, s)
    else
      match s.currentEntry m.w x.frames with
      | (none, s) => (none, s)
      | (some e, s) =>
        let (b, s) := s.entryBase m.w e o.base.toNat
        (some b, s)
  match base with
  | none => (.fault, s)
  | some b =>
    let a := b + 32 * o.addr.toNat
    if !s.moverRange a n || (o.out && s.inImage a n) then (.fault, s)
    else
      let sl := 32 * o.slate.toNat
      let t := mkXfer x o.due.toNat o.hint.toNat o.cls.toNat (s.waysOf none) [{ dev := a, slate := sl, len := n }]
      if o.out then
        let bad := (List.range n).filter (fun i => marked (s.room m.cr.idx).slateBad ((sl + i) % slateSize / 8))
        let (bs, s) := s.slateRead m.cr.idx (moverReq m) sl n
        (.go { t with out := true, data := bs, bad := bad }, s)
      else (.go t, s)

/-- Whether sector `x` holds session data of the Front Office: its tables, or the page numbers and key maps of a live session (R199, R459). -/
def State.frontData (s : State) (x : Nat) : Bool :=
  s.inTables (32 * x) || s.liveSessions.any (fun k => s.inNames (s.sess k) (32 * x))

/-- A page that the step in flight reads and that is LOST (R244). -/
def State.stepPage (s : State) (n : Nat) : State := { s with srv := { s.srv with lostPages := s.srv.lostPages ++ [n] } }

/-- What an uncorrectable or poisoned sector read by a Mover leads to, by what occupies its address; `page` is the page
the transfer reads, with its session's handle (R198, R199, R244, R296, R297, R459). -/
def State.moverBad (s : State) (m : MoverId) (page : Option (Nat × Nat)) (x : Nat) : State :=
  if s.isChecked x && !marked s.mem.hbmPoison x then s.markErrorIn m.cr.idx
  else match s.chunkAt (32 * x) with
    | some _ => s.modSeq m.w (fun q => { q with repair := true })
    | none =>
      match (match page with | some p => some p | none => (s.pageAt (32 * x)).map (fun n => (n, noPage))) with
      | some (n, handle) => (s.losePage n handle).stepPage n
      | none =>
        match s.recordAt (32 * x) with
        | some n => (s.noticePage n noPage).stepPage n
        | none =>
          if s.frontData x then { s with srv := { s.srv with lostSectors := s.srv.lostSectors ++ [x] } }
          else s.markErrorIn m.cr.idx

/-- A read of a POISONED chunk marks the pass (R297). -/
def State.markRepair (s : State) (m : MoverId) (a : Nat) : State :=
  match s.chunkAt a with
  | some (r, c) => if s.chunkPoisoned r c then s.modSeq m.w (fun q => { q with repair := true }) else s
  | none => s

/-- A Mover's read of a record of `n` bytes in T1, which tells it what to move: through the cache with the hint STREAM and the ways of `tenant` (R178, R226; log entry 132
for a directory record). The bytes as stored and the uncorrectable sectors. -/
def State.recordRead (s : State) (m : MoverId) (cls : Nat) (tenant : Option Nat) (a n : Nat) : List Byte × List Nat × State :=
  let bs := s.hbmBytes a n
  let (bad, s) := (s.carryT1 (.wing m.w) false cls a n).cachedReads cls 1 (s.waysOf tenant) (sectors a n)
  (bs, bad, s)

/-- MOV_ITEM (R134, R168): the directory record is read at dispatch. A record with an uncorrectable sector moves nothing: what it leads to is that of every read of a shared
image by a Mover (R296, R297). -/
def State.planItem (s : State) (m : MoverId) (o : MovItemOp) (x : WaitOp SlotOp) : XferPlan × State :=
  let r := s.slotRec o.model.toNat
  match (r.state == .resident || r.state == .repairing), r.img.bind (fun i => i.spans.find? (fun p => p.kind == 1)) with
  | true, some dir =>
    if o.index.toNat ≥ dir.length / 16 then (.fault, s)
    else
      let ra := dir.dest + 16 * o.index.toNat
      let (b, bad, s) := s.recordRead m 1 none ra 16
      let s := bad.foldl (fun s y => s.moverBad m none y) s
      let s := s.markRepair m ra
      let a := 32 * (hfield b 0 8 % 2 ^ 43)
      let len := hfield b 8 3
      let sl := 32 * o.slate.toNat
      let t := mkXfer x o.due.toNat o.hint.toNat 1 (s.waysOf none) (if len = 0 then [] else [{ dev := a, slate := sl, len := len }])
      if bad ≠ [] then (.nothing, s)
      else if !s.moverRange a len then (.fault, s)
      else if hfield b 11 1 % 16 = 4 then
        if o.slate.toNat / 2 ≠ 0 ∨ len ≠ 32768 then (.fault, s)
        else (.go { t with segs := [{ dev := a, slate := 0, len := len }], sel := some (decide (o.slate.toNat % 2 = 1), hfield b 14 2) }, s)
      else (.go t, s)
  | _, _ => (.fault, s)

/-- The pieces of a page's payload in the Slate, by PART (R226): 0 K, 1 V, 2 both. -/
def pageSegs (part dev d a : Nat) : List Seg :=
  if part = 0 then [{ dev := dev, slate := a, len := 64 * d }]
  else if part = 1 then (List.range d).map (fun j => { dev := dev + 64 * d + 64 * j, slate := a + 512 * j, len := 64 })
  else [{ dev := dev, slate := a, len := 128 * d }]

/-- The pieces of an OPEN page's Tray, laid over positions TB to TB + TD - 1 (R226, R238); positions past 63 have no place in the page. -/
def traySegs (part dev d a td tb : Nat) : List Seg :=
  let n := min td (64 - tb)
  let k := (List.range n).map (fun i => ({ dev := dev + d * i, slate := a + d * (tb + i), len := d } : Seg))
  let v := (List.range d).map (fun j =>
    ({ dev := dev + td * d + td * j, slate := if part = 1 then a + 512 * j + tb else a + 64 * d + 64 * j + tb, len := n } : Seg))
  if part = 0 then k else if part = 1 then v else k ++ v

/-- MOV_PAGE (R226). -/
def State.planPage (s : State) (m : MoverId) (o : MovPageOp) (x : WaitOp SlotOp) : XferPlan × State :=
  let (e, s) := s.pageEntry m.w o.entry.toNat
  let (pt, s) := s.rosterArea m.w 1
  let (w, s) := s.rosterRead m.w (pt + 8 * e) 8
  if w = 2 ^ 64 - 1 then (.nothing, s)
  else
    let pa := w % 2 ^ 48 + outerIter x.frames * (w / 2 ^ 48) * 8192
    if !(decide (pa + 4 ≤ hbmSize)) then (.fault, s)
    else
      let rs := s.sessOfPt e
      let tenant := rs.map (fun q => (s.sess q.sess).tenant)
      let (b, bad, s) := s.recordRead m 0 tenant pa 4
      let s := if bad = [] then s else { s with srv := { s.srv with lostPts := s.srv.lostPts ++ [e] } }
      let n := leNat b
      if n = noPage then (.nothing, s)
      else if n ≥ s.pageCount then (.fault, s)
      else
        let (rb, _, s) := s.recordRead m 0 tenant (s.pageAddr n) 64
        let r := readPage rb
        let handle := match rs with | some q => (s.sess q.sess).handle | none => 0xFFFFFFFF
        let s := s.noticePage n handle
        let s := if r.state = 4 ∨ s.pageGone n then s.stepPage n else s
        let part := if r.state = 3 ∧ o.part = 2#2 then 0 else o.part.toNat
        let sl := 32 * o.slate.toNat
        if r.state = 3 ∧ o.part = 1#2 then (.nothing, s)
        else if !s.moverRange r.addr r.size then (.fault, s)
        else
          let ways := s.waysOf tenant
          let extra := match r.state, rs, s.image s.srv.plan.slot with
            | 1, some q, some img =>
              let se := s.sess q.sess
              traySegs part (0x100000000000 + libKey m.w (trayOff se img r.layer r.kvhead)) r.d sl (2 ^ se.tdLog2) (r.fill - r.trayn)
            | _, _, _ => []
          if !extra.all (fun g => s.moverRange g.dev g.len) then (.fault, s)
          else (.go { mkXfer x o.due.toNat 1 0 ways (pageSegs part r.addr r.d sl ++ extra) with page := some (n, handle) }, s)

/-- The plan of a Mover operation. -/
def State.planXfer (s : State) (m : MoverId) (x : WaitOp SlotOp) : XferPlan × State :=
  match x.op with
  | .movCopy o => s.planCopy m o x
  | .movItem o => s.planItem m o x
  | .movPage o => s.planPage m o x
  | _ => (.nothing, s)

/-- The Slate byte address a Mover operation names. -/
def moverSlate : SlotOp → Nat
  | .movCopy o => 32 * o.slate.toNat
  | .movItem o => 32 * o.slate.toNat
  | .movPage o => 32 * o.slate.toNat
  | _ => 0

/-- Start a dispatched operation: a padding entry or hole lands at once, a faulty one moves nothing. -/
def State.startXfer (s : State) (m : MoverId) (x : WaitOp SlotOp) : State :=
  match s.planXfer m x with
  | (.nothing, s) => s
  | (.fault, s) => s.lessonFault m.w x.ref x.unit (some m.c) 0x11 (moverSlate x.op)
  | (.go t, s) => s.setXfers m (s.xfers m ++ [t])

/-- A Mover operation: queued, or waiting with the Wing held while the Mover is full (R135). -/
def State.moverOp (s : State) (m : MoverId) (op : SlotOp) : State :=
  match s.dispatch m.cr (moverUnit m) op with
  | (none, s) => s
  | (some x, s) =>
    if (s.xfers m).length < 16 then s.startXfer m x
    else
      (s.modRoom m.cr.idx (fun r => { r with movWait := r.movWait ++ [(m.m, x)] })).holdOn m.w x.t (moverHold m)

/-! ### Landing -/

/-- The hint of a transfer's access to sector `x` among its sectors `xs`: a line is invalidated under LAST_USE once the transfer has read the last of its sectors there (R178). -/
def sectorHint (hint : Nat) (xs : List Nat) (x : Nat) : Nat := if hint = 3 ∧ x % 32 ≠ 31 ∧ xs.contains (x + 1) then 4 else hint

/-- Read the sectors of one piece, with what each uncorrectable one leads to; a sector of a POISONED chunk marks the pass (R297). -/
def State.moverSectors (s : State) (m : MoverId) (t : Xfer) (xs : List Nat) : State :=
  xs.foldl (fun s x =>
    let (b, s) := s.cachedRead t.cls (sectorHint t.hint xs x) t.ways x
    (if b then s.moverBad m t.page x else s).markRepair m (32 * x)) s

/-- Read one piece's source bytes, over the links between its die and the Mover's Wing. -/
def State.segRead (s : State) (m : MoverId) (t : Xfer) (g : Seg) : List Byte × State :=
  match placeOf g.dev with
  | .lib w o =>
    let bad := s.libIsBad w o g.len
    let bs := s.libBytes w o g.len
    let s := (s.noteLib w o g.len).carry (.wing w) (.wing m.w) t.cls g.len
    (bs, if bad then s.markErrorIn m.cr.idx else s)
  | _ =>
    let bs := s.hbmBytes g.dev g.len
    (bs, (s.carryT1 (.wing m.w) false t.cls g.dev g.len).moverSectors m t (sectors g.dev g.len))

/-- Write select-buffer bytes: their parity is fresh (R168, R182). -/
def State.selWrite (s : State) (k : Fin 32) (buf : Nat) (bs : List Byte) : State :=
  s.modRoom k (fun r => { r with ex := { r.ex with
    sel := Memory.writeN r.ex.sel (32768 * buf) bs
    selBad := r.ex.selBad.filter (fun e => !(e.1 / 32768 == buf)) } })

/-- Land an inward transfer, with a back-plane load of the Classroom `pairs` pairs of rows on. -/
def State.landIn (s : State) (m : MoverId) (t : Xfer) (pairs : Nat) : State :=
  t.segs.foldl (fun s g =>
    let (bs, s) := s.segRead m t g
    match t.sel with
    | some (b, chk) =>
      let s := (s.selWrite m.cr.idx (b2n b) bs).lateSel m.cr.idx b pairs
      if crc16 bs = chk then s else (s.bump (Off.sltSelCheck m.cr.idx) 1).markErrorIn m.cr.idx
    | none => s.slateWrite m.cr.idx (moverReq m) g.slate bs) s

/-- Land an outward transfer: HBM sectors that receive bytes of an uncorrectable Slate word are written poisoned (R200). -/
def State.landOut (s : State) (m : MoverId) (t : Xfer) (g : Seg) : State :=
  match placeOf g.dev with
  | .lib w o => (s.carry (.wing m.w) (.wing w) t.cls g.len).libWrite w o t.data
  | _ =>
    let xs := sectors g.dev g.len
    let (_, s) := (s.carryT1 (.wing m.w) true t.cls g.dev g.len).hbmWrite t.cls g.dev t.data
    let s := xs.foldl (fun s x => s.cacheAccess (s.cacheWing (32 * x)) true (sectorHint t.hint xs x) t.ways x (!s.sectorBad x)) s
    let hit := xs.filter (fun x => t.bad.any (fun i => (g.dev + i) / 32 == x))
    hit.foldl (fun s x => s.poisonSector x) s

/-- After a landing: a late Hold with no late transfer left is withdrawn, and a waiting operation takes the free entry. -/
def State.afterLand (s : State) (m : MoverId) : State :=
  let s := if (s.xfers m).any (fun t => t.late) then s else s.holdOff m.w (lateHold m)
  match (s.room m.cr.idx).movWait.find? (fun e => e.1 == m.m) with
  | none => s
  | some e =>
    let s := s.modRoom m.cr.idx (fun r => { r with movWait := r.movWait.erase e })
    let s := s.startXfer m e.2
    if (s.room m.cr.idx).movWait.any (fun e => e.1 == m.m) then s else s.holdOff m.w (moverHold m)

/-- MOVER_TRANSFER_LAND of entry `i`. -/
def State.moverLand (s : State) (m : MoverId) (i pairs : Nat) : State :=
  match (s.xfers m)[i]? with
  | none => s
  | some t =>
    let s := s.setXfers m ((s.xfers m).eraseIdx i)
    let s := match t.out, t.segs with
      | true, g :: _ => s.landOut m t g
      | _, _ => s.landIn m t pairs
    s.afterLand m

/-- MOVER_DUE_CHECK of entry `i`: not landed by D - 4, it holds the Wing from D (R136). -/
def State.moverDue (s : State) (m : MoverId) (i : Nat) : State :=
  match (s.xfers m)[i]? with
  | none => s
  | some t =>
    match t.due with
    | none => s
    | some d =>
      let s := s.setXfers m ((s.xfers m).set i { t with late := true })
      (s.runTo m.w (d - 4)).holdOn m.w d (lateHold m)

end Sys2Proof.Machine
end

