-- ==== Sys2Proof/Machine/Reduce.lean ====
section
/-! DEFINITION. The Reduction unit (R237, R273) and the Slate's memory-side operations, Narrow ports and debug window
(R163, R166, R167, R187). -/

namespace Sys2Proof.Machine

open Sys2Proof

/-! ### RED_TOPK, RED_MAXSUM -/

/-- The rank RED_TOPK orders by: NaN below -infinity, the zeros alike (R237). -/
def topRank (v : F32) : Int := if isNaN v then -(2 ^ 40) else frank v

/-- Insert a value below every value not smaller, keeping at most `k` (R237). -/
def topInsert (k : Nat) (e : F32 × Nat) : List (F32 × Nat) → List (F32 × Nat)
  | [] => [e].take k
  | x :: xs => if topRank x.1 < topRank e.1 then (e :: x :: xs).take k else (x :: topInsert (k - 1) e xs).take k

/-- The first `k` of the values in RED_TOPK's order, with their indices. -/
def topK (k : Nat) (vs : List F32) : List (F32 × Nat) :=
  ((vs.zip (List.range vs.length)).foldl (fun acc e => topInsert k e acc) []).take k

/-- The f32 values of a list of bytes. -/
def f32s (n : Nat) (bs : List Byte) : List F32 := (List.range n).map (fun i => BitVec.ofNat 32 (leNat ((bs.drop (4 * i)).take 4)))

/-- RED_TOPK (R237). -/
def State.redTopk (s : State) (u : Cr) (o : RedTopkOp) : State :=
  match s.dispatch u 3 (.redTopk o) with
  | (none, s) => s
  | (some _, s) =>
    let n := 512 * (o.nblk.toNat + 1)
    let (bs, s) := s.slateRead u.idx 6 (32 * o.src.toNat) (4 * n)
    s.slateWrite u.idx 6 (32 * o.dst.toNat)
      ((topK (o.k.toNat + 1) (f32s n bs)).flatMap (fun e => leBytes 4 e.1.toNat ++ leBytes 4 e.2))

/-- The maximum and the sum of exponentials of a list of values; NaN counts as -infinity (R273). -/
def maxSum (vs : List F32) : F32 × F32 :=
  let vs := vs.map (fun v => if isNaN v then 0xFF800000#32 else v)
  let m := vs.foldl fmax 0xFF800000#32
  (m, if m = 0xFF800000#32 then 0 else vs.foldl (fun a v => fadd a (fexp (fsub v m))) 0)

/-- RED_MAXSUM (R273). -/
def State.redMaxsum (s : State) (u : Cr) (o : RedMaxsumOp) : State :=
  match s.dispatch u 3 (.redMaxsum o) with
  | (none, s) => s
  | (some _, s) =>
    let n := 512 * (o.nblk.toNat + 1)
    let (bs, s) := s.slateRead u.idx 6 (32 * o.src.toNat) (4 * n)
    let (m, v) := maxSum (f32s n bs)
    s.slateWrite u.idx 6 (32 * o.dst.toNat) (leBytes 4 m.toNat ++ leBytes 4 v.toNat)

/-! ### SLT_FILL, SLT_COPY (R166, R167) -/

/-- SLT_FILL: VALUE into every 2-byte location of n sectors. -/
def State.sltFill (s : State) (u : Cr) (o : SltFillOp) : State :=
  match s.dispatch u 7 (.sltFill o) with
  | (none, s) => s
  | (some _, s) =>
    s.slateWrite u.idx 2 (32 * o.dst.toNat)
      ((List.replicate (16 * (o.len.toNat + 1)) (leBytes 2 o.value.toNat)).flatten)

/-- SLT_COPY: the result of a copy that reads the whole source before any write. -/
def State.sltCopy (s : State) (u : Cr) (o : SltCopyOp) : State :=
  match s.dispatch u 7 (.sltCopy o) with
  | (none, s) => s
  | (some _, s) =>
    let (bs, s) := s.slateRead u.idx 2 (32 * o.src.toNat) (32 * (o.len.toNat + 1))
    s.slateWrite u.idx 2 (32 * o.dst.toNat) bs

/-! ### Narrow ports and the debug window (R163, R187) -/

/-- Cycles a Wing's Slates counted since its last word: in each, requesters of a bank path lost it to another (R161, R163). The sixteen cycles of a request that NARROW_STARVED
reports are counted there (log entry 17). -/
def State.slateWaits (s : State) (w : Wing) (xs : List SlateWaits) : State :=
  xs.foldl (fun s x => (s.bump (Off.sltWideWaits (roomIndex w x.room)) x.wide).bump (Off.sltNarrowWaits (roomIndex w x.room)) x.narrow) s

/-- A request of Narrow port 0-2 reaches its sixteenth cycle of waiting: counted, and a request to hold the cycle four on with cause NARROW_STARVED (R143). The sixteen
cycles it has waited are counted in SLT_NARROW_WAITS (log entry 17). -/
def State.narrowStarved (s : State) (u : Cr) (port : Fin 3) : State :=
  ((s.bump (Off.sltStarved u.idx) 1).bump (Off.sltNarrowWaits u.idx) 16).holdOn u.w ((s.seq u.w).count + 4)
    { cause := .narrowStarved, room := some u.c, unit := 8 + port.val }

/-- The byte address of the debug window's word. -/
def State.dbgAddr (s : State) (k : Fin 32) : Nat := 8 * s.regField (Off.sltDbgAddr k) 3 17

/-- Set SLT_DBG_ADDR.TIMEOUT. -/
def State.dbgTimeout (s : State) (k : Fin 32) (b : Bool) : State :=
  s.setReg (Off.sltDbgAddr k) (BitVec.ofNat 64 (setField (s.regN (Off.sltDbgAddr k)) 63 1 (b2n b)))

/-- A read of SLT_DBG_DATA that found a free path on Narrow port 3 after `waited` cycles, each counted (R163). -/
def State.dbgRead (s : State) (u : Cr) (waited : Nat) : State :=
  let s := s.bump (Off.sltNarrowWaits u.idx) waited
  let (bs, s) := s.slateRead u.idx 8 (s.dbgAddr u.idx) 8
  let s := s.dbgTimeout u.idx false
  { s with bus := { data := bs, poisoned := false, unsupported := false } }

/-- A write of SLT_DBG_DATA that found a free path after `waited` cycles: the word. -/
def State.dbgWrite (s : State) (u : Cr) (v : BitVec 64) (waited : Nat) : State :=
  ((s.bump (Off.sltNarrowWaits u.idx) waited).slateWrite u.idx 8 (s.dbgAddr u.idx) (leBytes 8 v.toNat)).dbgTimeout u.idx false

/-- A debug access found no free path within 4,096 clock cycles, all of them counted: a read returns all ones, a write is dropped. -/
def State.dbgLate (s : State) (u : Cr) (read : Bool) : State :=
  let s := (s.bump (Off.sltNarrowWaits u.idx) 4096).dbgTimeout u.idx true
  if read then { s with bus := { data := List.replicate 8 0xFF#8, poisoned := false, unsupported := false } } else s

end Sys2Proof.Machine
end

