-- ==== Sys2Proof/Machine/Sequencer.lean ====
section
/-! DEFINITION. The Sequencer of a Wing: start records, period words, loops and calls, Bells, the Hold and the Wing's side of the step
points (R121-R157, R78). -/

namespace Sys2Proof.Machine

open Sys2Proof

/-! ### Lessons (R123, R124, R490) -/

/-- The lesson table entry `i` of Wing `w`: the header's Library offset when it is VALID (R124). -/
def State.lessonEntry (s : State) (w : Wing) (table i : Nat) : Option Nat :=
  let e := s.libLE w (table + 8 * i) 8
  if bit e 0 then some (field e 7 23 * 128) else none

/-- The check of a header that the Sequencer makes (R490): PART, FORMAT, INDEX and KIND. -/
def headerOk (h : List Byte) (i kind : Nat) : Bool :=
  decide (hfield h 0 2 = 0x0B32 ∧ hfield h 2 1 = 1 ∧ hfield h 10 1 = i ∧ hfield h 3 1 = kind)

/-- The header offset of lesson `i` when its entry and header pass for `kind` (R127, R142, R490), both read by the Sequencer, with
the effects of an uncorrectable sector (R184). -/
def State.findLesson (s : State) (w : Wing) (i kind : Nat) : Option Nat × State :=
  let entry := s.lessonEntry w (s.seq w).latTable i
  let s := (s.libRead w ((s.seq w).latTable + 8 * i) 8).2
  match entry with
  | none => (none, s)
  | some o =>
    let (h, s) := s.libRead w o 128
    (if headerOk h i kind then some o else none, s)

/-- The header offset of a lesson the stream is already in. -/
def State.lessonBase (s : State) (w : Wing) (i : Nat) : Nat := (s.lessonEntry w (s.seq w).latTable i).getD 0

/-- WORDS of a lesson. -/
def State.lessonWords (s : State) (w : Wing) (i : Nat) : Nat := s.libLE w (s.lessonBase w i + 4) 4

/-! ### Faults of the Sequencer -/

/-- A lesson fault with UNIT 0x40 (R155, R156). -/
def State.seqFault (s : State) (w : Wing) (ref : WordRef) (status : Nat) : State := s.lessonFault w ref 0x40 none status 0

/-! ### The vote (R78) -/

/-- The marks of the pass as a vote. -/
def Sequencer.vote (q : Sequencer) : Vote :=
  { trouble := q.trouble, error := q.error, sbSat := q.sbSat, repair := q.repair, faults := q.faults }

/-- Send the Wing's vote. -/
def State.sendVote (s : State) (w : Wing) : State :=
  let s := { s with srv := { s.srv with votes := s.srv.votes.set w.val (some (s.seq w).vote) } }
  (s.control3 (.wing w) .office).modSeq w (fun q => { q with voted := true })

/-- The Hold of a step point (R150). -/
def pointHold : HoldReq := { cause := .bellWait, room := none, unit := 41 }
/-- The Hold of a Bell wait (R147). -/
def bellHold : HoldReq := { cause := .bellWait, room := none, unit := 40 }

/-! ### Starts (R127, R128, R148) -/

/-- Enter a new Bell epoch: the second set of counts becomes current, the other is cleared (R148). -/
def Sequencer.newEpoch (q : Sequencer) : Sequencer := { q with epoch := !q.epoch, bells := q.bells2, bells2 := [], rung := [] }

/-- The Sequencer at the start of a step: registers latched, marks cleared (R127, R128). -/
def State.startSeq (s : State) (w : Wing) (r : StartRec) : Sequencer :=
  let q := (s.seq w).newEpoch
  { q with
    phase := .starting, held := false, holdT := 0, holds := [], t := 0, wordT := 0, after := ⟨r.lesson.toNat, 0⟩, jump := some ⟨r.lesson.toNat, 0⟩,
    frames := [], latTable := s.regField (Off.seqLessonTable w) 11 19 * 2048, latBase := s.regField (Off.seqRosterBase w) 12 18 * 4096,
    latSize := s.regField (Off.seqRosterSize w) 0 5, latLimit := s.regField (Off.seqBellLimit w) 0 32, rosterBuf := r.buffer,
    lesson := r.lesson.toNat, step := r.step.toNat, pass := 0, rescale := false, wait := none, waitT := none, replayRef := none, replayT := 0,
    passed := false, trouble := false, error := false, sbSat := false, repair := false, faults := [], voted := false, sent := [],
    cycles := 0 }

/-- The units of one Classroom are free: its Array and its drain have run to their end, and a plane swap that was not judged has taken effect. -/
def State.freeRoom (s : State) (u : Cr) : State :=
  let k := u.idx
  let s := s.arrayEnd k
  let s := if (s.room k).swapFeed.isSome && !s.holding u.w (swapHold u.c) then (s.swapFirst k).arrayEnd k else s
  s.modRoom k (fun r => { r with busy := [], ex := { r.ex with sr := 0, sx := 0, sb := 0, next := [] } })

/-- Where the counter begins again, at a start or a replay, every unit is free (R150, R151): what it was busy with has ended, the results in the Array among it, and the
Expander's shadow schedule begins afresh (log entry 20). -/
def State.freeUnits (s : State) (w : Wing) : State :=
  (List.finRange 8).foldl (fun s c => s.freeRoom ⟨w, c⟩) s

/-- The Wing with its units free and its Sequencer set for the step of a start record (R127, R128). -/
def State.wingReady (s : State) (w : Wing) (r : StartRec) : State :=
  let s := s.freeUnits w
  s.modSeq w (fun _ => s.startSeq w r)

/-- WING_STEP_START: accepted only after the previous step has ended; a start fault votes at once (R127). -/
def State.wingStart (s : State) (w : Wing) (r : StartRec) : State :=
  if (s.seq w).phase ≠ .idle then s
  else
    let s := s.wingReady w r
    let s := { s with srv := { s.srv with starts := s.srv.starts.set w.val none } }
    match s.findLesson w r.lesson.toNat 0 with
    | (some _, s) => s
    | (none, s) =>
      let s := s.seqFault w ⟨r.lesson.toNat, 0⟩ 0x11
      (s.modSeq w (fun q => { q with phase := .checkWait, jump := none })).sendVote w

/-! ### The next word (R141, R142) -/

/-- The word that follows `after` under the active loops and calls, with the frames it leaves; none past a step lesson's last word. -/
def State.follow (s : State) (w : Wing) : Nat → WordRef → List Frame → Option (WordRef × List Frame)
  | 0, _, _ => none
  | n + 1, a, .loop first last count iter e :: fs =>
    if a.word = last then
      if iter + 1 < count then some (⟨a.lesson, first⟩, .loop first last count (iter + 1) e :: fs)
      else State.follow s w n a fs
    else some (⟨a.lesson, a.word + 1⟩, .loop first last count iter e :: fs)
  | n + 1, a, .call ret :: fs =>
    if a.word + 1 < s.lessonWords w a.lesson then some (⟨a.lesson, a.word + 1⟩, .call ret :: fs)
    else State.follow s w n ret fs
  | _ + 1, a, [] => if a.word + 1 < s.lessonWords w a.lesson then some (⟨a.lesson, a.word + 1⟩, []) else none

/-- The next word to dispatch. -/
def State.nextWord (s : State) (w : Wing) : Option (WordRef × List Frame) :=
  let q := s.seq w
  match q.jump with
  | some r => some (r, q.frames)
  | none => s.follow w 64 q.after q.frames

/-! ### Period words (R129-R139) -/

/-- Add an item to what the Sequencer has sent. -/
def State.send (s : State) (w : Wing) (x : Sent) : State := s.modSeq w (fun q => { q with sent := q.sent ++ [x] })

/-- Iterations of the active loops, innermost first (R137). -/
def itersOf (fs : List Frame) : List Nat := (loopsOf fs).map (fun l => l.2)

/-- Send one slot op of a word to its units; what cannot be read is a lesson fault of each unit addressed (R137, R155, R490). -/
def State.sendOp (s : State) (w : Wing) (ref : WordRef) (t : Nat) (fs : List Frame) (r : RawOp) : State :=
  let bad := fun (s : State) (st : Nat) =>
    match unitTargets r.unit with
    | some (_, c :: cs) => (c :: cs).foldl (fun s c => s.lessonFault w ref r.unit (some c) st 0) s
    | _ => s.lessonFault w ref r.unit none st 0
  match readOp r (itersOf fs) with
  | .badOpcode => bad s 0x10
  | .badArg => bad s 0x11
  | .op o =>
    match unitTargets r.unit with
    | none => s
    | some (_, []) => s.send w { item := .control o, ref := ref, unit := r.unit, t := t, frames := fs }
    | some (u, c :: cs) =>
      (c :: cs).foldl (fun s c => s.send w { item := .op c u o, ref := ref, unit := r.unit, t := t, frames := fs }) s

/-- What a word sends, in the order its parts act: the replay point before its slot ops (R151), then the slot ops, its Bell action and its check
or commit point. -/
def State.sendWord (s : State) (w : Wing) (ref : WordRef) (t : Nat) (fs : List Frame) (p : PeriodWord) : State :=
  let item := fun (i : SentItem) => ({ item := i, ref := ref, unit := 0x40, t := t, frames := fs } : Sent)
  let s := if p.replay then s.send w (item .replay) else s
  let s := p.ops.foldl (fun s r => s.sendOp w ref t fs r) s
  let s := if p.bell then s.send w (item (if p.bellWait then .wait p.bellNum p.bellTarget else .ring p.bellNum)) else s
  let s := if p.check then s.send w (item .check) else s
  if p.commit then s.send w (item .commit) else s

/-- Whether everything a Sequencer sent but slot operations has been taken; a word that waits on a Bell is dispatched beside the word whose cycle it shares, before what that
word sent acts (R147). -/
def Sequencer.clear (q : Sequencer) : Bool :=
  q.sent.all (fun x => match x.item with | .op _ _ _ => true | _ => false) ||
  (q.waitT.isSome && q.sent.all (fun x => match x.item with | .wait _ _ => false | _ => true))

/-- A period word of a lesson, as it stands in the Library. -/
def State.wordAt (s : State) (w : Wing) (ref : WordRef) : PeriodWord :=
  readWord (s.libBytes w (s.lessonBase w ref.lesson + 128 * (ref.word + 1)) 128)

/-- Whether the cycle of word `p` at `ref` holds a Bell wait: its own, or that of the word after it with DELTA 0 (R131, R147). -/
def State.waitsInCycle (s : State) (w : Wing) (ref : WordRef) (fs : List Frame) (p : PeriodWord) : Bool :=
  (p.bell && p.bellWait) ||
  match s.follow w 64 ref fs with
  | some (r, _) => let n := s.wordAt w r; decide (n.delta = 0) && n.bell && n.bellWait
  | none => false

/-- The dispatch cycle of word `p`, the next one (R130; on a replay the replay point word has its first cycle, R151). -/
def Sequencer.nextT (q : Sequencer) (p : PeriodWord) : Nat :=
  if q.pass > 0 ∧ q.jump = q.replayRef ∧ q.jump.isSome then q.replayT else q.wordT + p.delta

/-- PERIOD_WORD_DISPATCH: the next word at its Timetable cycle (R130, R141, R142). Under a Hold only the words of cycles before the held one are dispatched (R144). The
Timetable has reached its cycle, unless a plane swap due by then holds it (R36), and the waits that the Wing's Slates counted since the word before are added (R161, R163). -/
def State.dispatchWord (s : State) (w : Wing) (waits : List SlateWaits) : State :=
  let s := s.slateWaits w waits
  let q := s.seq w
  if !(q.phase == .starting || q.phase == .running) || !q.clear then s
  else
    match s.nextWord w with
    | none => s
    | some (ref, fs) =>
      let t := q.nextT (s.wordAt w ref)
      let s := s.runTo w t
      if (s.seq w).held ∧ (s.seq w).holdT ≤ t then s
      else
        let (bs, s) := s.libRead w (s.lessonBase w ref.lesson + 128 * (ref.word + 1)) 128
        let p := readWord bs
        let extra := decide (t ≥ 2 ^ 32)
        let t := min t (2 ^ 32 - 1)
        let s := if extra then s.seqFault w ref 0x11 else s
        let waitT := if s.waitsInCycle w ref fs p then some t else none
        let s := s.modSeq w (fun q => { q with phase := .running, t := t, wordT := t, after := ref, jump := none, frames := fs, waitT := waitT })
        s.sendWord w ref t fs p

/-- Take the sent item of a control operation, a Bell action or a step point, with the word that issued it; a command that no word sent
counts as the current word's (log entry 12). -/
def State.takeItem (s : State) (w : Wing) (i : SentItem) : WordRef × Nat × State :=
  let q := s.seq w
  match q.sent.find? (fun e => e.item == i) with
  | some e => (e.ref, e.t, s.modSeq w (fun q => { q with sent := q.sent.erase e }))
  | none => (q.after, q.wordT, s)

/-- Whether such an item waits because its cycle is held (R144, R147). -/
def State.itemHeld (s : State) (w : Wing) (i : SentItem) : Bool := (s.seq w).heldBack (s.takeItem w i).2.1

/-! ### LOOP and CALL (R140-R142, R155) -/

/-- A loop that runs no iteration: the stream goes on after its body (R141, R155). -/
def State.skipLoop (s : State) (w : Wing) (ref : WordRef) (body : Nat) : State :=
  s.modSeq w (fun q => { q with after := ⟨ref.lesson, ref.word + body⟩ })

/-- The count of a LOOP (R140): none for a Roster count above 65,536. -/
def State.loopCount (s : State) (w : Wing) (o : LoopOp) : Option Nat × State :=
  if o.roster then
    let (n, s) := s.rosterRead w (4 * (o.count.toNat % 64)) 4
    (if n > 65536 then none else some n, s)
  else (some (o.count.toNat + 1), s)

/-- LOOP. A COUNT or BODY that an EXT_INDEX brought out of range is a lesson fault under R137; like the control faults of R155 it runs the loop zero times (DESIGN
CHOICE, log entry 112). -/
def State.loopRun (s : State) (w : Wing) (o : LoopOp) : State :=
  let (ref, _, s) := s.takeItem w (.control (.loop o))
  if !opInRange (.loop o) then (s.seqFault w ref 0x11).skipLoop w ref o.body.toNat
  else
    let (n, s) := s.loopCount w o
    match n with
    | none => (s.seqFault w ref 0x11).skipLoop w ref o.body.toNat
    | some 0 => s.skipLoop w ref o.body.toNat
    | some n =>
      if (loopsOf (s.seq w).frames).length ≥ 16 then (s.seqFault w ref 0x11).skipLoop w ref o.body.toNat
      else
        let e := if o.roster then some (o.count.toNat % 64) else none
        s.modSeq w (fun q => { q with frames := .loop (ref.word + 1) (ref.word + o.body.toNat) n 0 e :: q.frames })

/-- LOOP, once its cycle begins. -/
def State.loopOp (s : State) (w : Wing) (o : LoopOp) : State := if s.itemHeld w (.control (.loop o)) then s else s.loopRun w o

/-- Calls active among frames. -/
def depthOf (fs : List Frame) : Nat := (fs.filter (fun f => match f with | .call _ => true | _ => false)).length

/-- CALL: a ninth level, an entry that is not VALID, names a step lesson or fails R490 is a control fault and runs no callee. -/
def State.callRun (s : State) (w : Wing) (o : CallOp) : State :=
  let (ref, _, s) := s.takeItem w (.control (.call o))
  if depthOf (s.seq w).frames ≥ 8 then s.seqFault w ref 0x11
  else
    match s.findLesson w o.lesson.toNat 1 with
    | (none, s) => s.seqFault w ref 0x11
    | (some _, s) => s.modSeq w (fun q => { q with frames := .call ref :: q.frames, jump := some ⟨o.lesson.toNat, 0⟩ })

/-- CALL, once its cycle begins. -/
def State.callOp (s : State) (w : Wing) (o : CallOp) : State := if s.itemHeld w (.control (.call o)) then s else s.callRun w o

/-! ### Bells (R147-R149) -/

/-- A count of a Bell. -/
def bellCount (m : Sparse Nat) (n : Nat) : Nat := Sparse.get (fun _ => 0) m n

/-- Add one to a Bell's count, which stops at 65,535. -/
def bellAdd (m : Sparse Nat) (n : Nat) : Sparse Nat := Sparse.set (fun _ => 0) m n (min (bellCount m n + 1) 65535)

/-- A ring of the current epoch is counted, with the Timetable cycle that the Wing's counter reads; only the last four cycles' rings matter to a wait (R143, R147). -/
def Sequencer.countRing (q : Sequencer) (n : Nat) : Sequencer :=
  { q with bells := bellAdd q.bells n,
           rung := q.rung.filter (fun e => decide (q.count < e.2 + 4)) ++ (if bellCount q.bells n < 65535 then [(n, q.count)] else []) }

/-- The count of Bell `n` that a wait of cycle `t` is judged from: that of cycle `t - 4`, whose own rings are in it (R143, R147; DEDUCED, log entry 131). -/
def Sequencer.bellKnown (q : Sequencer) (n t : Nat) : Nat :=
  bellCount q.bells n - (q.rung.filter (fun e => decide (e.1 = n ∧ t < e.2 + 4))).length

/-- A ring counted in one Wing; a wait that its count now satisfies is withdrawn. -/
def State.ringIn (s : State) (ringer : Bool) (n : Nat) (v : Wing) : State :=
  let s := s.modSeq v (fun q => if q.epoch = ringer then q.countRing n else { q with bells2 := bellAdd q.bells2 n })
  match (s.seq v).wait with
  | none => s
  | some (b, target, _) =>
    if bellCount (s.seq v).bells b ≥ target then (s.modSeq v (fun q => { q with wait := none })).holdOff v bellHold else s

/-- BELL_RING: the ring is counted in all four Wings under the ringer's epoch parity, once its cycle begins. -/
def State.bellRing (s : State) (w : Wing) (n : Nat) : State :=
  if s.itemHeld w (.ring n) then s
  else
    let (_, _, s) := s.takeItem w (.ring n)
    (List.finRange 4).foldl (fun s v => s.ringIn (s.seq w).epoch n v) s

/-- BELL_WAIT: the Wing holds, with the whole of the word's cycle, until the local count reaches the target. The wait is judged from the count four cycles before its own, so a
ring since then, or of that cycle, is not seen; if the count has reached the target meanwhile, the request is withdrawn at once, and the Hold lasts its tail (R143, R144, R147). -/
def State.bellWaitOp (s : State) (w : Wing) (n target : Nat) : State :=
  let (ref, t, s') := s.takeItem w (.wait n target)
  let q := s.seq w
  if q.held ∧ q.holdT ≤ t then s
  else
    let s := s'.modSeq w (fun q => { q with waitT := none })
    if (s.seq w).bellKnown n t ≥ target then s
    else if bellCount (s.seq w).bells n ≥ target then (s.holdOn w t bellHold).holdOff w bellHold
    else (s.modSeq w (fun q => { q with wait := some (n, target, ref) })).holdOn w t bellHold

/-- BELL_TIMEOUT: a wait that has held for SEQ_BELL_LIMIT cycles becomes a lesson fault; a limit of 0 disables the check. -/
def State.bellTimeout (s : State) (w : Wing) : State :=
  match (s.seq w).wait with
  | none => s
  | some (_, _, ref) =>
    if (s.seq w).latLimit = 0 then s
    else
      let s := (s.seqFault w ref 0x11).bump (Off.seqBellTimeouts w) 1
      (s.modSeq w (fun q => { q with wait := none })).holdOff w bellHold

/-! ### The Hold (R143-R146) -/

/-- HOLD_REQUEST: a unit's request, raised where the counter stands, that the cycle four on not begin (R143); it is withdrawn when the Timetable resumes. -/
def State.holdRequest (s : State) (w : Wing) (cause : HoldCause) (room : Option Room) : State :=
  s.holdOn w ((s.seq w).count + 4) { cause := cause, room := room, unit := 60 }

/-- A request that the resumption itself withdraws: one raised by HOLD_REQUEST, or a starved Narrow request, served by then. -/
def HoldReq.transient (h : HoldReq) : Bool := decide (h.unit = 60) || decide (h.cause = .narrowStarved)

/-- TIMETABLE_RESUME: with every other request withdrawn, the held cycle begins, those before it having passed; the held clock cycles are counted (R144, R146). -/
def State.resume (s : State) (w : Wing) (h : HeldCycles) : State :=
  let q := s.seq w
  if !q.held || q.holds.any (fun x => !x.transient) then s
  else
    let s := s.runTo w q.holdT
    let s := s.modSeq w (fun q => { q with held := false, holds := [] })
    let s := (s.bump (Off.seqHoldCycles w) h.total).bump (Off.seqHoldDataLate w) h.dataLate
    let s := (s.bump (Off.seqHoldExpanderLate w) h.expanderLate).bump (Off.seqHoldBellWait w) h.bellWait
    (s.bump (Off.seqHoldCodebookBusy w) h.codebookBusy).bump (Off.seqHoldNarrowStarved w) h.narrowStarved

/-! ### Step points (R150-R154) -/

/-- Clear the token trouble map of the step's Roster, whose size and place the Sequencer reads (R151, R257). -/
def State.clearTrouble (s : State) (w : Wing) : State :=
  let n := ceilDiv (s.libLE w (s.seq w).rosterBase 4) 8
  let s := ((s.libRead w (s.seq w).rosterBase 4).2.libRead w ((s.seq w).rosterBase + 540) 4).2
  s.libWrite w (s.troubleMap w) (List.replicate n 0)

/-- The count of START_BELL rings restarts for the groups whose home is Wing `w` (R364). -/
def State.restartRings (s : State) (w : Wing) : State :=
  { s with asm := s.asm.map (fun e => (e.1, if field (s.regN (Off.asmGroup e.1 0)) 3 2 = w.val then { e.2 with rings := [], nextK := 0 } else e.2)) }

/-- REPLAY_POINT, once its cycle begins: a new Bell epoch, a new count of START_BELL rings, empty codebook slots, a clear trouble map and, on a replay, T as it was (R151). -/
def State.replayPoint (s : State) (w : Wing) : State :=
  if s.itemHeld w .replay then s
  else
    let (ref, t, s) := s.takeItem w .replay
    let s := (s.modSeq w Sequencer.newEpoch).restartRings w
    let s := (List.finRange 8).foldl (fun s c => s.expReplay ⟨w, c⟩ (decide ((s.seq w).pass ≠ 0))) s
    let s := s.clearTrouble w
    let q := s.seq w
    if q.pass = 0 then s.modSeq w (fun q => { q with replayRef := some ref, replayT := t })
    else s.modSeq w (fun q => { q with t := q.replayT, wordT := q.replayT })

/-- The units whose operation is still busy at a step point's cycle `t`, the Vector unit, the Expander and the Movers aside (R150). An operation that began in that very cycle
counts as busy, be it one cycle long (DESIGN CHOICE, log entry 113). -/
def Classroom.busyAt (r : Classroom) (t : Nat) : List Nat :=
  [0, 3, 4, 7].filter (fun u => decide (Sparse.get (fun _ => 0) r.busy u > t))

/-- A unit still busy at a step point's word is a lesson fault (R150). It names the step point's word, and as UNIT the busy unit of its Classroom, though a broadcast may have made
it busy (DESIGN CHOICE, log entry 34). -/
def State.busyFaults (s : State) (w : Wing) (ref : WordRef) (t : Nat) : State :=
  (List.finRange 8).foldl (fun s c =>
    ((s.room (roomIndex w c)).busyAt t).foldl (fun s u => s.lessonFault w ref (8 * c.val + u) (some c) 0x11 0) s) s

/-- CHECK_POINT_WORD: the counter goes no further. -/
def State.checkWord (s : State) (w : Wing) : State :=
  let (ref, t, s') := s.takeItem w .check
  if s.itemHeld w .check then s
  else if (s.seq w).phase ≠ .running then s'
  else
    let s := s'.busyFaults w ref t
    (s.modSeq w (fun q => { q with phase := .checkWait, passed := true, voted := false })).holdOn w (t + 1) pointHold

/-- Whether the Expander still has work that ends without a later Timetable operation: a back-plane load, or the item at the head of its queue, which is being expanded or can be, with
a decode buffer free if it needs one (R108, R150). A codebook load that waits for its slot waits for such an item. -/
def Classroom.expBusy (r : Classroom) : Bool :=
  decide (0 < r.loads) || r.ex.next ≠ [] ||
  match r.ex.queue with
  | [] => false
  | i :: _ => (i.phase == .expanding) || !needsBuffer i.op || decide (0 < r.freeBuffers)

/-- Whether the Wing's drain has ended: every transfer has landed, and no Expander has work left (R150; the Vector unit's drain ends with it). -/
def State.drained (s : State) (w : Wing) : Bool :=
  (List.finRange 8).all (fun c =>
    let r := s.room (roomIndex w c)
    r.mov0.isEmpty && r.mov1.isEmpty && r.movWait.isEmpty && !r.expBusy)

/-- The end of the drain at a step point of cycle C: the cycles up to C have passed, the updates of C among them, and the drains of the Scoreboard run to their end with the
Scoreboard as it then stands, as the Array's later results wait for their cycles (R145, R150). -/
def State.pointEnd (s : State) (w : Wing) : State :=
  let s := s.runTo w ((s.seq w).wordT + 1)
  (List.finRange 8).foldl (fun s c => State.drainRest (roomIndex w c) drainFuel s) s

/-- CHECK_VOTE: once the drain has ended the Wing votes (R78). -/
def State.checkVoteCmd (s : State) (w : Wing) : State :=
  let q := s.seq w
  if q.phase = .checkWait ∧ !q.voted ∧ s.drained w then (s.pointEnd w).sendVote w else s

/-- COMMIT_POINT_WORD: the counter goes no further; the Wing's report is what its marks show once drained (R154). -/
def State.commitWord (s : State) (w : Wing) : State :=
  let (ref, t, s') := s.takeItem w .commit
  if s.itemHeld w .commit then s
  else if (s.seq w).phase ≠ .running then s'
  else
    let s := s'.busyFaults w ref t
    (s.modSeq w (fun q => { q with phase := .commitWait, voted := false })).holdOn w (t + 1) pointHold

/-- The Wing ends its step. -/
def State.wingEnd (s : State) (w : Wing) : State :=
  let s := (s.bump (Off.seqSteps w) 1).holdOff w pointHold
  s.modSeq w (fun q => { q with phase := .idle, jump := none, frames := [], sent := [], wait := none, waitT := none })

/-- Timetable cycles of the pass, held cycles aside, up to and including the step point word's (R436). -/
def Sequencer.passCycles (q : Sequencer) : Nat := q.wordT + 1 - (if q.pass = 0 then 0 else q.replayT)

/-- The Wing starts its next pass (R78): the counter is kept from the replay point word's cycle until the Timetable resumes (R151). -/
def Sequencer.nextPass (q : Sequencer) (rescale : Bool) : Sequencer :=
  { q with phase := .running, pass := q.pass + 1, rescale := rescale, jump := q.replayRef, frames := [], passed := false, trouble := false,
           error := false, sbSat := false, repair := false, faults := [], voted := false, sent := [], waitT := none, cycles := q.cycles + q.passCycles, t := q.replayT, holdT := q.replayT }

/-- VERDICT_RECEIVED: continue, replay from the replay point, or skip to the step's end (R78, R154). A pass told to go on voted no error and no fault: what is marked by now was
detected since its check point, and stays for the commit point's report. -/
def State.verdictReceived (s : State) (w : Wing) : State :=
  let v := (s.srv.toWing[w.val]?).getD none
  let q := s.seq w
  match v with
  | none => s
  | some v =>
    if !(q.phase == .checkWait || q.phase == .commitWait) then s
    else
      let s := { s with srv := { s.srv with toWing := s.srv.toWing.set w.val none } }
      match v with
      | .commit =>
        if q.phase = .commitWait then s.wingEnd w
        else
          (s.modSeq w (fun q => { q with phase := .running, trouble := false, sbSat := false, voted := false })).holdOff w pointHold
      | .replaySame => ((s.freeUnits w).modSeq w (fun q => q.nextPass false)).holdOff w pointHold
      | .replayRescale => ((s.freeUnits w).modSeq w (fun q => q.nextPass true)).holdOff w pointHold
      | .fail => s.wingEnd w
      | .repair => s.wingEnd w
      | .fault _ => s.wingEnd w

end Sys2Proof.Machine
end

