-- ==== Sys2Proof/Machine/Wire.lean ====
section
/-! DEFINITION. The sending side of the Corridor: contexts and ports (R347, R348, R352), packets as frames (R349-R351), injection (R372) and what a context sends
(R356-R358). -/

namespace Sys2Proof.Machine

open Sys2Proof

/-! ### Contexts and ports -/

/-- Peer context `c` (R352). -/
def State.ctx (s : State) (c : Nat) : Ctx := Sparse.get (fun _ => Ctx.free) s.fab.ctxs c

/-- A field of a context's record. -/
def Ctx.fieldAt (c : Ctx) (o n lo w : Nat) : Nat := field (hfield c.bytes o n) lo w

/-- Store context `k`. -/
def State.setCtx (s : State) (k : Nat) (c : Ctx) : State := { s with fab := { s.fab with ctxs := Sparse.set (fun _ => Ctx.free) s.fab.ctxs k c } }

/-- Change context `k`. -/
def State.modCtx (s : State) (k : Nat) (f : Ctx → Ctx) : State := s.setCtx k (f (s.ctx k))

/-- A context's port. -/
def Ctx.port (c : Ctx) : Nat := c.fieldAt 0 8 4 4
/-- A context's TAG. -/
def Ctx.tag (c : Ctx) : Nat := c.fieldAt 0 8 16 16
/-- USE: Assembly, or a peer window. -/
def Ctx.assembly (c : Ctx) : Bool := bit (hfield c.bytes 0 8) 3
/-- CREDITS. -/
def Ctx.credits (c : Ctx) : Nat := c.fieldAt 32 4 16 9
/-- EXPORT_WRITE. -/
def Ctx.exportWrite (c : Ctx) : Bool := bit (hfield c.bytes 32 4) 10
/-- Bytes of the export. -/
def Ctx.exportBytes (c : Ctx) : Nat := hfield c.bytes 36 4 * 4096
/-- The T1 address of export byte 0. -/
def Ctx.exportBase (c : Ctx) : Nat := hfield c.bytes 40 6

/-- Sequence numbers are taken modulo 2^32. -/
def psnSub (a b : Nat) : Nat := (a + 2 ^ 32 - b % 2 ^ 32) % 2 ^ 32

/-- The port mode in force. -/
def State.portMode (s : State) : Nat := s.regField Off.fabPortCfg 0 2

/-- Ports of the mode in force (R347). -/
def State.portCount (s : State) : Nat := match s.portMode with | 0 => 16 | 1 => 8 | _ => 4

/-- Rate of a port in Mb/s (R347). -/
def State.portRate (s : State) : Nat := match s.portMode with | 0 => 200000 | 1 => 400000 | _ => 800000

/-- Payload limit (FAB_CTRL.MTU). -/
def State.mtu (s : State) : Nat := 1024 * 2 ^ (s.regField Off.fabCtrl 27 2)

/-- Whether the module's ports carry traffic: FAB_CTRL.ENABLE in Day, Dusk or Night (R349, R374). -/
def State.fabricOn (s : State) : Bool := bit (s.regN Off.fabCtrl) 0 && (s.pwr.state == .day || s.pwr.state == .dusk || s.pwr.state == .night)

/-- Whether a port is up in a fabric that is on. -/
def State.portUp (s : State) (n : Nat) : Bool := s.fabricOn && marked s.fab.up n

/-- Whether a port carries traffic. -/
def State.portLive (s : State) (n : Nat) : Bool := s.portUp n && !marked s.fab.realign n

/-- FAB_CTRL.PFC. -/
def State.pfcOn (s : State) : Bool := bit (s.regN Off.fabCtrl) 1

/-- Whether a port's transmission is held: by a PFC pause, honoured only while FAB_CTRL.PFC is 1 (R348), or by its crossing, which is seen as full until it has
realigned (R396). -/
def State.portBlocked (s : State) (n : Nat) : Bool := (s.pfcOn && marked s.fab.paused n) || marked s.fab.realign n

/-! ### Packets (R350, R351) -/

/-- The 40 bytes of a Corridor header. -/
def corridorHeader (type : Nat) (last retx : Bool) (tag ctx len psn ackPsn sack credits ece arg1 arg2 : Nat) : List Byte :=
  leBytes 1 (1 + type * 16) ++ leBytes 1 (b2n last + b2n retx * 2) ++ leBytes 2 tag ++ leBytes 2 ctx ++ leBytes 2 len ++ leBytes 4 psn ++ leBytes 4 ackPsn ++
  leBytes 4 sack ++ leBytes 2 credits ++ leBytes 2 ece ++ leBytes 8 arg1 ++ leBytes 8 arg2

/-- The header bytes of a received packet of a type. -/
def packetHeader (p : Packet) (type : Nat) : List Byte :=
  corridorHeader type p.last p.retx p.tag.toNat p.ctx.toNat p.payload.length p.psn.toNat p.ackPsn.toNat p.sack.toNat p.credits.toNat p.ece.toNat
    p.arg1.toNat p.arg2.toNat

/-- Whether the CRC-32C at a packet's end holds. -/
def packetCrcOk (p : Packet) (type : Nat) : Bool := decide (p.crc.toNat = crc32c (packetHeader p type ++ p.payload))

/-! ### Frames (R356) -/

/-- The mixing steps of R276 before the final conversion. -/
def mix64 (seed count : Nat) : Nat :=
  let x := seed ^^^ (count * 0xD3A2646CAB3B1E51 % 2 ^ 64)
  let x := x ^^^ (x >>> 30)
  let x := x * 0x8F1B6C35D2A4E969 % 2 ^ 64
  let x := x ^^^ (x >>> 27)
  let x := x * 0xB5A30E7D46C1F1E3 % 2 ^ 64
  x ^^^ (x >>> 31)

/-- Packets a context holds and has not delivered. -/
def Ctx.holding (c : Ctx) : Nat := c.buf.length + c.held.length

/-- SACK: bit i says that PSN ACK_PSN + 1 + i has been received. -/
def Ctx.sack (c : Ctx) : Nat := sumN 32 (fun i => b2n (Sparse.get (fun _ => none) c.buf ((c.rxPsn + 1 + i) % 2 ^ 32)).isSome * 2 ^ i)

/-- A frame of a context with its current ACK fields (R356); its headers and CRC are set when it goes on the wire. -/
def Ctx.frame (c : Ctx) (k type : Nat) (last retx : Bool) (psn arg1 arg2 : Nat) (payload : List Byte) : WireFrame :=
  { ctx := k, type := type, last := last, retx := retx, psn := psn, ackPsn := c.rxPsn, sack := c.sack, credits := c.credits - c.holding, ece := c.ece,
    arg1 := arg1, arg2 := arg2, payload := payload, flip := none, late := false, n := 0, head := [], crc := 0 }

/-! ### Ethernet, IP and UDP headers (R349, R350) -/

/-- A big-endian field, as network headers carry it. -/
def beBytesOf (n v : Nat) : List Byte := (leBytes n v).reverse

/-- The one's complement sum of the 16-bit words of bytes, complemented. -/
def inetSum (b : List Byte) : Nat :=
  let t := sumN (ceilDiv b.length 2) (fun i => (b.getD (2 * i) 0).toNat * 256 + (b.getD (2 * i + 1) 0).toNat)
  let f := fun (n : Nat) => n / 65536 + n % 65536
  65535 - f (f (f t))

/-- The MAC address of port `n`: module identity, a free value (log entry 9). -/
def portMac (n : Nat) : Nat := Config.freeWord 349 n % 2 ^ 48

/-- The IPv4 address of a port, register byte 0 first on the wire (log entry 116). -/
def State.portIp4 (s : State) (n : Nat) : List Byte := leBytes 4 (s.regN (Off.fabPortIpv4 n))

/-- The IPv6 address of a port. -/
def State.portIp6 (s : State) (n : Nat) : List Byte := leBytes 8 (s.regN (Off.fabPortIpv6Hi n)) ++ leBytes 8 (s.regN (Off.fabPortIpv6Lo n))

/-- The Ethernet header of a context's frames: NEXT_HOP, the port's MAC, an 802.1Q tag when VLAN is set, and the EtherType. -/
def State.etherHead (s : State) (c : Ctx) : List Byte :=
  (c.bytes.drop 8).take 6 ++ leBytes 6 (portMac c.port) ++
  (if bit (hfield c.bytes 8 8) 60 then beBytesOf 2 0x8100 ++ beBytesOf 2 (s.regField Off.fabCtrl 2 3 * 8192 + c.fieldAt 8 8 48 12) else []) ++
  beBytesOf 2 (if bit (hfield c.bytes 0 8) 2 then 0x86DD else 0x0800)

/-- DSCP and ECT(0). -/
def State.trafficClass (s : State) : Nat := s.regField Off.fabCtrl 5 6 * 4 + 2

/-- The IPv4 header of a packet with `len` bytes after it: TTL 64, Don't Fragment. -/
def State.ip4Head (s : State) (c : Ctx) (len : Nat) : List Byte :=
  let h := fun (sum : Nat) => [0x45#8, BitVec.ofNat 8 s.trafficClass] ++ beBytesOf 2 (20 + len) ++ beBytesOf 2 0 ++ beBytesOf 2 0x4000 ++
    [64#8, 17#8] ++ beBytesOf 2 sum ++ s.portIp4 c.port ++ (c.bytes.drop 16).take 4
  h (inetSum (h 0))

/-- The IPv6 header of a packet with `len` bytes after it: hop limit 64. -/
def State.ip6Head (s : State) (c : Ctx) (len : Nat) : List Byte :=
  beBytesOf 4 (6 * 2 ^ 28 + s.trafficClass * 2 ^ 20) ++ beBytesOf 2 len ++ [17#8, 64#8] ++ s.portIp6 c.port ++ (c.bytes.drop 16).take 16

/-- The UDP header over `body`; the checksum is 0 over IPv4 and computed over IPv6. -/
def State.udpHead (s : State) (c : Ctx) (body : List Byte) : List Byte :=
  let h := fun (sum : Nat) => beBytesOf 2 (c.fieldAt 0 8 48 16) ++ beBytesOf 2 (s.regField Off.fabCtrl 11 16) ++ beBytesOf 2 (8 + body.length) ++ beBytesOf 2 sum
  if bit (hfield c.bytes 0 8) 2 then
    let sum := inetSum (s.portIp6 c.port ++ (c.bytes.drop 16).take 16 ++ beBytesOf 4 (8 + body.length) ++ beBytesOf 4 17 ++ h 0 ++ body)
    h (if sum = 0 then 0xFFFF else sum)
  else h 0

/-- A frame with what the module sets on transmit: the CRC-32C over the Corridor header and payload, and the headers before them (R350). -/
def State.sealFrame (s : State) (f : WireFrame) : WireFrame :=
  let c := s.ctx f.ctx
  let body := corridorHeader f.type f.last f.retx c.tag (c.fieldAt 0 8 32 12) f.payload.length f.psn f.ackPsn f.sack f.credits f.ece f.arg1 f.arg2 ++ f.payload
  let crc := crc32c body
  let body := body ++ leBytes 4 crc
  let udp := s.udpHead c body
  let len := udp.length + body.length
  { f with crc := crc, head := s.etherHead c ++ (if bit (hfield c.bytes 0 8) 2 then s.ip6Head c len else s.ip4Head c len) ++ udp }

/-- Put a frame on the wire. -/
def State.wireOut (s : State) (f : WireFrame) : State := { s with fab := { s.fab with wire := s.sealFrame f :: s.fab.wire } }.bump Off.fabTxPkts 1

/-- Hand a frame to port `n`: it waits while a pause or a realigning crossing holds the port (R348, R396). -/
def State.toPort (s : State) (n : Nat) (f : WireFrame) : State :=
  if s.portBlocked n then
    { s with fab := { s.fab with waiting := Sparse.set (fun _ => []) s.fab.waiting n (Sparse.get (fun _ => []) s.fab.waiting n ++ [f]) } }
  else s.wireOut f

/-- Whether a frame handed to port `n` is lost: the port is down, or the fabric off, and its crossing takes nothing (R357, R374). A crossing that realigns is seen as full, so
that a frame waits for it instead (R396). -/
def State.portLoses (s : State) (n : Nat) : Bool := !s.portUp n && !marked s.fab.realign n

/-- The frames that waited for port `n` go, when nothing holds it any longer; a port that is down loses them. -/
def State.flushPort (s : State) (n : Nat) : State :=
  let u := { s with fab := { s.fab with waiting := Sparse.set (fun _ => []) s.fab.waiting n [] } }
  if s.portBlocked n then s
  else if s.portLoses n then u
  else (Sparse.get (fun _ => []) s.fab.waiting n).foldl (fun s f => s.wireOut f) u

/-- The frames of context `k` that wait for its port are dropped (R353, R357). -/
def State.dropWaiting (s : State) (k : Nat) : State :=
  let n := (s.ctx k).port
  let fs := (Sparse.get (fun _ => []) s.fab.waiting n).filter (fun f => decide (f.ctx ≠ k))
  { s with fab := { s.fab with waiting := Sparse.set (fun _ => []) s.fab.waiting n fs } }

/-! ### Injection (R372) and sending (R356, R358) -/

/-- What injection does to one packet: dropped, duplicated, the bit flipped, reordered, delayed (R372). -/
structure Injection where
  drop : Bool
  dup : Bool
  flip : Option Nat
  reorder : Bool
  delay : Bool
deriving DecidableEq, Repr

/-- The injection of packet `n` of a context, of `len` payload bytes. -/
def Ctx.injection (c : Ctx) (len : Nat) : Injection :=
  let seed := field c.inj1 32 32
  let x0 := mix64 seed (2 * c.injN)
  let x1 := mix64 seed (2 * c.injN + 1)
  let hit := fun (x lo rate : Nat) => decide (field x lo 16 < rate)
  let drop := hit x0 0 (field c.inj0 0 16)
  { drop := drop, dup := !drop && hit x0 16 (field c.inj0 16 16),
    flip := if !drop && hit x0 32 (field c.inj0 32 16) then some (field x1 32 32 % (320 + 8 * len)) else none,
    reorder := !drop && hit x0 48 (field c.inj0 48 16), delay := !drop && hit x1 0 (field c.inj1 0 16) }

/-- The actions an injection takes. -/
def Injection.count (i : Injection) : Nat := b2n i.drop + b2n i.dup + b2n i.flip.isSome + b2n i.reorder + b2n i.delay

/-- Count injected actions; the first on a context writes INJECT_ACTIVE. -/
def State.noteInjection (s : State) (k n : Nat) : State :=
  if n = 0 then s
  else
    let seen := (s.ctx k).injSeen
    let s := (s.modCtx k (fun c => { c with injSeen := true })).bump Off.fabInjected n
    if seen then s else s.event 0x26 0 k 0 0

/-- Packet `m` of context `k` has gone, or is dropped: a packet before it that is sent after it follows, and so on back (R372). -/
def State.freeBehind (k : Nat) : Nat → State → Nat → State
  | 0, s, _ => s
  | j + 1, s, m =>
    let fs := (s.ctx k).reorder.filter (fun f => decide (f.n + 1 = m))
    if fs = [] then s
    else
      let s := s.modCtx k (fun c => { c with reorder := c.reorder.filter (fun f => decide (f.n + 1 ≠ m)) })
      State.freeBehind k j (fs.foldl (fun s f => s.toPort (s.ctx k).port f) s) (m - 1)

/-- The frames of packet `n` of context `k` leave its injection, the packets that were to follow it after them. -/
def State.sendOut (s : State) (k n : Nat) (fs : List WireFrame) : State :=
  let p := (s.ctx k).port
  State.freeBehind k ((s.ctx k).reorder.length) (if s.portLoses p then s else fs.foldl (fun s f => s.toPort p f) s) n

/-- Send one frame of context `k`: lost when its port is down, and subject to injection; a delay of 0 is none (R375). A dropped packet frees the one that was to follow it. -/
def State.emitFrame (s : State) (k : Nat) (f : WireFrame) : State :=
  let c := s.ctx k
  if s.portLoses c.port then s
  else
    let i := c.injection f.payload.length
    let s := (s.modCtx k (fun c => { c with injN := c.injN + 1 })).noteInjection k i.count
    let fs := (if i.dup then [f, f] else [f]).map (fun f => { f with flip := i.flip, late := i.reorder, n := c.injN })
    if i.drop then s.sendOut k c.injN []
    else if i.delay && decide (field c.inj1 16 16 ≠ 0) then s.modCtx k (fun c => { c with delayed := c.delayed ++ fs })
    else if i.reorder then s.modCtx k (fun c => { c with reorder := c.reorder ++ fs })
    else s.sendOut k c.injN fs

/-- Whether a context may send the next packet now: it is LIVE, within the remote's credit and nothing holds its port (R348, R358, R396). -/
def State.maySend (s : State) (k : Nat) : Bool :=
  let c := s.ctx k
  decide (c.state = 1) && decide (psnSub c.txPsn c.ackPsn < min c.credit 256) && !s.portBlocked c.port

/-- Send queued packets while credit lasts. -/
def State.pumpTx (k : Nat) : Nat → State → State
  | 0, s => s
  | n + 1, s =>
    match (s.ctx k).queue with
    | [] => s
    | g :: gs =>
      if s.maySend k then
        let c := s.ctx k
        let s := s.setCtx k { c with queue := gs, txPsn := (c.txPsn + 1) % 2 ^ 32, unacked := c.unacked ++ [{ psn := c.txPsn, seg := g, resent := false }] }
        State.pumpTx k n (s.emitFrame k (c.frame k g.type g.last false c.txPsn g.arg1 g.arg2 g.payload))
      else s

/-- Send what may be sent. -/
def State.pump1 (s : State) (k : Nat) : State := State.pumpTx k (s.ctx k).queue.length s

/-- Queue packets of a context and send what may be sent. -/
def State.sendSegs (s : State) (k : Nat) (gs : List Seg4) : State :=
  if (s.ctx k).state ≠ 1 then s else (s.modCtx k (fun c => { c with queue := c.queue ++ gs })).pump1 k

/-- Send an ACK (type 4) or a NAK (type 5) with a status. -/
def State.sendAckNak (s : State) (k type status : Nat) : State :=
  let c := s.ctx k
  if c.state ≠ 1 then s
  else (s.setCtx k { c with arrived := 0, ece := 0 }).emitFrame k (c.frame k type true false c.txPsn 0 status [])

/-- Retransmit a packet sent before, with the current ACK fields. -/
def State.resend (s : State) (k : Nat) (u : Unacked) : State :=
  let c := s.ctx k
  (s.bump Off.fabRetx 1).emitFrame k (c.frame k u.seg.type u.seg.last true u.psn u.seg.arg1 u.seg.arg2 u.seg.payload)

/-! ### Requests of this module's own (R209, R354) -/

/-- The packets of a WRITE to a peer's export: payloads of at most `mtu` bytes, the last marked. -/
def writeSegs (mtu off : Nat) (bs : List Byte) : List Seg4 :=
  let n := max 1 (ceilDiv bs.length mtu)
  (List.range n).map (fun j => { type := 0, last := decide (j + 1 = n), arg1 := off + mtu * j, arg2 := 0, payload := (bs.drop (mtu * j)).take mtu })

/-- Ask the peer of context `k` for `n` bytes of its export at `off`: a READ_REQ, which the READ_RESP packets answer. -/
def State.askPeer (s : State) (k off n : Nat) : State :=
  (s.modCtx k (fun c => { c with reads := c.reads ++ [(off, n)] })).sendSegs k [{ type := 1, last := true, arg1 := off, arg2 := n, payload := [] }]

/-- Write bytes to the export of context `k`'s peer at `off`. -/
def State.tellPeer (s : State) (k off : Nat) (bs : List Byte) : State := s.sendSegs k (writeSegs s.mtu off bs)

end Sys2Proof.Machine
end

