-- ==== Sys2Proof/Machine/Access.lean ====
section
/-! DEFINITION. What the Front Office's engines share: reads and writes of T1, of host and of peer memory with their checks
(R208, R209, R215, R321), quotas (R217-R219), ledger breaks (R454), the module state's events (R377) and completion statuses (R14, R15, R421). -/

namespace Sys2Proof.Machine

open Sys2Proof

/-! ### Reads and writes outside the dies -/

/-- Take in what an operation's reads of T2 and T3 met. -/
def State.absorb (s : State) (x : Ext) : State :=
  { s with mem := { s.mem with host := x.host.foldl (fun m c => Memory.write m c.1 c.2) s.mem.host,
                               peer := x.peer.foldl (fun m c => Memory.write m c.1 c.2) s.mem.peer } }

/-- Host window `n` (R207). -/
def State.window (s : State) (n : Nat) : HostWindow := Sparse.get (fun _ => HostWindow.invalid) s.mem.windows n

/-- Check an access through one host window (R208), in the order the rule gives; `tenant` none is a golden-copy read, which takes the
window's owner (R216). -/
def State.checkWindow (s : State) (tenant : Option Nat) (write : Bool) (n o len : Nat) : Nat :=
  let w := s.window n
  if !w.valid then 0x12
  else if (match tenant with | some t => decide (w.tenant ≠ t) | none => false) then 0x13
  else if write && !w.write then 0x13
  else if o + len > w.pages * 4096 then 0x11
  else 0

/-- Check an access through one peer window (R209, R354). -/
def State.checkPeer (s : State) (tenant : Option Nat) (p : Nat) : Nat :=
  let c := s.ctx p
  if c.state ≠ 1 then 0x12
  else if bit (hfield c.bytes 0 1) 3 then 0x13
  else if (match tenant with | some t => decide (c.fieldAt 32 2 0 10 ≠ t) | none => false) then 0x13
  else 0

/-- The pieces of a range that lie in one window each: address and length. -/
def pieces : Nat → Nat → Nat → List (Nat × Nat)
  | 0, _, _ => []
  | k + 1, a, n =>
    if n = 0 then []
    else
      let m := if a < hbmSize then n else min n (2 ^ 32 - a % 2 ^ 32)
      (a, m) :: pieces k (a + m) (n - m)

/-- Check an access to a range that lies in one window, or in HBM: 0 when allowed, else the status the operation takes (R191, R208, R209). -/
def State.checkPiece (s : State) (tenant : Option Nat) (write : Bool) (p : Nat × Nat) : Nat :=
  match placeOf p.1 with
  | .hbm => if p.1 + p.2 ≤ hbmSize then 0 else 0x11
  | .window w o => s.checkWindow tenant write w o p.2
  | .peer c _ => s.checkPeer tenant c
  | _ => 0x11

/-- Check an access of the Front Office to device memory: 0 when allowed, else the status the operation takes, that of the first piece refused. An access
of no bytes is checked at its address. -/
def State.checkAccess (s : State) (tenant : Option Nat) (write : Bool) (a n : Nat) : Nat :=
  if n = 0 then s.checkPiece tenant write (a, 0)
  else (pieces (n / 2 ^ 32 + 2) a n).foldl (fun st p => if st ≠ 0 then st else s.checkPiece tenant write p) 0

/-- The host address behind a window address. -/
def State.hostAddr (s : State) (n o : Nat) : Nat := (s.window n).host + o

/-- The status a peer's answers lead to: BAD_ARG or NOT_PERMITTED when it refuses, DATA_LOST for an uncorrectable sector, PEER_LOST when it stops answering (R209, R354). -/
def peerCode (x : Ext) : Nat := if x.peerStatus.toNat ∈ [0x11, 0x13, 0x30, 0x50] then x.peerStatus.toNat else 0

/-- Whose access it is: the tenant of its window checks (none: the window's owner), the tenant whose ways a T1 access fills (none: shared), and its class
(R204, R216). The tier-move engine's accesses, class 2, carry the hint STREAM, the others NORMAL (log entry 114). -/
structure Requester where
  tenant : Option Nat
  ways : Option Nat
  cls : Nat
deriving DecidableEq, Repr

/-- The hint of its T1 accesses. -/
def Requester.hint (q : Requester) : Nat := if q.cls = 2 then 1 else 0

/-- An access of the Front Office for a tenant that fills shared ways. -/
def Requester.office (tenant : Nat) : Requester := { tenant := some tenant, ways := none, cls := 0 }

/-- An access of the Front Office for a session of a tenant. -/
def Requester.session (tenant : Nat) : Requester := { tenant := some tenant, ways := some tenant, cls := 0 }

/-- An access of the tier-move engine for a request of a tenant. -/
def Requester.engine (tenant : Nat) : Requester := { tenant := some tenant, ways := some tenant, cls := 2 }

/-- Read a piece that the checks allow: its bytes, the status when the read failed, and the effects. A failed host read and an uncorrectable sector give
DATA_LOST (R215); a peer is asked by a READ_REQ, and its answer gives the status (R354). -/
def State.readPiece (s : State) (q : Requester) (x : Ext) (a n : Nat) : List Byte × Nat × State :=
  match placeOf a with
  | .hbm =>
    let (bs, bad, s) := s.t1Read q.cls q.hint q.ways a n
    (bs, if bad = [] then 0 else 0x30, s)
  | .window w o => (Memory.readN s.mem.host (s.hostAddr w o) n, if x.hostFail then 0x30 else 0, s)
  | .peer p o => (Memory.readN s.mem.peer a n, (peerCode x), s.askPeer p o n)
  | _ => (List.replicate n 0, 0x11, s)

/-- Read the pieces of a range. -/
def State.readPieces (s : State) (q : Requester) (x : Ext) : List (Nat × Nat) → List Byte × Nat × State
  | [] => ([], 0, s)
  | p :: ps =>
    let (bs, st, s) := s.readPiece q x p.1 p.2
    let (rest, st', s) := State.readPieces s q x ps
    (bs ++ rest, if st ≠ 0 then st else st', s)

/-- Read `n` bytes for an operation: bytes, status (0 when good) and the effects. -/
def State.outRead (s : State) (q : Requester) (x : Ext) (a n : Nat) : List Byte × Nat × State :=
  let st := s.checkAccess q.tenant false a n
  if st ≠ 0 then (List.replicate n 0, st, s) else s.readPieces q x (pieces (n / 2 ^ 32 + 2) a n)

/-- Write a piece that the checks allow: T1 sectors left as stored make the write DATA_LOST (R202), host writes are posted, and a peer's answer gives the
status of a write of its export. -/
def State.writePiece (s : State) (q : Requester) (x : Ext) (a : Nat) (bs : List Byte) : Nat × State :=
  match placeOf a with
  | .hbm =>
    let (bad, s) := s.t1Write q.cls q.hint q.ways a bs
    (if bad = [] then 0 else 0x30, s)
  | .window w o => (0, s.hostWrite (s.hostAddr w o) bs)
  | .peer p o =>
    let s := s.tellPeer p o bs
    ((peerCode x), if (peerCode x) = 0 then { s with mem := { s.mem with peer := Memory.writeN s.mem.peer a bs } } else s)
  | _ => (0, s)

/-- Write the pieces of a range. -/
def State.writePieces (s : State) (q : Requester) (x : Ext) : List (Nat × Nat) → List Byte → Nat × State
  | [], _ => (0, s)
  | p :: ps, bs =>
    let (st, s) := s.writePiece q x p.1 (bs.take p.2)
    let (st', s) := State.writePieces s q x ps (bs.drop p.2)
    (if st ≠ 0 then st else st', s)

/-- Write bytes for an operation whose range the checks allow. -/
def State.outWrite (s : State) (q : Requester) (x : Ext) (a : Nat) (bs : List Byte) : Nat × State :=
  s.writePieces q x (pieces (bs.length / 2 ^ 32 + 2) a bs.length) bs

/-- Read a unit and check it; one that fails is read again once (R215). The answer is what the check gave, or the status of the failure. -/
def State.readTwice {α : Type} (s : State) (read : State → Except Nat α × State) : Except Nat α × State :=
  match read s with
  | (.ok a, s) => (.ok a, s)
  | (.error _, s) => read s

/-! ### Ranges of resident images (R286) -/

/-- Whether two ranges of bytes overlap. -/
def rangesMeet (a n b m : Nat) : Bool := decide (n > 0 ∧ m > 0 ∧ a < b + m ∧ b < a + n)

/-- Whether a range overlaps a span of an image placed at `base`. -/
def Image.meets (i : Image) (base a n : Nat) : Bool := i.spans.any (fun p => rangesMeet a n (base + p.dest) p.length)

/-- Whether an address lies in a host window. -/
def reachesHost (a : Nat) : Bool := match placeOf a with | .window _ _ => true | _ => false

/-- Whether a range overlaps a resident image or version (R286). -/
def State.meetsImage (s : State) (a n : Nat) : Bool :=
  s.mdl.slots.any (fun e => e.2.occupied && (match e.2.img with | some i => i.meets 0 a n | none => false)) ||
  s.mdl.vers.any (fun e => e.2.occupied && (match e.2.img with | some i => i.meets e.2.base a n | none => false))

/-! ### Ledger breaks (R454) -/

/-- A change that would break a ledger is not made: the count, ERR_LEDGER_INFO and the INTERNAL event. -/
def State.ledgerBreak (s : State) (code idx : Nat) : State :=
  let d := code + idx % 2 ^ 32 * 2 ^ 16
  ((s.bump Off.errLedger 1).setReg Off.errLedgerInfo (BitVec.ofNat 64 (d + 2 ^ 48))).event 0x0B 0x7F 0x30000 d 0

/-! ### Quotas (R217-R219) -/

/-- Tenant `t`'s quota record. -/
def State.quota (s : State) (t : Nat) : Quota := Sparse.get (fun _ => Quota.zero) s.mem.quotas t

/-- Store a quota record. -/
def State.setQuota (s : State) (t : Nat) (q : Quota) : State :=
  { s with mem := { s.mem with quotas := Sparse.set (fun _ => Quota.zero) s.mem.quotas t q } }

/-- Charge one T1 page: whether the charge is made. -/
def State.chargePage (s : State) (t : Nat) : Bool × State :=
  let q := s.quota t
  if q.pageUsed + 1 > q.pageLimit then (false, s) else (true, s.setQuota t { q with pageUsed := q.pageUsed + 1 })

/-- Release one T1 page. -/
def State.releasePage (s : State) (t : Nat) : State :=
  let q := s.quota t
  if q.pageUsed = 0 then s.ledgerBreak 0x0C t else s.setQuota t { q with pageUsed := q.pageUsed - 1 }

/-- Charge T2 bytes. -/
def State.chargeT2 (s : State) (t n : Nat) : Bool × State :=
  let q := s.quota t
  if q.t2Used + n > q.t2Limit then (false, s) else (true, s.setQuota t { q with t2Used := q.t2Used + n })

/-- Release T2 bytes. -/
def State.releaseT2 (s : State) (t n : Nat) : State :=
  let q := s.quota t
  if q.t2Used < n then s.ledgerBreak 0x0D t else s.setQuota t { q with t2Used := q.t2Used - n }

/-- Charge a Margin-set version. -/
def State.chargeMargin (s : State) (t : Nat) : Bool × State :=
  let q := s.quota t
  if q.marginUsed + 1 > q.marginLimit then (false, s) else (true, s.setQuota t { q with marginUsed := q.marginUsed + 1 })

/-- Release a Margin-set version. -/
def State.releaseMargin (s : State) (t : Nat) : State :=
  let q := s.quota t
  if q.marginUsed = 0 then s.ledgerBreak 0x0E t else s.setQuota t { q with marginUsed := q.marginUsed - 1 }

/-! ### Statuses and module states -/

/-- The statuses of checks in their order (R15): the first nonzero one. -/
def firstStatus (l : List Nat) : Nat := match l.find? (fun x => x ≠ 0) with | some x => x | none => 0

/-- The status of an operation that meets the conditions of these statuses together, those of its window accesses among them: the first in the order of R15, 0 when none (log
entry 118). -/
def inOrder15 (l : List Nat) : Nat := ([0x10, 0x13, 0x12, 0x11, 0x01, 0x20, 0x21].find? (fun x => l.contains x)).getD 0

/-- The status when `c` holds. -/
def failIf (c : Bool) (st : Nat) : Nat := if c then st else 0

/-- Move to a module state with its STATE_CHANGED event and trigger (R377, R402). -/
def State.enter (s : State) (m : ModState) (trigger : Nat) : State :=
  let old := s.pwr.state.code
  { s with pwr := { s.pwr with state := m } }.event 0x30 0 m.code old trigger

/-- Whether the Wings' clocks run (R376). -/
def State.clocked (s : State) : Bool :=
  s.pwr.state == .morning || s.pwr.state == .day || s.pwr.state == .dusk

/-- Whether a MEM or LIB commit is pending: no step starts and no new unit moves (R401). -/
def State.memCommitPending (s : State) : Bool := [2, 4, 5, 6, 7].any (fun g => marked s.commits g)

end Sys2Proof.Machine
end

