-- ==== Sys2Proof/Machine/Kv.lean ====
section
/-! DEFINITION. The page allocator: page slots and records, references, head records and key maps, Tray flushes and summary keys
(R222-R225, R230, R238, R239, R242, R244, R255, R261-R264, R285, R451-R455, R459). -/

namespace Sys2Proof.Machine

open Sys2Proof

/-! ### Page slots (R223, R332) -/

/-- The key of slot `k` of Wing `w` in the table of used slots. -/
def slotKey (w k : Nat) : Nat := 2 ^ 25 * w + k

/-- Slots of Wing `w`'s pool. -/
def State.slotCount (s : State) (w : Nat) : Nat := match s.srv.pool with | some p => 2 ^ p.log2s.getD w 0 | none => 0

/-- The key of a slot in the table of quarantined records, pages and slots (R454). -/
def lostSlotKey (w k : Nat) : Nat := 2 ^ 28 + slotKey w k

/-- Whether slot `k` of Wing `w` may not be issued: it holds a page, or a ledger break has quarantined it (R454). -/
def State.slotTaken (s : State) (w k : Nat) : Bool := marked s.srv.usedSlots (slotKey w k) || marked s.srv.quarantine (lostSlotKey w k)

/-- Free page slots of Wing `w` (SRV_KV_FREEw). -/
def State.freeSlots (s : State) (w : Nat) : Nat :=
  s.slotCount w - (s.srv.usedSlots.filter (fun e => decide (e.1 / 2 ^ 25 = w))).length -
    (s.srv.quarantine.filter (fun e => decide (e.1 / 2 ^ 25 = w + 8))).length

/-- The lowest free slot of Wing `w`, or of a free pair for head dimension 256 (R332). -/
def State.findSlot (s : State) (w : Nat) (pair : Bool) : Option Nat :=
  let used := fun k => s.slotTaken w k
  let n := s.slotCount w
  let fuel := min n (2 * (s.srv.usedSlots.length + s.srv.quarantine.length) + 2)
  if pair then firstIdx fuel (fun k => decide (k % 2 = 0) && decide (k + 1 < n) && !used k && !used (k + 1))
  else firstIdx fuel (fun k => !used k)

/-- Mark the slots of a page in Wing `w` from slot `k`. -/
def State.markSlot (s : State) (w k : Nat) (pair used : Bool) : State :=
  let m := setMark s.srv.usedSlots (slotKey w k) used
  { s with srv := { s.srv with usedSlots := if pair then setMark m (slotKey w (k + 1)) used else m } }

/-- The address of slot `k` of Wing `w`. -/
def State.slotAddr (s : State) (w k : Nat) : Nat := (match s.srv.pool with | some p => p.bases.getD w 0 | none => 0) + 16384 * k

/-- The Wing and slot of a payload address. -/
def State.slotOf (s : State) (a : Nat) : Option (Nat × Nat) :=
  match s.srv.pool with
  | none => none
  | some p =>
    (List.range 4).findSome? (fun w =>
      let b := p.bases.getD w 0
      if b ≤ a ∧ a < b + 16384 * 2 ^ p.log2s.getD w 0 then some (w, (a - b) / 16384) else none)

/-- Quarantine what a ledger break leaves unaccounted, by its key: it is never issued again before a full reset (R454). -/
def State.quarantineKey (s : State) (key : Nat) : State :=
  if marked s.srv.quarantine key then s
  else { s.bump Off.errQuarantined 1 with srv := { s.srv with quarantine := setMark s.srv.quarantine key true } }

/-- Return one slot to its Wing's pool; a slot that holds no page is a ledger break, which quarantines it (R452, R454). -/
def State.freeOne (s : State) (w k : Nat) : State :=
  if marked s.srv.usedSlots (slotKey w k) then s.markSlot w k false false
  else (s.ledgerBreak 0x05 (w * 2 ^ 26 + k)).quarantineKey (lostSlotKey w k)

/-- Return a page's slots to its Wing's pool: two for head dimension 256 (R332). -/
def State.freeSlot (s : State) (a : Nat) (pair : Bool) : State :=
  match s.slotOf a with
  | some (w, k) => if pair then (s.freeOne w k).freeOne w (k + 1) else s.freeOne w k
  | none => s

/-! ### Allocation and release (R224, R225, R255) -/

/-- What asking for a page gives. -/
inductive Alloc where
  | refused
  | full
  | page (n : Nat)
deriving DecidableEq, Repr

/-- A FREE page record that may be issued: one that was given up reads as LOST (R244, R459). -/
def State.freeRecord (s : State) : Option Nat := firstIdx s.pageCount (fun n => decide ((s.page n).state = 0))

/-- K_SCALE and V_SCALE of a layer and KV head from the slot's KV scale table (R285): none when it cannot be read. -/
def State.kvScales (s : State) (i : Image) (layer h : Nat) : Option (Nat × Nat) × State :=
  match i.spans.find? (fun p => p.kind == 0x03) with
  | none => (some (0, 0), s)
  | some p =>
    let (bs, bad, s) := s.foRead (p.dest + 4 * (layer * i.kvHeads + h)) 4
    (if bad = [] then some (hfield bs 0 2, hfield bs 2 2) else none, s)

/-- Allocate a page for a layer and KV head: first the charge, then a record and a slot (R255). -/
def State.allocPage (s : State) (i : Image) (tenant layer h ordinal state : Nat) : Alloc × State :=
  let (ok, c) := s.chargePage tenant
  if !ok then (.refused, s)
  else
    let w := i.headWing h
    match c.findSlot w i.d256, c.freeRecord, c.kvScales i layer h with
    | some k, some n, (some (ks, vs), c) =>
      let r : PageRec := { state := state, tier := 0, head := i.d256, tree := false, fill := 0, trayn := 0, refs := 1, kscale := ks, vscale := vs,
                           score := 0, addr := c.slotAddr w k, tenant := tenant, layer := layer, kvhead := h, ordinal := ordinal,
                           summary := noPage, sumslot := ordinal % 64, step := c.srv.step % 2 ^ 32 }
      (.page n, (c.markSlot w k i.d256 true).setPage n r)
    | _, _, _ => (.full, s)

/-- A page's REFS has reached 0: FREE, its slot back in the pool, its charge released (R225); a LOST page's slot never returns (R244). -/
def State.pageFree (s : State) (n : Nat) (r : PageRec) : State :=
  let s := s.setPage n { r with state := 0, refs := 0, tree := false }
  let s := if r.state = 4 ∨ r.tier ≠ 0 then s else s.freeSlot r.addr r.head
  if r.tier = 0 then s.releasePage r.tenant else s

/-- Lower REFS of page `n` (R225, R454). A record that cannot be read keeps its references: its number is not issued again (R244). One without a reference to
lower is a ledger break: it is not freed again, and one that is not FREE is quarantined, as no name leads to it. -/
def State.dropRef (s : State) (n : Nat) : State :=
  if n ≥ s.pageCount then s
  else
    let s := s.lookPage n 0
    let r := s.page n
    if s.pageGone n then s
    else if r.state = 0 then s.ledgerBreak 0x07 n
    else if r.refs = 0 then (s.ledgerBreak 0x07 n).quarantineKey (65536 + n)
    else if r.refs = 1 then s.pageFree n r
    else s.setPage n { r with refs := r.refs - 1 }

/-- Raise REFS of page `n`; a count at its largest stays, as a ledger break (R246, R454). -/
def State.addRef (s : State) (n : Nat) : State :=
  if n ≥ s.pageCount then s
  else
    let s := s.lookPage n 0
    let r := s.page n
    if r.refs ≥ 2 ^ 32 - 1 then s.ledgerBreak 0x07 n else s.setPage n { r with refs := r.refs + 1 }

/-! ### Head records (R262, R264) -/

/-- The bytes at a head-record address as the Front Office knows them: a change not yet written, else memory. -/
def State.headBytes (s : State) (a n : Nat) : List Byte :=
  match s.srv.headW.reverse.find? (fun e => e.1 == a && e.2.length == n) with
  | some e => e.2
  | none => s.hbmBytes a n

/-- Change bytes of a head record; they are written before the next step's start records (R264). -/
def State.putHead (s : State) (a : Nat) (bs : List Byte) : State :=
  { s with srv := { s.srv with headW := s.srv.headW.filter (fun e => !(e.1 == a && e.2.length == bs.length)) ++ [(a, bs)] } }

/-- The page number of ordinal `p` in a head record. -/
def State.pageNo (s : State) (hr p : Nat) : Nat := leNat (s.headBytes (hr + 4 * p) 4)

/-- Name a page, or a hole. -/
def State.namePage (s : State) (hr p n : Nat) : State := s.putHead (hr + 4 * p) (leBytes 4 n)

/-- The number of summary page `q` of a head record. -/
def State.summaryNo (s : State) (hr q : Nat) : Nat := leNat (s.headBytes (hr + 7168 + 4 * q) 4)

/-- Name a summary page. -/
def State.nameSummary (s : State) (hr q n : Nat) : State := s.putHead (hr + 7168 + 4 * q) (leBytes 4 n)

/-- Every layer and KV head of an image, in the order (layer * H + h). -/
def Image.grid (i : Image) : List (Nat × Nat) := (List.range i.layers).flatMap (fun l => (List.range i.kvHeads).map (fun h => (l, h)))

/-- The parts of a head record that name pages and hold key maps, as offset and length: its share records lie between (R262). -/
def headParts : List (Nat × Nat) := [(0, 5120), (7168, 80)]

/-- Whether a head record's names and key maps cannot be read by the Front Office (R459). -/
def State.headBad (s : State) (hr : Nat) : Bool := headParts.any (fun p => (sectors (hr + p.1) p.2).any (fun x => s.sectorBad x))

/-- Page-table ordinals a session names in each head record: its committed pages and a fresh open page. -/
def State.ordinals (s : State) (k : Nat) (r : SessRec) : Nat :=
  if r.position % 64 = 0 ∧ marked s.srv.fresh k then r.position / 64 + 1 else ceilDiv r.position 64

/-- Summary pages a context of `n` pages may have. -/
def summaryCount (n : Nat) : Nat := min 8 (ceilDiv n 64)

/-- The words of a head record that name pages: those of the page table, then the summary pages. -/
def State.headNames (s : State) (k : Nat) (r : SessRec) (hr : Nat) : List Nat :=
  let n := s.ordinals k r
  (List.range n).map (fun p => s.pageNo hr p) ++ (List.range (summaryCount n)).map (fun q => s.summaryNo hr q)

/-- Every page a session names: those of its page tables and its summary pages; holes left out. -/
def State.namedPages (s : State) (k : Nat) (r : SessRec) : List Nat :=
  match s.image r.model with
  | none => []
  | some i => (i.grid.flatMap (fun lh => s.headNames k r (headRec r i lh.1 lh.2))).filter (fun n => decide (n < s.pageCount))

/-- The Front Office reads the names and key maps of a session's head record (R198, R204, R216). -/
def State.lookHead (s : State) (r : SessRec) (hr : Nat) : State :=
  headParts.foldl (fun s p => (s.foReadFor (some r.tenant) (hr + p.1) p.2).2.2) s

/-- Release every page reference of session `k`: the name first, then REFS (R455). An unreadable head record's references leak (R459). -/
def State.releasePages (s : State) (k : Nat) (r : SessRec) : State :=
  match s.image r.model with
  | none => s
  | some i =>
    let n := s.ordinals k r
    let s := i.grid.foldl (fun s lh =>
      let hr := headRec r i lh.1 lh.2
      let s := s.lookHead r hr
      if s.headBad hr then s.bump Off.errQuarantined (n + summaryCount n) else (s.headNames k r hr).foldl (fun s n => s.dropRef n) s) s
    { s with srv := { s.srv with fresh := setMark s.srv.fresh k false,
                                 headW := s.srv.headW.filter (fun e => !decide (r.kvmap ≤ e.1 ∧ e.1 < r.kvmap + 8192 * i.layers * i.kvHeads)),
                                 noCoarse := s.srv.noCoarse.filter (fun e => decide (e.1 / 2048 ≠ k)) } }

/-! ### Key maps (R230, R243, R264) -/

/-- A key map of eight slots with the COUNT and POS0 of each. -/
def keyMap (f : Nat → Nat × Nat) : List Byte :=
  (List.range 8).flatMap (fun j => leBytes 1 (f j).1) ++ (List.range 8).flatMap (fun j => leBytes 4 (f j).2) ++ List.replicate 8 0

/-- Write a key map where it differs from what stands there. -/
def State.putMap (s : State) (a : Nat) (m : List Byte) : State := if s.headBytes a 48 = m then s else s.putHead a m

/-- COUNT and POS0 of the key-map slot of page ordinal `p` for a context of `len` positions, new ones included: a hole and padding have COUNT 0. -/
def State.slotKeys (s : State) (hr len p : Nat) : Nat × Nat :=
  if 64 * p < len then (if s.pageNo hr p = noPage then 0 else min 64 (len - 64 * p), 64 * p) else (0, 0)

/-- Write the key maps of a head record for `n` blocks, whose slot `j` serves what `f j` says. -/
def State.putMaps (s : State) (hr n : Nat) (f : Nat → Nat × Nat) : State :=
  (List.range n).foldl (fun s b => s.putMap (hr + 2048 + 48 * b) (keyMap (fun j => f (8 * b + j)))) s

/-- The key map of a head record's summary pages: the keys of the first `sinks` and the last `win` FULL pages are masked (R242). -/
def State.putSummaryMap (s : State) (hr full sinks win : Nat) : State :=
  let f := fun j =>
    let lo := 64 * j
    let hi := min (64 * (j + 1)) (full - win)
    (hi - lo, (min sinks (64 * (j + 1))) - lo)
  s.putMap (hr + 7200) (keyMap f)

/-! ### Coarse index (R242) -/

/-- The key of a session's layer and head in the table of those that stopped using the coarse index. -/
def coarseKey (k layer h : Nat) : Nat := 2048 * k + 16 * layer + h

/-- Stop using the coarse index for a layer and head. -/
def State.stopCoarse (s : State) (k layer h : Nat) : State :=
  { s with srv := { s.srv with noCoarse := setMark s.srv.noCoarse (coarseKey k layer h) true } }

/-- The summary key of a page: the mean of its 64 K rows, ties to even. -/
def summaryKey (k : List Byte) (d : Nat) : List Byte :=
  (List.range d).map (fun j => BitVec.ofInt 8 (rneShiftInt (sumZ 64 (fun i => signed 8 (k.getD (d * i + j) 0).toNat)) 6))

/-- The summary page of a session's head record for the page at `ordinal`, allocated when that page is the first of its 64 to become FULL (R242); none when it
cannot be had, which stops the coarse index for the layer and head. -/
def State.summaryPage (s : State) (k : Nat) (r : SessRec) (i : Image) (layer h ordinal : Nat) : Option Nat × State :=
  let hr := headRec r i layer h
  let q := ordinal / 64
  let m := s.summaryNo hr q
  if m ≠ noPage then
    let s := s.lookPage m r.handle
    if (s.page m).state = 3 then (some m, s) else (none, s.stopCoarse k layer h)
  else if ordinal % 64 ≠ 0 then (none, s.stopCoarse k layer h)
  else
    match s.allocPage i r.tenant layer h q 3 with
    | (.page m, s) => (some m, s.nameSummary hr q m)
    | (_, s) => (none, s.stopCoarse k layer h)

/-- Write the summary key of FULL page `n` at `ordinal` into the session's summary page (R242). The answer says whether the page's K part could not be
read, so that there is no key (R199, R461). -/
def State.writeSummary (s : State) (k : Nat) (r : SessRec) (i : Image) (layer h n ordinal : Nat) (own : Bool) : Bool × State :=
  if ordinal / 64 ≥ 8 then (false, s)
  else
    match s.summaryPage k r i layer h ordinal with
    | (none, s) => (false, s)
    | (some m, s) =>
      let (key, lost, s) := s.foReadFor (some r.tenant) (s.page n).addr (64 * i.d)
      if lost ≠ [] then (true, s)
      else
        let (bad, s) := s.foWriteFor (some r.tenant) ((s.page m).addr + i.d * (ordinal % 64)) (summaryKey key i.d)
        if bad ≠ [] then (false, (s.losePage m r.handle).stopCoarse k layer h)
        else (false, if own then s.setPage n { s.page n with summary := m, sumslot := ordinal % 64 } else s)

/-! ### Tray flushes (R239) -/

/-- Where the bytes of `n` Tray positions lie in a Tray at `o` of depth `td`: the K rows, then the V rows. -/
def trayRuns (o d td n : Nat) : List (Nat × Nat) := (o, d * n) :: (List.range d).map (fun j => (o + td * d + td * j, n))

/-- Where the flushed bytes go in a page's slot at `a`, from position `tb` on (R222). -/
def pageRuns (a d tb : Nat) : List Nat := (a + d * tb) :: (List.range d).map (fun j => a + 64 * d + 64 * j + tb)

/-- Whether any of the writes left a sector as stored. -/
def State.putRuns (s : State) (tenant : Nat) : List (Nat × List Byte) → Bool × State
  | [] => (false, s)
  | r :: rs =>
    let (bad, s) := s.foWriteFor (some tenant) r.1 r.2
    let (b, s) := State.putRuns s tenant rs
    (bad ≠ [] || b, s)

/-- The ordinal of the page that holds a session's last committed position. -/
def SessRec.lastPage (r : SessRec) : Nat := r.position / 64 - b2n (decide (r.position % 64 = 0 ∧ r.position > 0))

end Sys2Proof.Machine
end

