-- ==== Sys2Proof/Machine/Prefix.lean ====
section
/-! DEFINITION. The prefix tree: nodes, hashes, walks, publishing, trimming, release and bucket rebuilds (R265-R269, R290, R295, R459, R460). -/

namespace Sys2Proof.Machine

open Sys2Proof

/-! ### Node records (R265) -/

/-- A prefix node's fields. STATE: 0 FREE, 1 LIVE, 2 LOST. -/
structure NodeRec where
  hash : Nat
  parent : Nat
  next : Nat
  depth : Nat
  domain : Nat
  model : Nat
  state : Nat
  users : Nat
  children : Nat
  last : Nat
  mset : Nat
  tenant : Nat
deriving DecidableEq, Repr

/-- Read a node's bytes. -/
def readNode (b : List Byte) : NodeRec :=
  { hash := hfield b 0 8, parent := hfield b 8 4, next := hfield b 12 4, depth := hfield b 16 4, domain := hfield b 20 2,
    model := hfield b 22 1 % 64, state := hfield b 22 1 / 64, users := hfield b 24 4, children := hfield b 28 4, last := hfield b 32 8,
    mset := hfield b 40 2, tenant := hfield b 42 2 % 1024 }

/-- A node's 128 bytes. -/
def nodeBytes (r : NodeRec) : List Byte :=
  leBytes 8 r.hash ++ leBytes 4 r.parent ++ leBytes 4 r.next ++ leBytes 4 r.depth ++ leBytes 2 r.domain ++
  leBytes 1 (r.model + 64 * r.state) ++ leBytes 1 0 ++ leBytes 4 r.users ++ leBytes 4 r.children ++ leBytes 8 r.last ++
  leBytes 2 r.mset ++ leBytes 2 r.tenant ++ List.replicate 84 0

/-- Node `n` as stored. -/
def State.node (s : State) (n : Nat) : NodeRec := readNode (s.hbmBytes (s.nodeAddr n) 128)
/-- Whether node `n`'s record reads as uncorrectable. -/
def State.nodeBad (s : State) (n : Nat) : Bool := (sectors (s.nodeAddr n) 128).any (fun x => s.sectorBad x)
/-- Write node `n`; a quarantined or unreadable one keeps what it holds (R459). -/
def State.setNode (s : State) (n : Nat) (r : NodeRec) : State :=
  if marked s.srv.deadNodes n || s.nodeBad n then s else s.foPut (s.nodeAddr n) (nodeBytes r)
/-- Whether node `n` may be used at all. -/
def State.nodeUsable (s : State) (n : Nat) : Bool := decide (n < s.nodeCount) && !marked s.srv.deadNodes n && !s.nodeBad n
/-- The head of a bucket's chain. -/
def State.bucketHead (s : State) (b : Nat) : Nat := s.hbmLE (s.bucketAddr b) 4
/-- A page number in a node's extension. -/
def State.nodePage (s : State) (n x : Nat) : Nat := s.hbmLE (s.extAddr n + 256 + 4 * x) 4
/-- The tokens of a node's block. -/
def State.nodeTokens (s : State) (n : Nat) : List Nat := (List.range 64).map (fun t => s.hbmLE (s.extAddr n + 4 * t) 4)
/-- The Front Office reads node `n`'s extension over `m` pages (R198, R204). -/
def State.lookExt (s : State) (n m : Nat) : State := s.foTouch (s.extAddr n) (256 + 4 * m)
/-- Whether a node's extension reads as uncorrectable over `m` pages. -/
def State.extBad (s : State) (n m : Nat) : Bool := (sectors (s.extAddr n) (256 + 4 * m)).any (fun x => s.sectorBad x)

/-- Pages of a node: layers times KV heads of its model. -/
def State.nodePages (s : State) (r : NodeRec) : Nat := match s.image r.model with | some i => i.layers * i.kvHeads | none => 0

/-! ### Failures (R459, R460) -/

/-- Queue a bucket for a rebuild, in bucket order. -/
def State.queueRebuild (s : State) (b : Nat) : State :=
  if s.srv.rebuild.contains b then s
  else { s with srv := { s.srv with rebuild := s.srv.rebuild.filter (fun x => decide (x < b)) ++ [b] ++ s.srv.rebuild.filter (fun x => decide (b < x)),
                                    rebuilding := setMark s.srv.rebuilding b true } }

/-- An uncorrectable node record: the node is quarantined, its pages leak, its bucket is rebuilt. -/
def State.quarantineNode (s : State) (n : Nat) : State :=
  if marked s.srv.deadNodes n then s
  else
    let r := s.node n
    let s := { s with srv := { s.srv with deadNodes := setMark s.srv.deadNodes n true } }
    (s.bump Off.errQuarantined (1 + s.nodePages r)).queueRebuild (if s.bucketCount = 0 then 0 else r.hash % s.bucketCount)

/-- The Front Office reads node `n`'s record (R198, R204): an unreadable one is quarantined. -/
def State.lookNode (s : State) (n : Nat) : State :=
  if n ≥ s.nodeCount ∨ marked s.srv.deadNodes n then s
  else
    let s := s.foTouch (s.nodeAddr n) 128
    if s.nodeBad n then s.quarantineNode n else s

/-- Write a bucket's head; one whose sector cannot be read is rebuilt (R202, R459). -/
def State.putBucket (s : State) (b n : Nat) : State :=
  let (bad, s) := s.foWrite (s.bucketAddr b) (leBytes 4 n)
  if bad = [] then s else s.queueRebuild b

/-! ### Counts kept by nodes -/

/-- Version NODES falls by one (R292, R454). -/
def State.dropVersionNode (s : State) (v : Nat) : State :=
  if v = 0xFFFF then s
  else
    let x := s.verRec v
    if x.nodes = 0 then s.ledgerBreak 0x09 v else s.setVer v { x with nodes := x.nodes - 1 }

/-- A RETIRING or LOST version without pins and nodes becomes EMPTY (R295, R299). -/
def State.retire (s : State) (v : Nat) : State :=
  let x := s.verRec v
  if (x.state = .retiring ∨ x.state = .lost) ∧ x.pins = 0 ∧ x.nodes = 0 then
    ((s.setVer v VerRec.empty).releaseMargin x.tenant).bump Off.srvMsetRetired 1
  else s

/-- A parent's CHILDREN falls by one. -/
def State.dropChild (s : State) (p : Nat) : State :=
  if p = noPage then s
  else
    let s := s.lookNode p
    let r := s.node p
    if !s.nodeUsable p then s
    else if r.children = 0 then s.ledgerBreak 0x0A p else s.setNode p { r with children := r.children - 1 }

/-- Look along a chain; an unreadable node ends the search and is quarantined. -/
def State.chainFind (s : State) (p : NodeRec → Bool) : Nat → Nat → Option Nat × State
  | 0, _ => (none, s)
  | k + 1, n =>
    if n ≥ s.nodeCount then (none, s)
    else
      let s := s.lookNode n
      if marked s.srv.deadNodes n then (none, s)
      else if p (s.node n) then (some n, s)
      else State.chainFind s p k (s.node n).next

/-- Take a node out of its bucket's chain: the walker reads along it. A bucket whose head cannot be read is rebuilt instead, which leaves the node out (R460). -/
def State.unlink (s : State) (n : Nat) (r : NodeRec) : State :=
  let b := r.hash % max 1 s.bucketCount
  if marked s.srv.rebuilding b then s
  else
    let (_, bad, s) := s.foRead (s.bucketAddr b) 4
    if bad ≠ [] then s.queueRebuild b
    else if s.bucketHead b = n then s.putBucket b r.next
    else
      match s.chainFind (fun x => x.next == n) s.nodeCount (s.bucketHead b) with
      | (some m, s) => s.setNode m { s.node m with next := r.next }
      | (none, s) => s

/-- Free a node (R269): TREE cleared on its pages, unlinked, its parent's CHILDREN and its version's NODES lowered when it was LIVE. CHILDREN of its own stays
until they are freed. -/
def State.freeNode (s : State) (n : Nat) : State :=
  let r := s.node n
  let m := s.nodePages r
  let s := (s.unlink n r).lookExt n m
  let s := if s.extBad n m then s.bump Off.errQuarantined m
    else (List.range m).foldl (fun s x =>
      let p := s.nodePage n x
      if p < s.pageCount then (s.setPage p { s.page p with tree := false }).dropRef p else s) s
  let s := if r.state = 1 then (s.dropChild r.parent).dropVersionNode r.mset else s
  let s := (s.setNode n { r with state := 0, users := 0 }).bump Off.srvPrefixTrimmed 1
  if r.mset = 0xFFFF then s else s.retire r.mset

/-- A LIVE node becomes LOST: it matches nothing, and is freed when its USERS is 0 (R269). -/
def State.loseNode (s : State) (n : Nat) : State :=
  let r := s.node n
  if r.state ≠ 1 then s
  else
    let s := ((s.setNode n { r with state := 2 }).dropChild r.parent).dropVersionNode r.mset
    if r.users = 0 then s.freeNode n else if r.mset = 0xFFFF then s else s.retire r.mset

/-- A page with TREE set was lost: the tree drops the nodes that hold it (R244). -/
def State.dropNodesOf (s : State) (p : Nat) : State :=
  (List.range s.nodeCount).foldl (fun s n =>
    let r := s.node n
    if r.state = 1 ∧ s.nodeUsable n ∧ (List.range (s.nodePages r)).any (fun x => s.nodePage n x == p) then s.loseNode n else s) s

/-- A page becomes LOST, and the tree drops the nodes that hold it (R244). -/
def State.losePageTree (s : State) (n handle : Nat) : State :=
  let tree := (s.page n).tree
  let s := s.losePage n handle
  if tree then s.dropNodesOf n else s

/-- USERS of one node falls by one; a release on a quarantined node is skipped. -/
def State.dropUser (s : State) (n : Nat) : State :=
  let s := s.lookNode n
  let r := s.node n
  if !s.nodeUsable n then s
  else
    if r.users = 0 then s.ledgerBreak 0x0A n
    else
      let s := s.setNode n { r with users := r.users - 1 }
      if r.state = 2 ∧ r.users = 1 then s.freeNode n else s

/-- A node and its ancestors, deepest first. -/
def State.ancestry (s : State) : Nat → Nat → List Nat
  | 0, _ => []
  | k + 1, n => if n = noPage ∨ n ≥ s.nodeCount then [] else n :: State.ancestry s k (s.node n).parent

/-- Release the nodes a session holds (R269). -/
def State.releaseNodes (s : State) (n : Nat) : State := (s.ancestry 512 n).foldl (fun s m => s.dropUser m) s

/-! ### Hashes and walks (R266, R267) -/

/-- The seed of a chain. -/
def hashSeed (domain mset model : Nat) : Nat := (domain * 2 ^ 32 + (mset % 65536) * 256 + model) % 2 ^ 64

/-- Mix one token into the hash. -/
def hashToken (h t : Nat) : Nat :=
  let h := (h ^^^ t) * 0x8F1B6C35D2A4E969 % 2 ^ 64
  h ^^^ (h >>> 29)

/-- The hash of a block after the hash `h` of the block before it (the seed before block 0). -/
def blockHash (h : Nat) (tokens : List Nat) : Nat :=
  let h := tokens.foldl hashToken h
  let h := (h ^^^ (h >>> 32)) * 0xB5A30E7D46C1F1E3 % 2 ^ 64
  h ^^^ (h >>> 31)

/-- Whether a node matches a block of a session. -/
def NodeRec.fits (r : NodeRec) (hash parent depth domain model mset : Nat) : Bool :=
  decide (r.state = 1 ∧ r.hash = hash ∧ r.parent = parent ∧ r.depth = depth ∧ r.domain = domain ∧ r.model = model ∧ r.mset = mset)

/-- The node that matches, if the bucket can be walked. -/
def State.findNode (s : State) (hash parent depth domain model mset : Nat) : Option Nat × State :=
  let b := hash % max 1 s.bucketCount
  if marked s.srv.rebuilding b then (none, s)
  else
    let (_, bad, s) := s.foRead (s.bucketAddr b) 4
    if bad ≠ [] then (none, s.queueRebuild b)
    else s.chainFind (fun r => r.fits hash parent depth domain model mset) s.nodeCount (s.bucketHead b)

/-- A session holds node `n`: USERS and LAST. -/
def State.holdNode (s : State) (n : Nat) : State :=
  let r := s.node n
  s.setNode n { r with users := r.users + 1, last := s.srv.step }

/-- Take node `n` for block `j` of session `k` (R267). -/
def State.takeNode (s : State) (k : Nat) (i : Image) (n j : Nat) : State :=
  let s := s.holdNode n
  let r := s.sess k
  let s := (i.grid.zipIdx).foldl (fun s e =>
    let p := s.nodePage n e.2
    let s := (s.addRef p).namePage (headRec r i e.1.1 e.1.2) j p
    let (lost, s) := s.writeSummary k r i e.1.1 e.1.2 p j false
    if lost then s.losePage p r.handle else s) s
  let s := s.modSess k (fun r => { r with position := r.position + 64, input := (r.input + 256) % 2 ^ 48, pend := r.pend - 64, node := n })
  { s with srv := { s.srv with taken := Sparse.set (fun _ => 0) s.srv.taken k (Sparse.get (fun _ => 0) s.srv.taken k + 64),
                               blockTok := Sparse.set (fun _ => []) s.srv.blockTok k (Sparse.get (fun _ => []) s.srv.blockTok k ++ s.nodeTokens n) } }.bump
    Off.srvPrefixTaken 1

/-- Whether a page of node `n` is LOST, its record read (R244): such a node matches nothing. -/
def State.nodeLost (s : State) (n m : Nat) : Bool × State :=
  let ps := ((List.range m).map (fun x => s.nodePage n x)).filter (fun p => decide (p < s.pageCount))
  let s := ps.foldl (fun s p => s.lookPage p 0) s
  (ps.any (fun p => decide ((s.page p).state = 4)), s)

/-- The walk at a TURN: blocks from `j` while nodes match, at most `fuel`; answers the blocks taken. -/
def State.walk (s : State) (k : Nat) (i : Image) (x : Ext) : Nat → Nat → Nat → Nat × State
  | 0, _, _ => (0, s)
  | fuel + 1, j, h =>
    let r := s.sess k
    let (bs, st, s) := s.outRead (.session r.tenant) x r.input 256
    if st ≠ 0 then (0, s)
    else
      let toks := (List.range 64).map (fun t => hfield bs (4 * t) 4)
      let h := blockHash h toks
      let m := i.layers * i.kvHeads
      match s.findNode h r.node j r.domain r.model r.mset with
      | (none, s) => (0, s)
      | (some n, s) =>
        let (lost, s) := (s.lookExt n m).nodeLost n m
        if s.extBad n m || lost then (0, s.loseNode n)
        else if s.nodeTokens n = toks then
          let (c, s) := State.walk (s.takeNode k i n j) k i x fuel (j + 1) h
          (c + 1, s)
        else (0, s.bump Off.srvPrefixCollisions 1)

/-! ### Publishing (R268) -/

/-- A FREE node that may be issued: one that no other names as its parent (R452). -/
def State.freeNodeNo (s : State) : Option Nat := firstIdx s.nodeCount (fun n => s.nodeUsable n && decide ((s.node n).state = 0 ∧ (s.node n).children = 0))

/-- The hash of the block before a session's block under version `v`: the seed, or its node's. -/
def State.hashBefore (s : State) (r : SessRec) (v : Nat) : Nat := if r.node = noPage then hashSeed r.domain v r.model else (s.node r.node).hash

/-- Whether version `v`, pinned by the turn that filled a block, still takes nodes (R295). -/
def State.versionTakes (s : State) (v : Nat) : Bool := decide (v = 0xFFFF) || (s.verRec v).state == .current || (s.verRec v).state == .retiring

/-- Publish block `j` of session `k`, filled under version `v`, whose input tokens are `toks`; a parent's record that cannot be read is no parent (R459). -/
def State.publish (s : State) (k : Nat) (i : Image) (j v : Nat) (toks : List Nat) : State :=
  let r := s.sess k
  let s := if r.node = noPage then s else s.lookNode r.node
  let prev := if r.node = noPage then decide (j = 0) else decide ((s.node r.node).depth + 1 = j)
  if !r.publish ∨ r.domain = 0 ∨ !s.treeOn ∨ !prev ∨ !s.versionTakes v ∨ (r.node ≠ noPage ∧ !s.nodeUsable r.node) ∨ decide (toks.length ≠ 64) ∨ toks.any (fun t => decide (t ≥ 2 ^ 32)) ∨ 256 + 4 * i.layers * i.kvHeads > s.extSize then s
  else
    let h := blockHash (s.hashBefore r v) toks
    match s.findNode h r.node j r.domain r.model v with
    | (some n, s) =>
      let m := i.layers * i.kvHeads
      let (lost, s) := (s.lookExt n m).nodeLost n m
      if s.extBad n m || lost then s.loseNode n
      else if s.nodeTokens n = toks then (s.holdNode n).modSess k (fun r => { r with node := n })
      else s.bump Off.srvPrefixCollisions 1
    | (none, s) =>
      let b := h % max 1 s.bucketCount
      match (if marked s.srv.rebuilding b then none else s.freeNodeNo) with
      | none => s.bump Off.srvPrefixNoNode 1
      | some n =>
        let pages := i.grid.map (fun lh => s.pageNo (headRec r i lh.1 lh.2) j)
        let s := pages.foldl (fun s p => if p < s.pageCount then (s.addRef p).setPage p { (s.addRef p).page p with tree := true } else s) s
        let (bad, s) := s.foWrite (s.extAddr n) (toks.flatMap (leBytes 4) ++ pages.flatMap (leBytes 4))
        let s := s.setNode n { hash := h, parent := r.node, next := s.bucketHead b, depth := j, domain := r.domain, model := r.model, state := 1,
                               users := 1, children := 0, last := s.srv.step, mset := v, tenant := r.tenant }
        let s := s.putBucket b n
        let s := if r.node = noPage then s else s.setNode r.node { s.node r.node with children := (s.node r.node).children + 1 }
        let s := if v = 0xFFFF then s else s.setVer v { s.verRec v with nodes := (s.verRec v).nodes + 1 }
        let s := (s.modSess k (fun r => { r with node := n })).bump Off.srvPrefixPublished 1
        if bad = [] then s else s.loseNode n

/-! ### Trimming and rebuilds (R269, R290, R295, R460) -/

/-- The nodes that may be freed and satisfy `p`, oldest LAST first, at most 64. -/
def State.trimmable (s : State) (p : NodeRec → Bool) : List Nat :=
  let ns := (List.range s.nodeCount).filter (fun n => s.nodeUsable n && let r := s.node n; decide (r.state = 1 ∧ r.users = 0) && p r)
  (sortBy (fun a b => decide (a.1 < b.1 ∨ (a.1 = b.1 ∧ a.2 ≤ b.2))) (ns.map (fun n => ((s.node n).last, n)))).map (·.2) |>.take 64

/-- Free up to 64 nodes that satisfy `p`. -/
def State.trimNodes (s : State) (p : NodeRec → Bool) : State := (s.trimmable p).foldl (fun s n => s.freeNode n) s

/-- Whether any Wing's free page count is below SRV_KV_WATER.LOW (R269). -/
def State.kvLow (s : State) : Bool := (List.range 4).any (fun w => decide (s.freeSlots w < s.regField Off.srvKvWater 0 32))

/-- A Roster build's trimming: nodes of RETIRING versions first (R295), every node of a slot that was swept EMPTY (R290), then, below LOW,
childless nodes (R269). -/
def State.trim (s : State) : State :=
  let s := s.trimNodes (fun r => decide (r.mset ≠ 0xFFFF) && (match (s.verRec r.mset).state with | .retiring => true | .lost => true | _ => false))
  let s := (List.range s.nodeCount).foldl (fun s n =>
    let r := s.node n
    if s.nodeUsable n ∧ r.state ≠ 0 ∧ (s.slotRec r.model).sweep then s.freeNode n else s) s
  let s := s.mdl.slots.foldl (fun s e => if e.2.sweep then s.setSlot e.1 { s.slotRec e.1 with sweep := false } else s) s
  if s.kvLow then s.trimNodes (fun r => decide (r.children = 0)) else s

/-- The LIVE nodes whose hash falls in bucket `b`, in ascending number. -/
def State.bucketNodes (s : State) (b : Nat) : List Nat :=
  (List.range s.nodeCount).filter (fun n => s.nodeUsable n && let r := s.node n; decide (r.state = 1 ∧ r.hash % max 1 s.bucketCount = b))

/-- Chain the LIVE nodes of bucket `b`: each names the next. -/
def State.relink (s : State) (b : Nat) : State :=
  let ns := s.bucketNodes b
  (ns.zip (ns.drop 1 ++ [noPage])).foldl (fun s e => s.setNode e.1 { s.node e.1 with next := e.2 }) s

/-- The scan of the node array, in the tier-move class: an unreadable node is quarantined. -/
def State.scanNodes (s : State) : State :=
  (List.range s.nodeCount).foldl (fun s n =>
    if marked s.srv.deadNodes n then s
    else
      let (_, bad, s) := s.t1Read 2 1 none (s.nodeAddr n) 128
      if bad = [] then s else s.quarantineNode n) s

/-- BUCKET_REBUILD: the first queued bucket is relinked (R460). A head whose sector cannot be read takes the whole sector with it: its eight buckets are
relinked and their heads written together. -/
def State.rebuildBucket (s : State) : State :=
  match s.srv.rebuild with
  | [] => s
  | b :: _ =>
    let whole := (sectors (s.bucketAddr b) 4).any (fun x => s.sectorBad x)
    let bs := if whole then (List.range 8).map (fun j => b / 8 * 8 + j) else [b]
    let s := s.scanNodes
    let heads := bs.flatMap (fun c => leBytes 4 ((s.bucketNodes c).headD noPage))
    let s := bs.foldl (fun s c => s.relink c) s
    let (_, s) := s.t1Write 2 1 none (s.bucketAddr (bs.headD b)) heads
    { s with srv := { s.srv with rebuild := s.srv.rebuild.filter (fun c => !bs.contains c),
                                 rebuilding := bs.foldl (fun m c => setMark m c false) s.srv.rebuilding } }

/-! ### Tray flushes (R239, R244) -/

/-- Flush the Tray of one layer and head of session `k`: whether the session's data was lost, and the state. -/
def State.flushTray (s : State) (k : Nat) (r : SessRec) (i : Image) (layer h : Nat) : Bool × State :=
  let n := s.pageNo (headRec r i layer h) r.lastPage
  let p := s.page n
  if n ≥ s.pageCount ∨ p.state ≠ 1 then (false, s)
  else
    let tb := p.fill - p.trayn
    let (bs, bad, s) := s.libReadRuns ⟨i.headWing h % 4, by omega⟩ (if p.trayn = 0 then [] else trayRuns (trayOff r i layer h) p.d (2 ^ r.tdLog2) p.trayn)
    if bad then (true, s.losePageTree n r.handle)
    else
      let (bad, s) := (s.bump Off.srvKvFlushes 1).putRuns r.tenant ((pageRuns p.addr p.d tb).zip bs)
      if bad then (true, s.losePageTree n r.handle)
      else
        let s := s.setPage n { p with trayn := 0, state := if p.fill = 64 then 2 else 1 }
        if p.fill = 64 then
          let (lost, s) := s.writeSummary k r i layer h n p.ordinal true
          (lost, if lost then s.losePageTree n r.handle else s)
        else (false, s)

/-- Flush every Tray of a session whose page is due, or with `all` every Tray that holds positions. The page's record is read first: one that cannot be
read loses the page (R244). -/
def State.flushSession (s : State) (k : Nat) (all : Bool) : Bool × State :=
  let r := s.sess k
  match s.image r.model with
  | none => (false, s)
  | some i =>
    i.grid.foldl (fun (acc : Bool × State) lh =>
      let n := acc.2.pageNo (headRec r i lh.1 lh.2) r.lastPage
      let s := acc.2.lookPage n r.handle
      let p := s.page n
      if n < s.pageCount ∧ s.pageGone n then (true, s)
      else if n < s.pageCount ∧ p.state = 1 ∧ (p.fill = 64 ∨ (all ∧ p.trayn > 0) ∨ p.trayn = 2 ^ r.tdLog2) then
        let (b, s) := s.flushTray k r i lh.1 lh.2
        (acc.1 || b, s)
      else (acc.1, s)) (false, s)

/-! ### What a commit leaves to do for a session -/

/-- Whether block `j` is FULL in every layer and head of a session (R268). -/
def State.blockFull (s : State) (r : SessRec) (i : Image) (j : Nat) : Bool :=
  i.grid.all (fun lh =>
    let n := s.pageNo (headRec r i lh.1 lh.2) j
    decide (n < s.pageCount) && decide ((s.page n).state = 2))

/-- Publish the block of session `k` that the last commit filled, once its pages are FULL (R268, log entry 134). -/
def State.publishFilled (s : State) (k : Nat) : State :=
  match s.srv.filled.find? (fun e => e.1 == k), s.image (s.sess k).model with
  | some (_, j, v), some i =>
    let s := { s with srv := { s.srv with filled := s.srv.filled.filter (fun e => !(e.1 == k)) } }
    let r := s.sess k
    if r.position = 64 * (j + 1) ∧ s.blockFull r i j then
      s.publish k i j v (((Sparse.get (fun _ => []) s.srv.blockTok k).drop (64 * j)).take 64)
    else s
  | _, _ => s

/-- The Trays that the last commit left to flush, with `all` every Tray that holds positions, then the block that became FULL (R239, R268). -/
def State.flushCommit (s : State) (k : Nat) (all : Bool) : Bool × State :=
  let (lost, s) := s.flushSession k all
  (lost, s.publishFilled k)

end Sys2Proof.Machine
end

