-- ==== Sys2Proof/Machine/Turns.lean ====
section
/-! DEFINITION. Stream rings and records, pins, the end of a turn and of a session (R251, R252, R278, R291, R294, R295, R316, R319, R336, R459,
R492). -/

namespace Sys2Proof.Machine

open Sys2Proof

/-! ### Room and reservations of stream rings (R316, R319, R492) -/

/-- Read an output ring's consumer index again; an inconsistent one leaves no room and writes one RING_ERROR event (R319). -/
def State.readCons (s : State) (q : Nat) : State :=
  let r := s.outRing q
  let c := Memory.readLE s.mem.host (s.doorbell (0x3000 + 8 * q)) 8
  let bad := decide (c > r.prod ∨ r.prod - c > 2 ^ r.log2)
  let s := s.setOut q { r with cons := c, badCons := bad }
  if bad && !r.badCons then s.event 0x0A 0x11 (q + 2 ^ 31) c 0 else s

/-- Room of ring `q`, its consumer index read again at most once per Roster build when there would be none, if requests are allowed (R308). -/
def State.roomFor (s : State) (q n : Nat) : Bool × State :=
  if (s.outRing q).room ≥ n then (true, s)
  else if s.srv.reread.contains q ∨ !s.canIssue then (false, s)
  else
    let s := { s with srv := { s.srv with reread := q :: s.srv.reread } }.readCons q
    (decide ((s.outRing q).room ≥ n), s)

/-- Reserve `n` entries of ring `q`. -/
def State.reserve (s : State) (q n : Nat) : State := s.setOut q { s.outRing q with resv := (s.outRing q).resv + n }

/-- Give `n` reservations back (R454). -/
def State.unreserve (s : State) (q n : Nat) : State :=
  let r := s.outRing q
  if r.resv < n then s.ledgerBreak 0x02 q else s.setOut q { r with resv := r.resv - n }

/-! ### Stream records (R278) -/

/-- The 16 bytes of a stream record. -/
def streamBytes (handle token fin : Nat) (degraded : Bool) (phase pos status seq turn : Nat) : List Byte :=
  leBytes 4 handle ++ leBytes 4 (token % 2 ^ 17 + fin * 2 ^ 17 + b2n degraded * 2 ^ 20 + phase * 2 ^ 31) ++ leBytes 4 pos ++
  leBytes 1 status ++ leBytes 1 seq ++ leBytes 2 turn

/-- Write 16 bytes into the next entry of stream ring `q`, which was reserved. -/
def State.putEntry (s : State) (q : Nat) (bs : List Byte) : State :=
  let r := s.outRing q
  let s := s.hostWrite (r.base + 16 * (r.next % 2 ^ r.log2)) bs
  s.setOut q ({ r with next := r.next + 1, resv := r.resv - 1 }.wrote r.next s.hif.ticks)

/-- Emit a record of session `k`: SEQ rises, an owed PRECISION_DEGRADED is paid (R79, R278). -/
def State.emit (s : State) (k token fin : Nat) (degraded : Bool) (pos status : Nat) : State :=
  let r := s.sess k
  let o := s.outRing r.ring
  let s := s.putEntry r.ring (streamBytes r.handle token fin (degraded || r.degraded) (phaseBit o.log2 o.next) pos (s.okStatus status) r.seq r.turn)
  s.modSess k (fun r => { r with seq := (r.seq + 1) % 256, degraded := false })

/-- End the burst of every output ring that records have been written for: one burst per ring at one commit, Roster build or other command (R336). -/
def State.endBursts (s : State) : State :=
  let s := { s with hif := { s.hif with burst := false } }
  (s.hif.outs.filter (fun e => decide (e.2.prod ≠ e.2.shadow))).foldl (fun s e => s.endBurst e.1) s

/-- A commit or a Roster build begins to write. -/
def State.startBurst (s : State) : State := { s with hif := { s.hif with burst := true } }

/-! ### Pins (R291, R294, R454) -/

/-- Raise a slot's PINS. -/
def State.pinSlot (s : State) (m : Nat) : State := s.setSlot m { s.slotRec m with pins := (s.slotRec m).pins + 1 }

/-- Lower a slot's PINS. -/
def State.unpinSlot (s : State) (m : Nat) : State :=
  let x := s.slotRec m
  if x.pins = 0 then s.ledgerBreak 0x08 m else s.setSlot m { x with pins := x.pins - 1 }

/-- Raise a version's PINS. -/
def State.pinVersion (s : State) (v : Nat) : State :=
  if v = 0xFFFF then s else s.setVer v { s.verRec v with pins := (s.verRec v).pins + 1 }

/-- Lower a version's PINS; a RETIRING version may now become EMPTY (R295). -/
def State.unpinVersion (s : State) (v : Nat) : State :=
  if v = 0xFFFF then s
  else
    let x := s.verRec v
    if x.pins = 0 then s.ledgerBreak 0x09 v else (s.setVer v { x with pins := x.pins - 1 }).retire v

/-- SESSIONS of a slot falls by one; a PARKED slot without sessions becomes EMPTY and its nodes are freed at the next build (R290). -/
def State.dropSession (s : State) (m : Nat) : State :=
  let x := s.slotRec m
  if x.sessions = 0 then s.ledgerBreak 0x08 m
  else if x.state = .parked ∧ x.sessions = 1 then s.setSlot m { SlotRec.empty with imageId := x.imageId, sweep := true, img := x.img }
  else s.setSlot m { x with sessions := x.sessions - 1 }

/-! ### Turn ends (R252) -/

/-- What the end of a turn does beside its record: IDLE, pins released, PENDING 0; tokens taken that no commit tallied are forgotten (R280), and its
end waits no longer (R492). -/
def State.closeTurn (s : State) (k : Nat) : State :=
  let r := s.sess k
  let s := (s.unpinSlot r.model).unpinVersion r.mset
  let s := { s with srv := { s.srv with taken := Sparse.set (fun _ => 0) s.srv.taken k 0, endWaits := setMark s.srv.endWaits k false } }
  s.modSess k (fun r => { r with state := 1, pend := 0, mset := 0xFFFF })

/-- TURN rises after the turn's last record. -/
def State.nextTurn (s : State) (k : Nat) : State := s.modSess k (fun r => { r with turn := (r.turn + 1) % 65536 })

/-- The turn of session `k` ends with a record of its own: END 6 with a status, in an entry already reserved (R278). -/
def State.endTurn (s : State) (k status : Nat) : State :=
  ((s.closeTurn k).emit k 0 6 false (s.sess k).position status).nextTurn k

/-- Whether session `k` stands in the step in flight, or in the Roster built for the next one. -/
def State.inStep (s : State) (k : Nat) : Bool :=
  (s.srv.inFlight && s.srv.plan.sessions.any (fun x => x.sess == k)) ||
  (match s.srv.next with | some p => p.sessions.any (fun x => x.sess == k) | none => false)

/-- A turn end outside a step: it reserves its entry if the ring has room (R492), else it waits: the answer says whether it was applied. -/
def State.endTurnNow (s : State) (k status : Nat) : Bool × State :=
  let q := (s.sess k).ring
  let (ok, s) := s.roomFor q 1
  if ok then (true, (s.reserve q 1).endTurn k status) else (false, s)

/-! ### The end of a session (R251, R270-R272, R459) -/

/-- Bytes of a page's demoted form, in whole sectors (R212). -/
def formBytes (d b : Nat) : Nat := 32 * ceilDiv (64 + 64 * d * 2 * b / 8) 32

/-- The width of a demoted form, as its header says. -/
def State.formWidth (s : State) (a : Nat) : Nat :=
  match placeOf a with
  | .window w o => field (Memory.readLE s.mem.host (s.hostAddr w o) 2) 8 4
  | _ => field (Memory.readLE s.mem.peer a 2) 8 4

/-- Release the T2 charge of the demoted pages of session `k`, summary pages too, from its tenant, whose pause charged them (R218, R251, R272); `width` is the pause's. -/
def State.releaseForms (s : State) (k : Nat) (r : SessRec) (width : Nat) : State :=
  (uniq (s.namedPages k r)).foldl (fun s n =>
    let p := s.page n
    if p.tier = 1 ∧ !s.pageGone n then s.releaseT2 r.tenant (formBytes p.d width) else s) s

/-- The record returns to FREE: its generation rises (R247), its slot's SESSIONS falls, the nodes and pages are released. Trays that the last commit left to
flush are flushed first (R239). -/
def State.freeSession (s : State) (k : Nat) : State :=
  let s := if s.srv.flush.contains k then (s.flushCommit k true).2 else s
  let r := s.sess k
  let s := (s.releaseNodes r.node).releasePages k r
  let s := s.dropSession r.model
  let s := s.setSess k { r with state := 0, node := noPage, expire := 0, handle := (r.handle / 65536 + 1) % 65536 * 65536 + k }
  { s with srv := { s.srv with flush := s.srv.flush.filter (fun x => x != k), filled := s.srv.filled.filter (fun e => e.1 != k), blockTok := Sparse.set (fun _ => []) s.srv.blockTok k [],
                               taken := Sparse.set (fun _ => 0) s.srv.taken k 0, endWaits := setMark s.srv.endWaits k false } }

/-- The session record as its shadow gives it, when the record in T1 cannot be read (R459). What only that record holds and a stream record shows, POSITION, SEQ,
TURN and an owed PRECISION_DEGRADED, are free values (R461, log entry 135). -/
def State.fromShadow (s : State) (k : Nat) : SessRec :=
  let b := Sparse.get (fun _ => []) s.srv.shadows k
  let free := fun (n m : Nat) => Config.freeWord 461 ((65536 * s.srv.step + k) * 4 + n) % m
  { s.sess k with handle := hfield b 0 4, tenant := hfield b 4 2, ring := hfield b 6 2, model := hfield b 8 1, tdLog2 := hfield b 9 1,
                  mset := hfield b 10 2, kvmap := hfield b 12 8, node := hfield b 20 4, position := free 0 (2 ^ 32), seq := free 1 256, turn := free 2 65536,
                  degraded := bit (free 3 2) 0 }

/-- An uncorrectable session record: from the shadow the session ends with a record of DATA_LOST, its pins, nodes, page references and the forms of a paused one are
released, its index is quarantined, an INTERNAL event is written (R459); `aff` says that the step in flight owes it PRECISION_DEGRADED (R79). Its record takes an entry of its
ring; without room the session waits for the first build that finds it (R492). Whether its turn was ACTIVE and how far its pages reach, the engine knows from its own lists: the model
takes them from the stored bytes (log entry 135). -/
def State.loseSession (s : State) (k : Nat) (aff : Bool) : State :=
  if marked s.srv.quarantine k ∨ (Sparse.get (fun _ => []) s.srv.shadows k) = [] then s
  else
    let s := s.lookSess k
    let old := s.sess k
    let r := s.fromShadow k
    let (ok, s) := s.roomFor r.ring 1
    if !ok then s else
    let s := if old.state = 2 then (s.unpinSlot r.model).unpinVersion r.mset else s
    let o := s.outRing r.ring
    let s := (s.reserve r.ring 1).putEntry r.ring (streamBytes r.handle 0 6 (aff || r.degraded) (phaseBit o.log2 o.next) r.position 0x30 r.seq r.turn)
    let named := { r with position := old.position }
    let s := if old.state = 4 then s.releaseForms k named (Sparse.get (fun _ => 8) s.srv.widths k) else s
    let s := ((s.releaseNodes r.node).releasePages k named).dropSession r.model
    let s := (s.event 0x0B 0x7F 0x200000 r.handle 0).bump Off.errQuarantined 1
    { s with srv := { s.srv with quarantine := setMark s.srv.quarantine k true, shadows := Sparse.set (fun _ => []) s.srv.shadows k [],
                                 flush := s.srv.flush.filter (fun x => x != k), filled := s.srv.filled.filter (fun e => e.1 != k) } }

/-- Sessions whose record reads as uncorrectable are lost at the end of the step in flight (R459). -/
def State.loseBadSessions (s : State) : State :=
  (List.range s.sessCount).foldl (fun s k => if !s.inStep k && s.sessBad k then s.loseSession k false else s) s

/-- The sessions whose turn is ACTIVE. -/
def State.activeSessions (s : State) : List Nat := s.liveSessions.filter (fun k => decide ((s.sess k).state = 2))

/-- The end of a session in any state: the forms of a paused one are given up too (R251, R272). -/
def State.endSession (s : State) (k : Nat) : State :=
  let s := if (s.sess k).state = 4 then s.releaseForms k (s.sess k) (Sparse.get (fun _ => 8) s.srv.widths k) else s
  s.freeSession k

/-- Leave the end of session `k`'s turn, or with `fin` of the session, for later. -/
def State.putOff (s : State) (k status : Nat) (fin : Bool) : State :=
  if s.srv.deferred.any (fun d => decide (d.sess = k) && decide (d.status = status) && d.endSession == fin) then s
  else { s with srv := { s.srv with deferred := s.srv.deferred ++ [{ sess := k, endSession := fin, status := status, desc := none }] } }

/-- Session `k` ends its turn with a status, and with `fin` ends itself: at the end of the step it stands in, else now if its ring has room, else at the first
build that finds the room (R252, R492). One that is pausing or resuming ends when that is over. -/
def State.endSoon (s : State) (k status : Nat) (fin : Bool) : State :=
  let st := (s.sess k).state
  if s.inStep k ∨ st = 3 ∨ st = 5 then s.putOff k status fin
  else if st = 2 then
    let (ok, s) := s.endTurnNow k status
    if !ok then s.putOff k status fin else if fin then s.endSession k else s
  else if fin ∧ st ≠ 0 then s.endSession k
  else s

/-- End every turn that pins a slot or version with SHARED_LOST (R299). -/
def State.endPinned (s : State) (p : SessRec → Bool) (status : Nat) : State :=
  s.activeSessions.foldl (fun s k => if p (s.sess k) then s.endSoon k status false else s) s

end Sys2Proof.Machine
end

