-- ==== Sys2Proof/Machine/Roster.lean ====
section
/-! DEFINITION. The Roster engine: eviction, admission and the Roster's layout (R240-R243, R253-R264, R379). -/

namespace Sys2Proof.Machine

open Sys2Proof

/-! ### Eviction (R240, R241) -/

/-- SRV_KV_DECAY.LAMBDA. -/
def State.lambda (s : State) : F32 := BitVec.ofNat 32 (s.regField Off.srvKvDecay 0 32)

/-- exp(-(now - step) * lambda) in f32. -/
def decay (lambda : F32) (now step : Nat) : F32 := fexp (fmul (fneg (ofInt (now - step))) lambda)

/-- A page's effective score at step `now` (R240). -/
def State.effScore (s : State) (now : Nat) (p : PageRec) : F32 := fmul p.score (decay s.lambda now p.step)

/-- The sessions whose pages may be evicted: marked evictable, and IDLE or ACTIVE. One that is pausing, resuming or ending counts as paused (DESIGN CHOICE, log entry
133: R241 says 'not paused'). -/
def State.evictableSessions (s : State) : List Nat :=
  s.liveSessions.filter (fun k => let r := s.sess k; r.evictable && decide (r.state = 1 ∨ r.state = 2))

/-- The reads of head and page records in Wing `w` that choosing pages to evict takes (R198, R204); a session whose head record cannot be read ends (R459). -/
def State.lookEvict (s : State) (w : Nat) : State :=
  s.evictableSessions.foldl (fun s k =>
    let r := s.sess k
    match s.image r.model with
    | none => s
    | some i => (i.grid.filter (fun lh => i.headWing lh.2 == w)).foldl (fun s lh =>
        let hr := headRec r i lh.1 lh.2
        let s := s.lookHead r hr
        if s.headBad hr then s.endSoon k 0x30 true
        else (List.range (s.ordinals k r)).foldl (fun s p => s.lookPage (s.pageNo hr p) r.handle) s) s) s

/-- The pages of session `k` in Wing `w` that may be evicted, with the head record and ordinal that name them (R241). -/
def State.evictable (s : State) (w k : Nat) : List (Nat × Nat × Nat) :=
  let r := s.sess k
  let sinks := s.regField Off.srvKvCtrl 0 8
  let win := s.regField Off.srvKvCtrl 8 8
  match s.image r.model with
  | none => []
  | some i =>
    (i.grid.filter (fun lh => i.headWing lh.2 == w)).flatMap (fun lh =>
      let hr := headRec r i lh.1 lh.2
      let full := (List.range (s.ordinals k r)).filter (fun p => let n := s.pageNo hr p; decide (n < s.pageCount) && decide ((s.page n).state = 2))
      (full.take (full.length - win)).filterMap (fun p =>
        let n := s.pageNo hr p
        let x := s.page n
        if p ≥ sinks ∧ x.tier = 0 ∧ x.refs = 1 ∧ !x.tree then some (n, hr, p) else none))

/-- Eviction order: lowest effective score, then lower ORDINAL, then lower page number. -/
def State.evictBefore (s : State) (a b : Nat × Nat × Nat) : Bool :=
  let x := frank (s.effScore s.srv.step (s.page a.1))
  let y := frank (s.effScore s.srv.step (s.page b.1))
  decide (x < y) || (decide (x = y) && (decide (a.2.2 < b.2.2) || (decide (a.2.2 = b.2.2) && decide (a.1 ≤ b.1))))

/-- Slots of Wing `w` that retiring pages will free: those with one reference. -/
def State.retiringSlots (s : State) (w : Nat) : Nat :=
  ((s.srv.retiring.filter (fun n => decide ((s.page n).refs = 1))).map (fun n => match s.slotOf (s.page n).addr with
    | some (v, _) => if v = w then (if (s.page n).head then 2 else 1) else 0
    | none => 0)).sum

/-- Evict one page: a hole in the session's page table, the page retires (R241). -/
def State.evictPage (s : State) (e : Nat × Nat × Nat) : State :=
  let s := (s.namePage e.2.1 e.2.2 noPage).bump Off.srvKvEvicted 1
  { s with srv := { s.srv with retiring := s.srv.retiring ++ [e.1] } }

/-- Evict in Wing `w` until HIGH is reached or nothing is eligible; a count still below LOW is told once (R241). -/
def State.evictWing (s : State) (w : Nat) : State :=
  let low := s.regField Off.srvKvWater 0 32
  let high := max low (s.regField Off.srvKvWater 32 32)
  let s := if s.freeSlots w < low ∧ bit (s.regN Off.srvKvCtrl) 16 then
      let s := s.lookEvict w
      (sortBy s.evictBefore (s.evictableSessions.flatMap (fun k => s.evictable w k))).foldl (fun t e =>
        if t.freeSlots w + t.retiringSlots w ≥ high then t else t.evictPage e) s
    else s
  if s.freeSlots w < low then
    if marked s.srv.kvLow w then s
    else { s with srv := { s.srv with kvLow := setMark s.srv.kvLow w true } }.event 0x03 0 w (s.freeSlots w) low
  else { s with srv := { s.srv with kvLow := setMark s.srv.kvLow w false } }

/-! ### Readiness (R253) -/

/-- Whether a model slot is one the engine builds Rosters for (R253, R297). -/
def State.slotServes (s : State) (m : Nat) : Bool := (s.slotRec m).state == .resident

/-- Whether a pinned version lets its sessions be served (R297, R299). -/
def State.versionServes (s : State) (v : Nat) : Bool :=
  decide (v = 0xFFFF) || (((s.verRec v).state == .current || (s.verRec v).state == .retiring) && (s.verRec v).poisoned.isEmpty)

/-- Whether session `k` is ready; one in the step in flight has nothing to place before its commit (log entry 28), and one whose turn end waits, for a damaged
record too, is left out (R492). -/
def State.isReady (s : State) (k : Nat) : Bool :=
  let r := s.sess k
  decide (r.state = 2) && !s.inStep k && !s.sessBad k && !s.srv.deferred.any (fun d => d.sess == k) && !marked s.srv.endWaits k && s.slotServes r.model && s.versionServes r.mset

/-- TRAYN of a session's open page as the next step finds it: a full Tray is flushed before that step starts (R239). -/
def State.openTrayn (s : State) (r : SessRec) (i : Image) : Nat :=
  if r.position % 64 = 0 then 0 else (s.page (s.pageNo (headRec r i 0 0) (r.position / 64))).trayn % 2 ^ r.tdLog2

/-- New positions of a ready session (R253). -/
def State.newPositions (s : State) (r : SessRec) (i : Image) : Nat :=
  if r.pend = 0 then 1 else min r.pend (min (2 ^ r.tdLog2 - s.openTrayn r i) (64 - r.position % 64))

/-- Whether the step samples the session (R253). -/
def sampled (r : SessRec) (new : Nat) : Bool := decide (r.pend = 0) || decide (new = r.pend)

/-- Whether a layer and head of session `k` use the coarse index in a step of `new` positions (R242). Its context counts the step's new position (DESIGN CHOICE, log
entry 133). -/
def State.usesCoarse (s : State) (k : Nat) (r : SessRec) (new : Nat) (lh : Nat × Nat) : Bool :=
  let th := s.regField Off.srvKvCoarse 0 16
  let kk := s.regField Off.srvKvCoarse 16 7
  decide (new = 1) && !r.evictable && decide (th ≠ 0) && decide (r.position + 1 > th) &&
  decide (r.position / 64 ≥ s.regField Off.srvKvCtrl 0 8 + s.regField Off.srvKvCtrl 8 8 + kk) && !marked s.srv.noCoarse (coarseKey k lh.1 lh.2)

/-- The bucket of an attended count (R243). -/
def bucketOf (n : Nat) : Nat := match (List.range 7).find? (fun b => decide (n ≤ 2 ^ (b + 3))) with | some b => b + 3 | none => 9

/-- The attended count of a layer and head that use the coarse index (R243). -/
def State.coarseCount (s : State) : Nat := s.regField Off.srvKvCtrl 0 8 + s.regField Off.srvKvCtrl 8 8 + s.regField Off.srvKvCoarse 16 7 + 1

/-- What a build makes of a session with `new` positions: the largest bucket over its layers and heads (R243). -/
def State.plannedSess (s : State) (k : Nat) (r : SessRec) (i : Image) (new resv : Nat) : RosterSess :=
  let compact := i.grid.all (fun lh => s.usesCoarse k r new lh)
  let whole := bucketOf (ceilDiv (r.position + new) 64)
  { sess := k, newPos := new, sample := sampled r new, bucket := if compact then bucketOf s.coarseCount else whole, first := 0, pt := 0,
    coarse := i.grid.any (fun lh => s.usesCoarse k r new lh), compact := compact, whole := whole, sel := 0, resv := resv, toks := [] }

/-! ### Admission (R254, R255, R492) -/

/-- A Roster under construction: its sessions in the order admitted, and the rings whose step-batch header has been reserved. -/
structure Draft where
  slot : Nat
  sessions : List RosterSess
  batchRings : List Nat
deriving DecidableEq, Repr

/-- New positions of a draft. -/
def Draft.positions (d : Draft) : Nat := (d.sessions.map (·.newPos)).sum

/-- Page-table entries of a draft per Wing. -/
def Draft.ptes (d : Draft) (hw : Nat) : Nat := (d.sessions.map (fun x => x.ptes hw)).sum

/-- Round up to a multiple of 64. -/
def align64 (n : Nat) : Nat := 64 * ceilDiv n 64

/-- Sizes of a Roster: token entries, page-table entries (with the padding entries' block), version groups at most, coarse tokens, sampled tokens; the
offsets of the areas in the order of R257, then the candidate areas (DESIGN CHOICE, log entry 29), then the end. -/
def rosterOffsets (tok pte grp coarse samp c : Nat) : List Nat :=
  let a0 := 576
  let a1 := align64 (a0 + 64 * tok)
  let a2 := align64 (a1 + 8 * pte)
  let a3 := align64 (a2 + 16 * grp)
  let a4 := align64 (a3 + 516 * coarse)
  let a5 := align64 (a4 + ceilDiv tok 8)
  let a6 := a5 + 8192
  [a0, a1, a2, a3, a4, a5, a6, a6 + align64 (528 * c) * samp]

/-- The smallest Roster buffer of the four Wings. -/
def State.rosterRoom (s : State) : Nat :=
  ((List.finRange 4).map (fun w => 2 ^ s.regField (Off.seqRosterSize w) 0 5)).foldl min (2 ^ 30)

/-- A token entry before its Wing's bases: the session, its place among the session's new positions, or padding. -/
structure Tok where
  sess : Option RosterSess
  idx : Nat
  bucket : Nat
deriving DecidableEq, Repr

/-- Sessions in token-entry order: bucket, version, handle (R258). -/
def State.inOrder (s : State) (xs : List RosterSess) : List RosterSess :=
  sortBy (fun (a b : RosterSess) =>
    let ka := (a.bucket, (s.sess a.sess).mset, (s.sess a.sess).handle)
    let kb := (b.bucket, (s.sess b.sess).mset, (s.sess b.sess).handle)
    decide (ka.1 < kb.1) || (decide (ka.1 = kb.1) && (decide (ka.2.1 < kb.2.1) || (decide (ka.2.1 = kb.2.1) && decide (ka.2.2 ≤ kb.2.2))))) xs

/-- Give sessions their first page-table entry, and that of their table of all pages: the block itself unless the session uses the coarse index. -/
def placePts (hw : Nat) : Nat → List RosterSess → List RosterSess
  | _, [] => []
  | n, x :: xs => { x with pt := n, sel := if x.coarse then n + 2 ^ x.bucket * hw else n } :: placePts hw (n + x.ptes hw) xs

/-- The token entries, padded per bucket to a multiple of the attention group. -/
def tokList (agroup : Nat) (xs : List RosterSess) : List Tok :=
  (List.range 7).flatMap (fun b =>
    let ts := (xs.filter (fun x => x.bucket == b + 3)).flatMap (fun x => (List.range x.newPos).map (fun j => ({ sess := some x, idx := j, bucket := b + 3 } : Tok)))
    ts ++ List.replicate (agroup * ceilDiv ts.length agroup - ts.length) { sess := none, idx := 0, bucket := b + 3 })

/-- The version a token carries, if one. -/
def State.tokVersion (s : State) (t : Tok) : Option Nat :=
  match t.sess with
  | some x => let v := (s.sess x.sess).mset; if v = 0xFFFF then none else some v
  | none => none

/-- Version groups: runs of consecutive tokens with one version, cut every 256 tokens, as (first, count, version). -/
def groupRuns : List (Nat × Option Nat) → List (Nat × Nat × Nat) → List (Nat × Nat × Nat)
  | [], acc => acc.reverse
  | (_, none) :: ts, acc => groupRuns ts acc
  | (n, some v) :: ts, acc =>
    match acc with
    | (f, c, u) :: more => if u = v ∧ f + c = n ∧ c < 256 then groupRuns ts ((f, c + 1, u) :: more) else groupRuns ts ((n, 1, v) :: acc)
    | [] => groupRuns ts [(n, 1, v)]

/-- Whether a token entry is sampled. -/
def Tok.sampled (t : Tok) : Bool := match t.sess with | some x => x.sample && decide (t.idx + 1 = x.newPos) | none => false

/-- Whether a token entry uses the coarse index. -/
def Tok.coarse (t : Tok) : Bool := match t.sess with | some x => x.coarse | none => false

/-- The version groups of token entries. -/
def State.versionGroups (s : State) (toks : List Tok) : List (Nat × Nat × Nat) :=
  groupRuns ((toks.map s.tokVersion).zipIdx.map (fun e => (e.2, e.1))) []

/-- The areas' offsets of a Roster of these sessions and token entries. -/
def State.areas (s : State) (i : Image) (xs : List RosterSess) (toks : List Tok) : List Nat :=
  rosterOffsets toks.length ((xs.map (fun x => x.ptes i.hw)).sum + 512 * i.hw) (s.versionGroups toks).length (toks.filter Tok.coarse).length
    (toks.filter Tok.sampled).length i.contrib

/-- Whether a draft keeps the limits of R254 and fits the Roster buffers. -/
def State.draftFits (s : State) (i : Image) (d : Draft) : Bool :=
  let xs := s.inOrder d.sessions
  decide (d.sessions.length ≤ s.regField Off.srvRosterCtrl 0 14) && decide (d.positions ≤ s.regField Off.srvRosterCtrl 16 17) &&
  decide (d.ptes i.hw ≤ 524288) && decide ((s.areas i xs (tokList (max 1 i.agroup) xs)).getD 7 0 ≤ s.rosterRoom)

/-- Ring entries a session's records may take: its step record if sampled, or its part of a step-batch record (R279), and a turn-end record. -/
def State.entriesFor (s : State) (r : SessRec) (samp : Bool) : Nat :=
  (if samp then (if r.batch then 1 + ceilDiv (s.outRing r.ring).batchK 2 else 1) else 0) + 1

/-- Give back the header entries of rings for which `keep` does not hold (R492). -/
def State.freeHeaders (s : State) (qs : List Nat) (keep : Nat → Bool) : State :=
  (qs.filter (fun q => !keep q)).foldl (fun s q => s.unreserve q 2) s

/-- Allocate the pages a session needs for the step: none when it needs none or got them, else the outcome that stopped it (R255). -/
def State.allocPages (s : State) (k : Nat) (r : SessRec) (i : Image) : Option Alloc × State :=
  if r.position % 64 ≠ 0 ∨ marked s.srv.fresh k then (none, s)
  else
    let o := r.position / 64
    let step := fun (acc : Option Alloc × State) (lh : Nat × Nat) =>
      match acc with
      | (some a, t) => (some a, t)
      | (none, t) =>
        match t.allocPage i r.tenant lh.1 lh.2 o 1 with
        | (.page n, t) => (none, t.namePage (headRec r i lh.1 lh.2) o n)
        | (a, t) => (some a, t)
    match i.grid.foldl step (none, s) with
    | (none, t) => (none, { t with srv := { t.srv with fresh := setMark t.srv.fresh k true } })
    | (some a, _) => (some a, s)

/-- What asking to admit a session gives: the new draft and state; `skip` when it is left out and stays ready. -/
inductive Admit where
  | added (d : Draft)
  | unfit
  | skip
  | ended
deriving DecidableEq, Repr

/-- The read of a session's open page, whose TRAYN bounds its new positions (R198, R253). -/
def State.lookOpen (s : State) (r : SessRec) (i : Image) : State :=
  if r.position % 64 = 0 then s else s.lookPage (s.pageNo (headRec r i 0 0) (r.position / 64)) r.handle

/-- Try to add session `k` to a draft: the limits, its ring's room, its pages. The two header entries of a step-batch record are reserved for the ring with its first
session (R279). -/
def State.admitOne (s : State) (i : Image) (d : Draft) (k : Nat) : Admit × State :=
  let s := s.lookSess k
  let r := s.sess k
  let s := s.lookOpen r i
  let new := s.newPositions r i
  let samp := sampled r new
  let hdr := r.batch && samp && !d.batchRings.contains r.ring
  let n := s.entriesFor r samp
  let all := n + (if hdr then 2 else 0)
  let d' : Draft := { d with sessions := d.sessions ++ [s.plannedSess k r i new n], batchRings := if hdr then r.ring :: d.batchRings else d.batchRings }
  if !s.draftFits i d' then (.unfit, s)
  else
    let (room, s) := s.roomFor r.ring all
    if !room then (.skip, s.bump Off.srvRosterSkips 1)
    else
      match s.allocPages k r i with
      | (none, s) => (.added d', s.reserve r.ring all)
      | (some .refused, s) => (.ended, s.endSoon k 0x20 false)
      | (some _, s) => (.skip, s.bump Off.srvRosterSkips 1)

/-- WEIGHT of a tenant (R250: 1 at reset). -/
def State.weight (s : State) (t : Nat) : Nat := Sparse.get (fun _ => 1) s.srv.weights t

/-- Credit of a tenant. -/
def State.credit (s : State) (t : Nat) : Int := Sparse.get (fun _ => 0) s.srv.credits t

/-- Store a tenant's credit, an s32 (R254). -/
def State.setCredit (s : State) (t : Nat) (c : Int) : State :=
  { s with srv := { s.srv with credits := Sparse.set (fun _ => 0) s.srv.credits t (BitVec.ofInt 32 c).toInt } }

/-- The tenant that admits next: the largest positive credit, lower number on ties, else the lowest with a candidate (R254). -/
def State.pickTenant (s : State) (ts : List Nat) : Option Nat :=
  match ts.foldl (fun (b : Option Nat) t =>
      if s.credit t ≤ 0 then b
      else match b with
        | none => some t
        | some u => if s.credit t > s.credit u ∨ (s.credit t = s.credit u ∧ t < u) then some t else b) none with
  | some t => some t
  | none => ts.foldl (fun (b : Option Nat) t => match b with | none => some t | some u => some (min t u)) none

/-- The admission loop over the candidates left. -/
def State.admitAll (s : State) (i : Image) : Nat → List Nat → Draft → Draft × State
  | 0, _, d => (d, s)
  | fuel + 1, cand, d =>
    match s.pickTenant (uniq (cand.map (fun k => (s.sess k).tenant))) with
    | none => (d, s)
    | some t =>
      match cand.find? (fun k => (s.sess k).tenant == t) with
      | none => (d, s)
      | some k =>
        let rest := cand.filter (fun x => x != k)
        match s.admitOne i d k with
        | (.added d', s) => State.admitAll (s.setCredit t (s.credit t - 1)) i fuel rest d'
        | (_, s) => State.admitAll s i fuel rest d

/-- The ready sessions of slot `m`, by LAST, then record index. -/
def State.candidates (s : State) (m : Nat) : List Nat :=
  sortBy (fun a b => decide ((s.sess a).last < (s.sess b).last ∨ ((s.sess a).last = (s.sess b).last ∧ a ≤ b)))
    (s.activeSessions.filter (fun k => s.isReady k && (s.sess k).model == m))

/-- The slot the next step serves: the first after the last one that has a ready session. -/
def State.nextSlot (s : State) : Option Nat :=
  ((List.range 64).map (fun j => (s.srv.lastSlot + 1 + j) % 64)).find? (fun m => decide (s.candidates m ≠ []))

/-- Refresh the credits of the tenants with candidates. -/
def State.refreshCredits (s : State) (cand : List Nat) : State :=
  (uniq (cand.map (fun k => (s.sess k).tenant))).foldl (fun s t =>
    s.setCredit t (min (s.credit t + s.weight t) (4 * (s.weight t : Int)))) s

/-! ### Layout (R257-R262) -/

/-- bf16 of 1 / TEMP, 1.0 at TEMP 0 (R259). -/
def invTemp (t : Nat) : Nat := if t % 32768 = 0 then 0x3F80 else (toBf16 (fdiv f32One (ofBf16 (BitVec.ofNat 16 t)))).toNat

/-- The first byte of Library scratch of Wing `w` as a device address (R190). -/
def libAddr (w o : Nat) : Nat := 0x100000000000 + 2 ^ 30 * w + o

/-- One token entry's 64 bytes in Wing `w`'s Roster, whose buffer begins at `base` with areas `off` (R259): `tokens` are the session's input
tokens. The embedding's layout is open: BASE 4 is a free value (log entry 9). -/
def State.tokBytes (s : State) (i : Image) (w base : Nat) (off : List Nat) (vg cand padPt : Nat) (token : Nat) (t : Tok) : List Byte :=
  let zb := libAddr w (base + off.getD 5 0)
  match t.sess with
  | none => leBytes 4 noPage ++ leBytes 4 ((t.bucket - 3) * 2 ^ 17) ++ leBytes 4 0 ++ leBytes 2 0 ++ leBytes 2 0xFFFF ++
            (List.range 7).flatMap (fun _ => leBytes 6 zb) ++ leBytes 2 0 ++ leBytes 4 padPt
  | some x =>
    let r := s.sess x.sess
    let last := decide (t.idx + 1 = x.newPos)
    let samp := x.sample && last
    let rot := match i.spans.find? (fun p => p.kind == 0x04) with | some p => p.dest + (r.position + t.idx) * 4 * i.d | none => zb
    let img := if r.mset = 0xFFFF then zb else (s.verRec r.mset).base
    let bases := [r.kvmap, libAddr w r.tray, rot, Config.freeWord 259 (r.model * 2 ^ 17 + token % 2 ^ 17),
                  (if samp then libAddr w (base + cand) else zb), img, zb]
    leBytes 4 r.handle ++ leBytes 4 (token % 2 ^ 17 + (x.bucket - 3) * 2 ^ 17 + b2n samp * 2 ^ 20 + b2n x.coarse * 2 ^ 21) ++
    leBytes 4 (r.position + t.idx) ++ leBytes 2 (invTemp r.temp) ++ leBytes 2 vg ++ bases.flatMap (leBytes 6) ++ leBytes 2 0 ++ leBytes 4 x.pt

/-- The page ordinal that slot `p` of a session's block serves, of `n` in its context: every page in order, or under the coarse index the first SINKS pages,
the last WINDOW FULL ones and the open one, then, unless every layer and head uses it, the pages left out (R243, log entry 117). -/
def State.slotOrdinal (s : State) (x : RosterSess) (n p : Nat) : Option Nat :=
  let sinks := s.regField Off.srvKvCtrl 0 8
  let win := s.regField Off.srvKvCtrl 8 8
  if !x.coarse then (if p < n then some p else none)
  else if p < sinks then some p
  else if p ≤ sinks + win then some (n - 1 - win + (p - sinks))
  else if !x.compact && decide (p < n) then some (p - 1 - win)
  else none

/-- The page-table entry of ordinal `o` in a head record's first layer (R261). -/
def pte (i : Image) (hr : Nat) (o : Option Nat) : List Byte :=
  match o with
  | some p => leBytes 6 (hr + 4 * p) ++ leBytes 2 i.kvHeads
  | none => List.replicate 8 0xFF

/-- The page-table entries of a session in Wing `w` (R261): its block, then under the coarse index the table of all its pages. -/
def State.pteBytes (s : State) (i : Image) (w : Nat) (x : RosterSess) : List Byte :=
  let r := s.sess x.sess
  let n := ceilDiv (r.position + x.newPos) 64
  let hs := i.heads w
  let table := fun (len : Nat) (f : Nat → Option Nat) => (List.range i.hw).flatMap (fun l => (List.range len).flatMap (fun p =>
    match hs[l]? with
    | some h => pte i (headRec r i 0 h) (f p)
    | none => List.replicate 8 0xFF))
  table (2 ^ x.bucket) (s.slotOrdinal x n) ++ (if x.coarse then table (2 ^ x.whole) (fun p => if p < n then some p else none) else [])

/-- COUNT and POS0 of slot `p` of a session's block in a head record (R230, R242, R243). Where the layer and head use the coarse index, the slots of the selected pages
have COUNT 64 and those from the attended count on are padding. -/
def State.blockKeys (s : State) (x : RosterSess) (coarse : Bool) (hr len p : Nat) : Nat × Nat :=
  if coarse && decide (p ≥ s.coarseCount) then (0, 0)
  else if coarse && decide (p + s.regField Off.srvKvCoarse 16 7 ≥ s.coarseCount) then (64, 0)
  else match s.slotOrdinal x (ceilDiv len 64) p with
    | some o => s.slotKeys hr len o
    | none => (0, 0)

/-- The count table and the first table (R258). -/
def countTables (i : Image) (toks : List Tok) (xs : List RosterSess) (grps : Nat) : List Byte :=
  let inB := fun b => (toks.filter (fun t => t.bucket == b)).length
  let startB := fun b => (toks.filter (fun t => decide (t.bucket < b))).length
  let cnt := fun k => if k = 0 then toks.length else if k = 1 then xs.length else if k = 2 then (toks.filter Tok.sampled).length
    else if k = 3 then ceilDiv toks.length 256 else if k = 5 then grps else if 8 ≤ k ∧ k ≤ 14 then inB (k - 5)
    else if k = 15 then (toks.filter Tok.coarse).length else if 16 ≤ k ∧ k ≤ 22 then inB (k - 13) / max 1 i.agroup else 0
  let fst := fun k => if k = 2 then toks.findIdx Tok.sampled % max 1 (toks.length + 1) else if 8 ≤ k ∧ k ≤ 14 then startB (k - 5)
    else if k = 15 then toks.findIdx Tok.coarse else if 16 ≤ k ∧ k ≤ 22 then startB (k - 13) / max 1 i.agroup else 0
  (List.range 64).flatMap (fun k => leBytes 4 (cnt k)) ++ (List.range 64).flatMap (fun k => leBytes 4 (fst k))

/-- The tokens of a session's new positions (R253): the drawn token, or input tokens in memory, read as the session's tenant (R216). The status is that of
the first read that failed. -/
def State.inputTokens (s : State) (x : Ext) (r : SessRec) : List Nat → List Nat × Nat × State
  | [] => ([], 0, s)
  | j :: js =>
    if r.pend = 0 then ([r.history.getD (r.histN - 1) 0], 0, s)
    else
      let (bs, st, s) := s.outRead (.session r.tenant) x (r.input + 4 * j) 4
      if st ≠ 0 then ([], st, s)
      else
        let (vs, st, s) := State.inputTokens s x r js
        (leNat bs :: vs, st, s)

/-- The bytes of the Roster of Wing `w` (R257); `vals` are the token values of each session. -/
def State.rosterBytes (s : State) (i : Image) (w base : Nat) (slot step : Nat) (xs : List RosterSess) (toks : List Tok) (vals : Sparse (List Nat)) : List Byte :=
  let grps := s.versionGroups toks
  let coarse := toks.filter Tok.coarse
  let real := (xs.map (fun x => x.ptes i.hw)).sum
  let off := s.areas i xs toks
  let pad := fun (bs : List Byte) (n : Nat) => bs ++ List.replicate (n - bs.length) 0
  let vgOf := fun n => match grps.findIdx? (fun g => decide (g.1 ≤ n ∧ n < g.1 + g.2.1)) with | some g => g | none => 0xFFFF
  let candOf := fun n => off.getD 6 0 + align64 (528 * i.contrib) * ((toks.take n).filter Tok.sampled).length
  let valOf := fun (t : Tok) => match t.sess with | some x => (Sparse.get (fun _ => []) vals x.sess).getD t.idx 0 | none => 0
  let head := countTables i toks xs grps.length ++ leBytes 8 step ++ leBytes 1 slot ++ leBytes 3 0 ++ (off.take 6).flatMap (leBytes 4) ++
              List.replicate 28 0
  let tokB := toks.zipIdx.flatMap (fun e => s.tokBytes i w base off (vgOf e.2) (candOf e.2) real (valOf e.1) e.1)
  let pteB := xs.flatMap (fun x => s.pteBytes i w x) ++ List.replicate (8 * 512 * i.hw) 0xFF
  let grpB := grps.flatMap (fun g => leBytes 4 g.1 ++ leBytes 2 g.2.1 ++ leBytes 2 g.2.2 ++ leBytes 8 0)
  let selB := List.replicate (512 * coarse.length) (0 : Byte) ++
              coarse.flatMap (fun t => leBytes 4 (match t.sess with | some x => x.sel | none => 0))
  let b1 := pad head 576 ++ tokB
  let b2 := pad b1 (off.getD 1 0) ++ pteB
  let b3 := pad b2 (off.getD 2 0) ++ grpB
  let b4 := pad b3 (off.getD 3 0) ++ selB
  pad b4 (off.getD 6 0)

/-- The head-record changes of a session of the Roster, for one layer and head (R242, R264): its key maps, those of its summary pages where it uses the coarse
index, and share records to credit cleared. -/
def State.headChanges (s : State) (y : RosterSess) (r : SessRec) (i : Image) (lh : Nat × Nat) : State :=
  let hr := headRec r i lh.1 lh.2
  let n := 2 ^ y.bucket / 8
  let coarse := s.usesCoarse y.sess r y.newPos lh
  let s := s.putMaps hr n (s.blockKeys y coarse hr (r.position + y.newPos))
  let s := if coarse then s.putSummaryMap hr (r.position / 64) (s.regField Off.srvKvCtrl 0 8) (s.regField Off.srvKvCtrl 8 8) else s
  if r.evictable then (List.range n).foldl (fun s b => s.putHead (hr + 5120 + 32 * b) (List.replicate 32 0)) s else s

/-- The tokens that a session's new positions place: its inputs, or 2^32 for the drawn one (R268). -/
def State.placing (s : State) (y : RosterSess) (vals : Sparse (List Nat)) : List Nat :=
  if (s.sess y.sess).pend = 0 then [2 ^ 32] else Sparse.get (fun _ => []) vals y.sess

/-- Write the built Roster into the other buffer of every Wing and keep the plan; the head-record changes of the step are queued (R264). -/
def State.layRoster (s : State) (i : Image) (d : Draft) (vals : Sparse (List Nat)) : State :=
  let xs := placePts i.hw 0 (s.inOrder d.sessions)
  let toks := tokList (max 1 i.agroup) xs
  let step := s.srv.step + 1
  let buf := !s.srv.plan.buffer
  let s := (List.finRange 4).foldl (fun s w =>
    let base := s.regField (Off.seqRosterBase w) 12 18 * 4096 + (if buf then 2 ^ s.regField (Off.seqRosterSize w) 0 5 else 0)
    s.libWriteFo w base (s.rosterBytes i w.val base d.slot step xs toks vals)) s
  let s := xs.foldl (fun s y => i.grid.foldl (fun s lh => s.headChanges y (s.sess y.sess) i lh) s) s
  let firsts := fun (y : RosterSess) => toks.findIdx (fun t => match t.sess with | some z => z.sess == y.sess | none => false)
  { s with srv := { s.srv with next := some { slot := d.slot, buffer := buf, sessions := xs.map (fun y => { y with first := firsts y, toks := s.placing y vals }),
                                              tokens := toks.length, sinks := s.regField Off.srvKvCtrl 0 8, lambda := s.lambda, hdrs := d.batchRings } } }

/-- Read the tokens of a draft's sessions; one whose input cannot be read ends its turn with the status of the read, and its reservation goes back. -/
def State.readInputs (s : State) (x : Ext) (d : Draft) : Draft × Sparse (List Nat) × State :=
  d.sessions.foldl (fun (acc : Draft × Sparse (List Nat) × State) y =>
    let r := acc.2.2.sess y.sess
    let (vs, st, s) := acc.2.2.inputTokens x r (List.range y.newPos)
    if st = 0 then ({ acc.1 with sessions := acc.1.sessions ++ [y] }, Sparse.set (fun _ => []) acc.2.1 y.sess vs, s)
    else (acc.1, acc.2.1, (s.endTurn y.sess st).unreserve r.ring (y.resv - 1))) ({ d with sessions := [] }, [], s)

/-- Build the next Roster, if a slot has a ready session (R253-R264). -/
def State.buildNext (s : State) (x : Ext) : State :=
  match s.nextSlot with
  | none => s
  | some m =>
    match s.image m with
    | none => s
    | some i =>
      let cand := s.candidates m
      let s := s.refreshCredits cand
      let (d, s) := s.admitAll i cand.length cand { slot := m, sessions := [], batchRings := [] }
      let (d, vals, s) := s.readInputs x d
      let used := fun (q : Nat) => d.sessions.any (fun y => let r := s.sess y.sess; y.sample && r.batch && decide (r.ring = q))
      let s := s.freeHeaders d.batchRings used
      let d := { d with batchRings := d.batchRings.filter used }
      if d.sessions = [] then s else s.layRoster i d vals

/-- The head records of the sessions a build may admit are read: one that cannot be read ends its session with DATA_LOST (R198, R459). -/
def State.loseBadHeads (s : State) : State :=
  s.activeSessions.foldl (fun s k =>
    let r := s.sess k
    match s.image r.model with
    | none => s
    | some i =>
      if s.inStep k then s
      else
        let hs := i.grid.map (fun lh => headRec r i lh.1 lh.2)
        let s := hs.foldl (fun s hr => s.lookHead r hr) s
        if hs.any s.headBad then s.endSoon k 0x30 true else s) s

/-- Whether Rosters are built: Day or Dusk, with requests allowed (R308, R309, R379, R383), and no Roster waits. -/
def State.canBuild (s : State) : Bool := (s.pwr.state == .day || s.pwr.state == .dusk) && s.canIssue && s.srv.next.isNone

/-- Trimming, eviction and the next Roster. -/
def State.buildRoster (s : State) (x : Ext) : State :=
  let s := s.trim
  let s := (List.range 4).foldl (fun s w => s.evictWing w) s
  s.buildNext x

end Sys2Proof.Machine
end

