-- ==== Sys2Proof/Machine/Sha.lean ====
section
/-! DEFINITION. SHA-256 (FIPS 180-4), named by R283, R284, R410, R412, R430 and R446. The eight working variables are kept as two
histories of four words: what enters `a` moves on through `b`, `c`, `d`, and what enters `e` through `f`, `g`, `h`. -/

namespace Sys2Proof.Machine

open Sys2Proof

/-- The big-endian number of a byte list. -/
def beNat (bs : List Byte) : Nat := bs.foldl (fun acc b => 256 * acc + b.toNat) 0

/-- The `n` big-endian bytes of a number. -/
def beBytes (n v : Nat) : List Byte := (leBytes n v).reverse

/-- The exclusive or of a word's rotations to the right by the amounts in `rs`; the word is doubled to 64 bits, so a rotation is a shift of
the double. -/
def turned (x : Nat) (rs : List Nat) : Nat :=
  rs.foldl (fun acc r => acc ^^^ ((x * (2 ^ 32 + 1)) >>> r) % 2 ^ 32) 0

/-- The `n` 32-bit words of a number, its most significant first. -/
def wordsOf (n v : Nat) : List Nat := ((List.range n).map (fun i => v / 2 ^ (32 * i) % 2 ^ 32)).reverse

/-- The round constants (the fractions of the cube roots of the first 64 primes), sixteen to a number, the first word most significant. -/
def roundConsts : List Nat :=
  wordsOf 16 0x428a2f9871374491b5c0fbcfe9b5dba53956c25b59f111f1923f82a4ab1c5ed5d807aa9812835b01243185be550c7dc372be5d7480deb1fe9bdc06a7c19bf174 ++
  wordsOf 16 0xe49b69c1efbe47860fc19dc6240ca1cc2de92c6f4a7484aa5cb0a9dc76f988da983e5152a831c66db00327c8bf597fc7c6e00bf3d5a7914706ca635114292967 ++
  wordsOf 16 0x27b70a852e1b21384d2c6dfc53380d13650a7354766a0abb81c2c92e92722c85a2bfe8a1a81a664bc24b8b70c76c51a3d192e819d6990624f40e3585106aa070 ++
  wordsOf 16 0x19a4c1161e376c082748774c34b0bcb5391c0cb34ed8aa4a5b9cca4f682e6ff3748f82ee78a5636f84c878148cc7020890befffaa4506cebbef9a3f7c67178f2

/-- The two histories a message starts from (the fractions of the square roots of the first eight primes). -/
def hashStart : List Nat × List Nat :=
  (wordsOf 4 0x6a09e667bb67ae853c6ef372a54ff53a, wordsOf 4 0x510e527f9b05688c1f83d9ab5be0cd19)

/-- The next word of the message schedule, from the sixteen words before it, the newest first. -/
def scheduled (ws : List Nat) : Nat :=
  let new := ws.getD 1 0
  let old := ws.getD 14 0
  (ws.getD 15 0 + ws.getD 6 0 + (turned old [7, 18] ^^^ old / 8) + (turned new [17, 19] ^^^ new / 1024)) % 2 ^ 32

/-- The rounds of one block: the histories and the window of schedule words move on with each round constant. The word a round uses is the
oldest of the window. -/
def rounds : List Nat → List Nat → List Nat × List Nat → List Nat × List Nat
  | [], _, v => v
  | k :: ks, ws, (as, es) =>
    let e0 := es.getD 0 0
    let a0 := as.getD 0 0
    let choice := es.getD 2 0 ^^^ (e0 &&& (es.getD 1 0 ^^^ es.getD 2 0))
    let majority := (a0 &&& as.getD 1 0) ||| (as.getD 2 0 &&& (a0 ||| as.getD 1 0))
    let sum := es.getD 3 0 + turned e0 [6, 11, 25] + choice + k + ws.getD 15 0
    rounds ks (scheduled ws :: ws.take 15)
      ((sum + turned a0 [2, 13, 22] + majority) % 2 ^ 32 :: as.take 3, (as.getD 3 0 + sum) % 2 ^ 32 :: es.take 3)

/-- Add two histories word by word. -/
def addWords (x y : List Nat) : List Nat := (x.zip y).map (fun p => (p.1 + p.2) % 2 ^ 32)

/-- Absorb `n` blocks of 64 bytes. -/
def absorb : Nat → List Byte → List Nat × List Nat → List Nat × List Nat
  | 0, _, v => v
  | n + 1, bs, v =>
    let out := rounds roundConsts (wordsOf 16 (beNat (bs.take 64))).reverse v
    absorb n (bs.drop 64) (addWords v.1 out.1, addWords v.2 out.2)

/-- SHA-256 of a byte string: 32 bytes. The message is padded with a one bit, zeros and its length in bits to whole blocks. -/
def sha256 (bs : List Byte) : List Byte :=
  let blocks := (bs.length + 9 + 63) / 64
  let padded := bs ++ 0x80#8 :: beBytes (64 * blocks - bs.length - 1) (8 * bs.length)
  let v := absorb blocks padded hashStart
  (v.1 ++ v.2).flatMap (beBytes 4)

end Sys2Proof.Machine
end

