-- ==== Sys2Proof/Machine/Serve.lean ====
section
/-! DEFINITION. The step as the Front Office runs it: starts, verdicts, the commit with its sampler, stop detector, records and tallies, and what it
does between steps (R76-R79, R99, R127, R154, R239-R244, R252, R256, R264, R272-R280, R297, R366, R386, R436, R437, R451, R459, R462). -/

namespace Sys2Proof.Machine

open Sys2Proof

/-! ### Starting a step (R256, R386) -/

/-- Whether a Wing's entry for the slot's step lesson is VALID now (R127). -/
def State.runsStep (s : State) (w : Wing) (i : Image) : Bool :=
  (s.lessonEntry w (s.regField (Off.seqLessonTable w) 11 19 * 2048) i.stepLesson).isSome

/-- The Front Office reads every Wing's entry of the slot's step lesson (R24, R184). -/
def State.lookStep (s : State) (i : Image) : State :=
  (List.finRange 4).foldl (fun s w => s.libTouchFo w (s.regField (Off.seqLessonTable w) 11 19 * 2048 + 8 * i.stepLesson) 8) s

/-- The memories of a Classroom that a wake from Holiday zeroes: Slate, Scoreboard, accumulators, planes, attention rows, select buffers (R39, R186, R228); its registers and
what they show stand (R470). -/
def Classroom.wiped (r : Classroom) : Classroom :=
  { r with front := Plane.zero, back := Plane.zero, frontId := false, sb := [], sbBad := [], sbCorr := [], acc := [], att := [], slate := [], slateBad := [],
           slateCorr := [], ex := { r.ex with sel := [], selBad := [] } }

/-- Wake a Classroom (R386): from Holiday with its memories zeroed. -/
def State.wakeRoom (s : State) (k : Fin 32) : State :=
  match (s.room k).power with
  | .inClass => s
  | .recess => s.modRoom k (fun r => { r with power := .inClass })
  | .holiday => (s.modRoom k (fun r => { r.wiped with power := .inClass })).bump Off.pwrWakes 1

/-- Give up a built Roster: its reservations go back (R492). -/
def State.dropNext (s : State) : State :=
  match s.srv.next with
  | none => s
  | some p =>
    let s := (p.sessions.foldl (fun s x => s.unreserve (s.sess x.sess).ring x.resv) s).freeHeaders p.hdrs (fun _ => false)
    { s with srv := { s.srv with next := none } }

/-- Whether a step may start at `us` microseconds (R256, R264, R308, R309, R379, R401). -/
def State.mayStart (s : State) (us : Nat) : Bool :=
  (s.pwr.state == .day || s.pwr.state == .dusk) && s.canIssue && !s.srv.inFlight && s.srv.next.isSome && s.srv.flush.isEmpty &&
  s.srv.headW.isEmpty && s.srv.retiring.isEmpty && !s.memCommitPending &&
  (List.finRange 4).all (fun w => (s.seq w).phase == .idle) &&
  decide (s.srv.startUs + s.regField Off.srvPace 0 20 ≤ us ∨ s.srv.step = 0)

/-- Wake the Classrooms of the Wings that run the step lesson. -/
def State.wakeWing (s : State) (w : Wing) (i : Image) : State :=
  if s.runsStep w i then (List.finRange 8).foldl (fun s c => s.wakeRoom (roomIndex w c)) s else s

/-- The Front Office sends a control message to each Wing (R453). -/
def State.toWings (s : State) : State := (List.finRange 4).foldl (fun s w => s.control3 .office (.wing w)) s

/-- STEP_START: Classrooms wake, start records go out, the limits of the step are read (R77, R127, R462). A Roster whose slot can no longer be served
is given up (R297). -/
def State.stepStart (s : State) (us : Nat) : State :=
  match s.srv.next with
  | none => s
  | some p =>
    if !s.mayStart us then s
    else
      match s.image p.slot with
      | none => s.dropNext
      | some i =>
        if !s.slotServes p.slot then s.dropNext
        else
          let s := ((List.finRange 4).foldl (fun s w => s.wakeWing w i) (s.lookStep i)).toWings
          let step := s.srv.step + 1
          let recs := (List.finRange 4).map (fun w => some
            { lesson := BitVec.ofNat 8 (if s.runsStep w i then i.stepLesson else i.idleLesson), buffer := p.buffer, step := BitVec.ofNat 64 step })
          let s := p.sessions.foldl (fun s x => s.modSess x.sess (fun r => { r with last := step })) s
          let asm := s.asm.map (fun e => (e.1, { e.2 with rings := [], nextK := 0, copies := [], started := 0, failed := [] }))
          { s with asm := asm,
                   srv := { s.srv with inFlight := true, step := step, plan := p, next := none, limit := s.regField Off.srvReplayCtrl 0 2, pass := 0,
                                       votes := [none, none, none, none], toWing := [none, none, none, none], checkVote := Vote.none,
                                       startMs := s.srv.nowMs, startUs := us, watchdog := s.regField Off.errWatchdog 0 32, lostPages := [],
                                       lostPts := [], lostSectors := [], starts := recs, errRooms := [], lastSlot := p.slot } }

/-! ### The end of a step (R76, R99, R252, R297) -/

/-- Apply what waited for session `k`'s step to end (R252): the turn-end record, in the entry reserved if one is, then the end of the session. -/
def State.applyEnd (s : State) (d : Deferred) (reserved : Bool) : State :=
  let s := if (s.sess d.sess).state = 2 then (if reserved then s.endTurn d.sess d.status else (s.endTurnNow d.sess d.status).2) else s
  if d.endSession ∧ (s.sess d.sess).state ≠ 0 then s.endSession d.sess else s

/-- Complete the descriptor of an end, if it has one. -/
def State.completeEnd (s : State) (d : Deferred) : State :=
  match d.desc with
  | some c => s.complete c 0 0 0
  | none => s

/-- The step's end for the sessions of a Roster: every end that waited for it is applied after the step's records, and the descriptors complete (R252). -/
def State.settleSessions (s : State) (ks : List Nat) : State :=
  let ds := ks.flatMap (fun k => s.srv.deferred.filter (fun d => d.sess == k))
  let s := { s with srv := { s.srv with deferred := s.srv.deferred.filter (fun d => !ks.contains d.sess) } }
  ds.foldl State.completeEnd (ds.foldl (fun s d => s.applyEnd d true) s)

/-- Deferred ends outside a step that find room now (R492). -/
def State.settleWaiting (s : State) : State :=
  s.srv.deferred.foldl (fun s d =>
    if s.inStep d.sess then s
    else
      let st := (s.sess d.sess).state
      let (ok, s) := if st = 2 then s.roomFor (s.sess d.sess).ring 1 else (!(st == 3 || st == 5), s)
      if ok then (({ s with srv := { s.srv with deferred := s.srv.deferred.erase d } }).applyEnd d false).completeEnd d else s) s

/-- Give back what is left of a session's reservation. -/
def State.restore (s : State) (q n : Nat) : State := if n = 0 then s else s.unreserve q n

/-- Consecutive REPLAY_LIMIT steps through errors from one Classroom (R462, cause 3). -/
def State.streak (s : State) (failed : Bool) : State :=
  let rooms := (List.range 32).filter (fun k => failed && marked s.srv.errRooms k)
  let next := rooms.foldl (fun m k => Sparse.set (fun _ => 0) m k (Sparse.get (fun _ => 0) s.srv.streaks k + 1)) ([] : Sparse Nat)
  let lim := s.regField Off.errPersist 0 8
  let s := { s with srv := { s.srv with streaks := next, errRooms := [] } }
  match next.find? (fun e => decide (lim ≠ 0) && decide (e.2 ≥ lim)) with
  | some e => if s.err.due.isNone then { s with err := { s.err with due := some (3, e.1) } } else s
  | none => s

/-- The sessions of the step whose records cannot be read end with it (R459); those in `affs` are affected by trouble (R79). -/
def State.losePlanned (s : State) (affs : List Nat) : State :=
  s.srv.plan.sessions.foldl (fun s x => if s.sessBad x.sess then s.loseSession x.sess (affs.contains x.sess) else s) s

/-! ### Pages and structures lost in a step (R244, R459) -/

/-- The page that the step's Roster names at ordinal `p` of a head record: as memory holds it, since changes wait for the step to end (R241, R264). -/
def State.steppedPage (s : State) (hr p : Nat) : Nat := s.hbmLE (hr + 4 * p) 4

/-- The summary page `q` that a head record names in memory. -/
def State.steppedSummary (s : State) (hr q : Nat) : Nat := s.hbmLE (hr + 7168 + 4 * q) 4

/-- What an unreadable sector of a table of the Front Office leads to (R459): a prefix node is quarantined, buckets are rebuilt, the node of an extension is lost. A session
record's session ends with the step, a stop set is read again at the commit. -/
def State.loseStruct (s : State) (x : Nat) : State :=
  let a := 32 * x
  let at? := fun (o n : Nat) => decide (s.tableAddr o ≤ a ∧ a < s.tableAddr o + n)
  if at? Off.srvPrefixNodes (128 * s.nodeCount) then s.quarantineNode ((a - s.tableAddr Off.srvPrefixNodes) / 128)
  else if at? Off.srvPrefixBuckets (4 * s.bucketCount) then
    (List.range 8).foldl (fun s j => s.queueRebuild ((a - s.tableAddr Off.srvPrefixBuckets) / 4 + j)) s
  else if at? Off.srvPrefixExt (s.extSize * s.nodeCount) then s.loseNode ((a - s.tableAddr Off.srvPrefixExt) / max 1 s.extSize)
  else s

/-- Pages lost during the step are LOST when it ends (R244): a summary page stops the coarse index, a shared page drops its node; and so do the structures that Movers found
unreadable (R459). -/
def State.losePages (s : State) : State :=
  let s := (uniq s.srv.lostPages).foldl (fun s n =>
    let p := s.page n
    let hrOf := fun (k : Nat) (i : Image) => headRec (s.sess k) i p.layer p.kvhead
    let isSum := fun (k : Nat) => match s.image (s.sess k).model with
      | some i => (List.range 8).any (fun q => s.steppedSummary (hrOf k i) q == n)
      | none => false
    let owner := s.srv.plan.sessions.find? (fun x => match s.image (s.sess x.sess).model with
      | some i => s.steppedPage (hrOf x.sess i) p.ordinal == n || isSum x.sess
      | none => false)
    match owner with
    | none => s.losePageTree n noPage
    | some x =>
      let s := if isSum x.sess then s.stopCoarse x.sess p.layer p.kvhead else s
      s.losePageTree n (s.sess x.sess).handle) s
  (uniq s.srv.lostSectors).foldl (fun s x => s.loseStruct x) s

/-- The end of a paused session that has expired (R272). -/
def State.expire (s : State) (k : Nat) : State :=
  let h := (s.sess k).handle
  ((s.endSession k).event 0x05 0x41 h 0 0).bump Off.srvTtlExpired 1

/-- The sessions found expired while the step was in flight end with it: no ledger changes during a pass (R272, R451). -/
def State.settleExpired (s : State) : State :=
  let s := s.srv.expired.foldl (fun s k => s.expire k) s
  { s with srv := { s.srv with expired := [] } }

/-- The step is over: what it left behind is forgotten, and what waited for its end is done. -/
def State.stepOver (s : State) : State :=
  { s with srv := { s.srv with inFlight := false, lostPages := [], lostPts := [], lostSectors := [] } }.settleExpired

/-- A step that started collectives ends without commit: GROUP_STEP_LOST names each group (R366). -/
def State.groupsLost (s : State) : State :=
  s.asm.foldl (fun s e => if e.2.started > 0 then s.event 0x24 0 e.1 s.srv.step e.2.started else s) s

/-- The step ends without commit. With a status every session of its Roster ends its turn (R76, R99); under REPAIR none does (R297), and only what
waited for the step's end is applied. -/
def State.endStep (s : State) (status : Option Nat) : State :=
  let s := s.groupsLost.startBurst
  let s := s.srv.plan.sessions.foldl (fun s x =>
    let s := s.lookSess x.sess
    let q := (s.sess x.sess).ring
    if s.sessBad x.sess then s.restore (s.fromShadow x.sess).ring x.resv
    else match status with
    | some st => (s.endTurn x.sess st).restore q (x.resv - 1)
    | none => s.restore q (if s.srv.deferred.any (fun d => d.sess == x.sess) then x.resv - 1 else x.resv)) s
  let s := s.freeHeaders s.srv.plan.hdrs (fun _ => false)
  (((s.settleSessions (s.srv.plan.sessions.map (·.sess))).losePlanned []).losePages.endBursts).stepOver

/-- Send a verdict to every Wing. -/
def State.sendVerdict (s : State) (v : Verdict) : State :=
  { s.toWings with srv := { s.srv with toWing := [some v, some v, some v, some v], votes := [none, none, none, none] } }

/-- Start another pass: the count of START_BELL rings restarts (R364). -/
def State.nextPass (s : State) : State :=
  { s with srv := { s.srv with pass := s.srv.pass + 1, errRooms := [], lostPts := [] },
           asm := s.asm.map (fun e => (e.1, { e.2 with rings := [], nextK := 0, failed := [] })) }

/-- Whether every collective the pass started has completed (R366). -/
def State.asmQuiet (s : State) : Bool := s.asm.all (fun e => e.2.colls.isEmpty && e.2.rings.isEmpty)

/-- The statuses of the collectives that failed in the pass (R366). -/
def State.asmFaults (s : State) : List Nat := s.asm.flatMap (fun e => e.2.failed)

/-- The lowest of a list of statuses. -/
def lowest (l : List Nat) : Nat := l.foldl min 0xFF

/-- The verdict of a vote on pass `n` with limit `lim` (R76, R99, R297). -/
def judge (v : Vote) (n lim : Nat) : Verdict :=
  if v.faults ≠ [] then .fault (lowest v.faults)
  else if v.repair then .repair
  else if v.error then (if n < lim then .replaySame else .fail)
  else if v.trouble || v.sbSat then (if n < lim then .replayRescale else .commit)
  else .commit

/-- The union of votes. -/
def joinVotes (vs : List Vote) : Vote :=
  vs.foldl (fun a v => { trouble := a.trouble || v.trouble, error := a.error || v.error, sbSat := a.sbSat || v.sbSat, repair := a.repair || v.repair,
                         faults := a.faults ++ v.faults }) Vote.none

/-- Carry out a verdict other than COMMIT. -/
def State.carryOut (s : State) (v : Verdict) : State :=
  match v with
  | .commit => s
  | .replaySame => (s.bump Off.srvReplaysError 1).nextPass
  | .replayRescale => (s.bump Off.srvReplaysTrouble 1).nextPass
  | .fail => ((s.bump Off.srvStepsFailed 1).streak true).endStep (some 0x32)
  | .fault st => ((s.bump Off.srvStepsFailed 1).streak false).endStep (some st)
  | .repair => ((s.bump Off.srvMdlRollbacks 1).streak false).endStep none

/-- CHECK_POINT_VERDICT: all four Wings have voted and every collective has completed. -/
def State.checkVerdict (s : State) : State :=
  if !s.srv.inFlight ∨ s.srv.votes.any (·.isNone) ∨ s.srv.toWing.any (·.isSome) ∨ !s.asmQuiet then s
  else
    let v := joinVotes (s.srv.votes.filterMap id)
    let v := { v with faults := v.faults ++ s.asmFaults }
    let d := judge v s.srv.pass s.srv.limit
    let s := (s.sendVerdict d).carryOut d
    if d = .commit then { s with srv := { s.srv with checkVote := v, errRooms := [] } } else s

/-! ### The sampler (R274-R276) -/

/-- A contributor record: its maximum, its sum, and its candidates as (value, token). -/
structure Contrib where
  m : F32
  z : F32
  cands : List (F32 × Nat)
deriving DecidableEq, Repr

/-- Read a contributor record. -/
def readContrib (b : List Byte) : Contrib :=
  let v0 := hfield b 0 4
  let c := min 64 (hfield b 4 1)
  { m := BitVec.ofNat 32 (hfield b 8 4), z := BitVec.ofNat 32 (hfield b 12 4),
    cands := (List.range c).map (fun j => (BitVec.ofNat 32 (hfield b (16 + 8 * j) 4), v0 + hfield b (20 + 8 * j) 4)) }

/-- The order of candidates: larger value first, a NaN last, then the lower token. -/
def candBefore (a b : F32 × Nat) : Bool :=
  let k := fun (x : F32) => if isNaN x then -(2 : Int) ^ 40 else frank x
  decide (k b.1 < k a.1) || (decide (k a.1 = k b.1) && decide (a.2 ≤ b.2))

/-- The generator's f32 in [0, 1) (R276). -/
def drawU (seed count : Nat) : F32 :=
  let x := seed ^^^ (count * 0xD3A2646CAB3B1E51 % 2 ^ 64)
  let x := x ^^^ (x >>> 30)
  let x := x * 0x8F1B6C35D2A4E969 % 2 ^ 64
  let x := x ^^^ (x >>> 27)
  let x := x * 0xB5A30E7D46C1F1E3 % 2 ^ 64
  let x := x ^^^ (x >>> 31)
  roundF32 false (x >>> 40) (-24)

/-- The prefix kept by the top-p cut. -/
def topCut (p : F32) : F32 → List (F32 × Nat) → List (F32 × Nat)
  | _, [] => []
  | cum, x :: xs => let c := fadd cum x.1; if fge c p then [x] else x :: topCut p c xs

/-- The first entry whose running sum exceeds `t`, else the last. -/
def pickAbove (t : F32) : F32 → List (F32 × Nat) → Nat → Nat
  | _, [], dflt => dflt
  | cum, x :: xs, _ => let c := fadd cum x.1; if flt t c then x.2 else pickAbove t c xs x.2

/-- The sorted candidates of a token (R275). -/
def sortedCands (cs : List Contrib) : List (F32 × Nat) := sortBy candBefore (cs.flatMap (·.cands))

/-- The token drawn from the contributors, in Wing and record order; none when there is no candidate (R275, R276). -/
def drawToken (cs : List Contrib) (topK topP temp seed draw : Nat) : Option Nat :=
  let big := cs.foldl (fun b c => fmax b c.m) (f32Inf true)
  let z := if big = f32Inf true then f32Zero false
    else cs.foldl (fun z c => fadd z (fmul c.z (fexp (fsub c.m big)))) (f32Zero false)
  let list := sortedCands cs
  match list with
  | [] => none
  | (_, top) :: _ =>
    if temp % 32768 = 0 ∨ isZero z ∨ !isFinite z then some top
    else
      let kept := list.take (if topK = 0 then 64 else topK)
      let ps := kept.map (fun c => (fdiv (fexp (fsub c.1 big)) z, c.2))
      let tp := ofBf16 (BitVec.ofNat 16 topP)
      let ps := if flt (f32Zero false) tp && flt tp f32One then topCut tp (f32Zero false) ps else ps
      let t := fmul (drawU seed draw) (ps.foldl (fun a c => fadd a c.1) (f32Zero false))
      some (pickAbove t (f32Zero false) ps top)

/-- The offset of token entry `n`'s candidate area in Wing `w`'s Library (R259, R274). -/
def State.candArea (s : State) (w : Wing) (n : Nat) : Nat :=
  let base := (s.seq w).rosterBase
  s.libLE w (base + s.libLE w (base + 524) 4 + 64 * n + 40) 6 % 2 ^ 30

/-- The contributors of token entry `n` of the plan's Roster in every Wing, read from its candidate areas (R274) over the office links (R24). The spec gives an unreadable sector
there no outcome but its count (R184): the data is taken as stored (DESIGN CHOICE, log entry 133). -/
def State.contributors (s : State) (n c : Nat) : List Contrib × State :=
  ((List.finRange 4).flatMap (fun w => (List.range c).map (fun j => readContrib (s.libBytes w (s.candArea w n + 528 * j) 528))),
   (List.finRange 4).foldl (fun s w => s.libTouchFo w (s.candArea w n) (528 * c)) s)

/-! ### Stops (R249, R277) -/

/-- The stop set of a session: none when it names none or it cannot be read; the flag says it was unreadable (R459). -/
def State.stopSet (s : State) (tenant x : Nat) : Option (List Byte) × Bool × State :=
  if x = 0xFFFF then (none, false, s)
  else
    let (bs, bad, s) := s.foReadFor (some tenant) (s.tableAddr Off.srvStopsets + 768 * x) 768
    if bad = [] then (some bs, false, s) else (none, true, s)

/-- Whether a stop sequence of the set ends the history. -/
def seqHit (b : List Byte) (hist : List Nat) (n : Nat) : Bool :=
  (List.range (min 8 (hfield b 1 1))).any (fun q =>
    let len := hfield b (8 + q) 1
    decide (1 ≤ len ∧ len ≤ n) && decide ((hist.take n).drop (n - len) = (List.range len).map (fun j => hfield b (144 + 64 * q + 4 * j) 4)))

/-- The END code of a drawn token (R277): 0 when the turn goes on. -/
def stopCode (i : Image) (r : SessRec) (set : Option (List Byte)) (token : Nat) : Nat :=
  let max := decide (r.maxTokens ≠ 0 ∧ r.turnTokens = r.maxTokens)
  let ctx := decide (r.position + 1 ≥ i.context)
  if !r.batch && token == i.eot then 1
  else if !r.batch && (match set with | some b => (List.range (min 32 (hfield b 0 1))).any (fun j => hfield b (16 + 4 * j) 4 == token) | none => false) then 2
  else if !r.batch && (match set with | some b => seqHit b r.history r.histN | none => false) then 3
  else if max then 4
  else if ctx then 5
  else 0

/-- HISTORY after a token. -/
def pushHist (h : List Nat) (n t : Nat) : List Nat × Nat :=
  if n < 16 then ((h.take n ++ [t]) ++ List.replicate (15 - n) 0, n + 1) else (h.drop 1 ++ [t], 16)

/-! ### The commit (R154, R238-R240, R268, R278-R280) -/

/-- What a session's turn shows at this commit; `lost` when its stop set could not be read (R459). -/
structure Drawn where
  sess : Nat
  token : Nat
  fin : Nat
  cands : List (F32 × Nat)
  lost : Bool
deriving DecidableEq, Repr

/-- FILL and TRAYN of a session's open pages grow by the step's new positions (R238). -/
def State.growPages (s : State) (r : SessRec) (i : Image) (new : Nat) : State :=
  i.grid.foldl (fun s lh =>
    let n := s.pageNo (headRec r i lh.1 lh.2) (r.position / 64)
    if n < s.pageCount ∧ (s.page n).state = 1 then
      s.setPage n { s.page n with fill := (s.page n).fill + new, trayn := (s.page n).trayn + new }
    else s) s

/-- The shares of one block of eight slots of a head record: none when its share record cannot be read (R459). -/
def State.blockShares (s : State) (r : SessRec) (hr slots b : Nat) : List (Nat × F32) × State :=
  let (bs, bad, s) := s.foReadFor (some r.tenant) (hr + 5120 + 32 * b) 32
  if bad ≠ [] then ([], s)
  else
    (((List.range 8).filter (fun j => decide (8 * b + j < slots))).map (fun j => (s.pageNo hr (8 * b + j), BitVec.ofNat 32 (hfield bs (4 * j) 4))), s)

/-- The shares that a session's slots received in the step, with the pages they named, of an evictable session (R240). -/
def State.sessShares (s : State) (i : Image) (x : RosterSess) : List (Nat × F32) × State :=
  let r := s.sess x.sess
  if !r.evictable then ([], s)
  else
    let slots := min (2 ^ x.bucket) (ceilDiv r.position 64)
    (i.grid.flatMap (fun lh => (List.range (ceilDiv slots 8)).map (fun b => (headRec r i lh.1 lh.2, b)))).foldl (fun (acc : List (Nat × F32) × State) e =>
      let (l, s) := acc.2.blockShares r e.1 slots e.2
      (acc.1 ++ l, s)) ([], s)

/-- Credit one page with the sum of its shares (R240); LAMBDA is the one the build read (R245). -/
def State.creditPage (s : State) (n : Nat) (shares : List F32) : State :=
  let p := s.page n
  if n ≥ s.pageCount ∨ p.state = 0 ∨ p.state = 4 then s
  else
    let credit := shares.foldl fadd (f32Zero false)
    s.setPage n { p with score := ffma p.score (decay s.srv.plan.lambda s.srv.step p.step) credit, step := s.srv.step % 2 ^ 32 }

/-- The credits of a commit: each page once, with the shares of every slot that named it, in the order of the Roster (R240). -/
def State.creditPages (s : State) (i : Image) (xs : List RosterSess) : State :=
  let (sh, s) := xs.foldl (fun (acc : List (Nat × F32) × State) x =>
    let (l, s) := acc.2.sessShares i x
    (acc.1 ++ l, s)) ([], s)
  (uniq (sh.map (·.1))).foldl (fun s n => s.creditPage n ((sh.filter (fun e => e.1 == n)).map (·.2))) s

/-- The new positions of a session become part of its context (R238, R251); a block they fill is published once its pages are FULL (R268). -/
def State.advance (s : State) (i : Image) (x : RosterSess) : State :=
  let r := s.sess x.sess
  let s := s.growPages r i x.newPos
  let toks := Sparse.get (fun _ => []) s.srv.blockTok x.sess ++ x.toks
  let used := min r.pend x.newPos
  let s := s.setSess x.sess { r with position := r.position + x.newPos, pend := r.pend - used, input := (r.input + 4 * used) % 2 ^ 48 }
  let full := if (r.position + x.newPos) % 64 = 0 then [(x.sess, r.position / 64, r.mset)] else []
  { s with srv := { s.srv with fresh := setMark s.srv.fresh x.sess false, filled := s.srv.filled ++ full,
                               blockTok := Sparse.set (fun _ => []) s.srv.blockTok x.sess toks } }

/-- Draw a sampled session's token: its record fields and the END (R275-R277). -/
def State.sample (s : State) (i : Image) (x : RosterSess) : Drawn × State :=
  let r := s.sess x.sess
  let (cs, s) := s.contributors (x.first + x.newPos - 1) i.contrib
  let d := drawToken cs r.topK r.topP r.temp r.seed r.draw
  let token := d.getD i.eot % 2 ^ 17
  let (set, lost, s) := s.stopSet r.tenant r.stopset
  let (h, n) := pushHist r.history r.histN token
  let r := { r with history := h, histN := n, turnTokens := (r.turnTokens + 1) % 2 ^ 32, draw := (r.draw + 1) % 2 ^ 64 }
  let s := (s.setSess x.sess r).bump Off.srvTokensDrawn 1
  ({ sess := x.sess, token := token, fin := stopCode i r set token, cands := sortedCands cs, lost := lost }, s)

/-- The end of a turn through a token record: END 1-5 (R277), or DATA_LOST after the token when its stop set was lost (R459). -/
def State.closeDrawn (s : State) (d : Drawn) : State :=
  if d.fin ≠ 0 then (s.closeTurn d.sess).nextTurn d.sess
  else if d.lost then s.endTurn d.sess 0x30
  else s

/-- Whether a turn-end record follows the token's (R459). -/
def Drawn.ends (d : Drawn) : Bool := decide (d.fin = 0) && d.lost

/-- Whether a session is affected by trouble at the replay limit (R79). -/
def State.affected (s : State) (x : RosterSess) : Bool :=
  let v := s.srv.checkVote
  v.sbSat || (v.trouble && (List.finRange 4).any (fun w => (List.range x.newPos).any (fun j =>
    let n := x.first + j
    bit (s.libLE w (s.troubleMap w + n / 8) 1) (n % 8))))

/-- The Front Office reads the token trouble map of every Wing's final pass, over its office link (R24, R79, R184). -/
def State.readTrouble (s : State) : State :=
  if s.srv.checkVote.trouble then (List.finRange 4).foldl (fun s w => s.libTouchFo w (s.troubleMap w) (ceilDiv s.srv.plan.tokens 8)) s else s

/-- The page records that a commit reads, those of open pages and of pages to credit: one that cannot be read loses its page (R244). -/
def State.readPages (s : State) (i : Image) : State :=
  s.srv.plan.sessions.foldl (fun s x =>
    let r := s.sess x.sess
    let ps := if r.evictable then List.range (min (2 ^ x.bucket) (ceilDiv (r.position + x.newPos) 64)) else [r.position / 64]
    (i.grid.flatMap (fun lh => ps.map (fun p => s.pageNo (headRec r i lh.1 lh.2) p))).foldl (fun s n =>
      let s := s.lookPage n r.handle
      if n < s.pageCount ∧ s.pageGone n then s.stepPage n else s) s) s

/-- Whether page `n` is lost to a step that names it (R244). -/
def State.stepLost (s : State) (n : Nat) : Bool := s.srv.lostPages.contains n || (decide (n < s.pageCount) && decide ((s.page n).state = 4))

/-- Sessions whose data was lost during the step (R244, R459): their Roster names a LOST page, or they share an attention group with one whose head record
a Mover could not read. -/
def State.lostSessions (s : State) (i : Image) : List Nat :=
  let names := fun (x : RosterSess) =>
    let r := s.sess x.sess
    i.grid.any (fun lh => (List.range (ceilDiv (r.position + x.newPos) 64)).any (fun p => s.stepLost (s.steppedPage (headRec r i lh.1 lh.2) p)))
  let hit := s.srv.plan.sessions.filter (fun x => s.srv.lostPts.any (fun e => decide (x.pt ≤ e ∧ e < x.pt + x.ptes i.hw)) ||
    s.srv.lostSectors.any (fun y => s.inNames (s.sess x.sess) (32 * y)))
  let grp := fun (x : RosterSess) => (List.range x.newPos).map (fun j => (x.first + j) / max 1 i.agroup)
  (s.srv.plan.sessions.filter (fun x => names x || hit.any (fun y => x.bucket == y.bucket && (grp x).any (fun g => (grp y).contains g)))).map (·.sess)

/-- Leave the next entry of stream ring `q`, which was reserved, for later. -/
def State.skipEntry (s : State) (q : Nat) : State :=
  let r := s.outRing q
  s.setOut q { r with next := r.next + 1, resv := r.resv - 1 }

/-- Write the entry `h` of ring `q` that was left: with it one record of several entries is complete (R336, R337). -/
def State.fillEntry (s : State) (q h : Nat) (bs : List Byte) : State :=
  let r := s.outRing q
  let s := s.hostWrite (r.base + 16 * (h % 2 ^ r.log2)) bs
  s.setOut q { r.wrote h s.hif.ticks with pending := r.pending + 1 }

/-- A drawn token's part of a step-batch record: its stream record, then K candidates (R279). -/
def State.batchPart (s : State) (q k : Nat) (d : Drawn) (aff : Bool) : State :=
  let s := s.emit d.sess d.token d.fin aff (s.sess d.sess).position 0
  let cs := (d.cands.take k).map (fun c => leBytes 4 c.1.toNat ++ leBytes 4 c.2)
  let bytes := cs.flatten ++ List.replicate (16 * ceilDiv k 2 - 8 * (min k cs.length)) 0
  (List.range (ceilDiv k 2)).foldl (fun s j => s.putEntry q ((bytes.drop (16 * j)).take 16)) s

/-- Step-batch records (R279): one per ring, in token-entry order of its sessions, the header's first entry last (R336). -/
def State.writeBatch (s : State) (q : Nat) (ds : List (Drawn × Bool)) : State :=
  let o := s.outRing q
  let k := o.batchK
  let h1 := leBytes 1 0x09 ++ leBytes 1 0 ++ leBytes 2 ds.length ++ leBytes 1 k ++ leBytes 1 (phaseBit o.log2 o.next * 128) ++ leBytes 2 0 ++
            leBytes 8 s.srv.step
  let s := (s.skipEntry q).putEntry q (List.replicate 16 0)
  (ds.foldl (fun s e => s.batchPart q k e.1 e.2) s).fillEntry q o.next h1

/-- What a session's commit adds: its tallies (tenant, input, output, entries) and, of BATCH sessions, the drawn tokens with their DEGRADED marks. -/
structure Committed where
  tallies : List (Nat × Nat × Nat × Nat)
  drawn : List (Drawn × Bool)
deriving DecidableEq, Repr

/-- Whether a session that goes on keeps one entry for a turn end that waits for the step's end (R252). -/
def State.keepsEntry (s : State) (k : Nat) : Nat := b2n (decide ((s.sess k).state = 2) && s.srv.deferred.any (fun d => d.sess == k))

/-- An affected session of which no record shows it owes PRECISION_DEGRADED to its next record (R79). -/
def State.owe (s : State) (k : Nat) (aff : Bool) : State := if aff then s.modSess k (fun r => { r with degraded := true }) else s

/-- A session whose effects are discarded still carries the step-cycles of its token entries (R436). -/
def Committed.cyclesOf (acc : Committed) (tenant n : Nat) : Committed := { acc with tallies := (tenant, 0, 0, n) :: acc.tallies }

/-- Commit one session (R154, R278): what it placed, its token and its record. -/
def State.commitSession (s : State) (i : Image) (lost : List Nat) (x : RosterSess) (acc : Committed) : Committed × State :=
  let s := s.lookSess x.sess
  let r := s.sess x.sess
  let aff := s.affected x
  if s.sessBad x.sess then
    let r := s.fromShadow x.sess
    (acc.cyclesOf r.tenant x.newPos, s.restore r.ring x.resv)
  else if lost.contains x.sess then (acc.cyclesOf r.tenant x.newPos, ((s.owe x.sess aff).endTurn x.sess 0x30).restore r.ring (x.resv - 1))
  else
    let inp := min r.pend x.newPos + Sparse.get (fun _ => 0) s.srv.taken x.sess
    let s := { s with srv := { s.srv with taken := Sparse.set (fun _ => 0) s.srv.taken x.sess 0, flush := s.srv.flush ++ [x.sess] } }
    let s := s.advance i x
    let acc := fun (n : Nat) (ds : List (Drawn × Bool)) => { tallies := (r.tenant, inp, n, x.newPos) :: acc.tallies, drawn := acc.drawn ++ ds : Committed }
    if !x.sample then
      let s := s.owe x.sess aff
      (acc 0 [], s.restore r.ring (x.resv - s.keepsEntry x.sess))
    else
      let (d, s) := s.sample i x
      if r.batch then (acc 1 [(d, aff)], s)
      else
        let s := (s.emit x.sess d.token d.fin aff (s.sess x.sess).position 0).closeDrawn d
        (acc 1 [], s.restore r.ring (x.resv - 1 - b2n d.ends - s.keepsEntry x.sess))

/-- Write the step-batch records of the rings of BATCH sessions, close their turns and give back what is left, the header entries of a ring without a record too (R492). -/
def State.commitBatch (s : State) (ds : List (Drawn × Bool)) : State :=
  (uniq (ds.map (fun d => (s.sess d.1.sess).ring))).foldl (fun s q =>
    let mine := ds.filter (fun d => (s.sess d.1.sess).ring == q)
    mine.foldl (fun s d =>
      let s := s.closeDrawn d.1
      s.restore q (1 - b2n d.1.ends - s.keepsEntry d.1.sess)) (s.writeBatch q mine))
    (s.freeHeaders s.srv.plan.hdrs (fun q => ds.any (fun d => (s.sess d.1.sess).ring == q)))

/-- The 48 bytes of a tally message (R437). -/
def tallyBytes (version tenant seq step inp out cyc : Nat) (start : Bool) : List Byte :=
  let b := leBytes 1 version ++ leBytes 1 (b2n start) ++ leBytes 2 tenant ++ leBytes 4 seq ++ leBytes 8 step ++ leBytes 8 inp ++ leBytes 8 out ++ leBytes 8 cyc
  b ++ leBytes 4 (crc32c b) ++ leBytes 4 0

/-- Put a tally on its link, or let it wait while requests are not allowed (R308). -/
def State.sendTally (s : State) (tenant inp out cyc : Nat) : State :=
  let m := tallyBytes s.sec.tally tenant s.rlink.seq s.srv.step inp out cyc (!s.rlink.started)
  let s := { s with rlink := { s.rlink with seq := (s.rlink.seq + 1) % 2 ^ 32, started := true } }
  if s.canIssue && !marked s.fab.realign 16 then ({ s with rlink := { s.rlink with link := s.rlink.link ++ [m] } }).bump Off.rbkTallySent 1
  else { s with rlink := { s.rlink with waiting := s.rlink.waiting ++ [m] } }

/-- One tally per tenant with a nonzero count, in ascending tenant order (R280, R437); none while UNMETERED (R421). -/
def State.sendTallies (s : State) (ts : List (Nat × Nat × Nat × Nat)) (cyc : Nat) : State :=
  if s.sec.unmetered then s
  else
    (List.range 1024).foldl (fun s t =>
      let mine := ts.filter (fun e => e.1 == t)
      let i := (mine.map (fun e => e.2.1)).sum
      let o := (mine.map (fun e => e.2.2.1)).sum
      let c := cyc * (mine.map (fun e => e.2.2.2)).sum
      if mine = [] ∨ (i = 0 ∧ o = 0 ∧ c = 0) then s else s.sendTally t i o (c % 2 ^ 64)) s

/-- The largest count of Timetable cycles among the Wings that ran the step lesson (R436). -/
def State.stepCycles (s : State) (i : Image) : Nat :=
  ((List.finRange 4).map (fun w => let q := s.seq w; if q.lesson = i.stepLesson then q.cycles + q.passCycles else 0)).foldl max 0

/-- The step commits: its effects become visible together (R25, R154). -/
def State.commit (s : State) : State :=
  match s.image s.srv.plan.slot with
  | none => s
  | some i =>
    let s := (s.readPages i).readTrouble
    let affs := (s.srv.plan.sessions.filter (fun x => s.affected x)).map (·.sess)
    let lost := s.lostSessions i
    let cyc := s.stepCycles i
    let v := s.srv.checkVote
    let s := if v.trouble || v.sbSat then s.bump Off.srvStepsDegraded 1 else s
    let (acc, s) := s.srv.plan.sessions.foldl (fun (a : Committed × State) x => a.2.commitSession i lost x a.1) (⟨[], []⟩, s.startBurst)
    let s := s.creditPages i (s.srv.plan.sessions.filter (fun x => !lost.contains x.sess && !s.sessBad x.sess))
    let s := (((s.commitBatch acc.drawn).settleSessions (s.srv.plan.sessions.map (·.sess))).losePlanned affs).endBursts
    let s := s.losePages.sendTallies acc.tallies cyc
    ((s.sendVerdict .commit).streak false).stepOver

/-- COMMIT_DECISION: all four Wings stand drained at the commit point (R154). -/
def State.commitDecision (s : State) : State :=
  if !s.srv.inFlight ∨ s.srv.toWing.any (·.isSome) ∨ !s.asmQuiet ∨
     !(List.finRange 4).all (fun w => (s.seq w).phase == .commitWait && s.drained w) then s
  else
    let s := (List.finRange 4).foldl (fun s w => s.pointEnd w) s
    let v := joinVotes ((List.finRange 4).map (fun w => (s.seq w).vote))
    let v := { v with faults := v.faults ++ s.asmFaults, trouble := false, sbSat := false }
    let d := judge v s.srv.pass s.srv.limit
    if d = .commit then s.commit else (s.sendVerdict d).carryOut d

/-! ### Between steps (R239, R241, R264, R272) -/

/-- The Trays of one session: a lost one ends the turn with DATA_LOST (R244). -/
def State.flushOne (s : State) (k : Nat) : State :=
  let r := s.sess k
  if r.state = 0 then s
  else
    let (lost, s) := s.flushCommit k (r.state = 3 || r.state = 6)
    if lost then s.endSoon k 0x30 false else s

/-- Write the queued head-record changes, each for its session's tenant; a sector that cannot be read ends its session with DATA_LOST (R202, R459). -/
def State.writeHeads (s : State) : State :=
  let ks := if s.srv.headW = [] then [] else s.liveSessions
  let s' := s.srv.headW.foldl (fun s e =>
    let own := ks.find? (fun k => let r := s.sess k; decide (r.kvmap ≤ e.1) && (match s.image r.model with
      | some i => decide (e.1 < r.kvmap + 8192 * i.layers * i.kvHeads)
      | none => false))
    let (bad, s) := s.foWriteFor (own.map (fun k => (s.sess k).tenant)) e.1 e.2
    match bad, own with
    | _ :: _, some k => s.endSoon k 0x30 true
    | _, _ => s) s
  { s' with srv := { s'.srv with headW := [] } }

/-- TRAY_FLUSH: after a commit, between steps: flushes, head-record changes, then the pages that retired (R241, R455). -/
def State.trayFlush (s : State) : State :=
  if s.srv.inFlight then s
  else
    let s' := (uniq s.srv.flush).foldl (fun s k => s.flushOne k) s
    let s' := ({ s' with srv := { s'.srv with flush := [] } }).writeHeads
    let s'' := s'.srv.retiring.foldl (fun s n => s.dropRef n) s'
    { s'' with srv := { s''.srv with retiring := [] } }

/-- PAUSE_EXPIRY_CHECK (R272): a session found expired while a step is in flight is live no longer, and its pages, charges, references and nodes are released when the step ends
(R451). -/
def State.pauseExpiry (s : State) : State :=
  s.liveSessions.foldl (fun s k =>
    let r := s.sess k
    if r.state = 4 ∧ r.expire ≠ 0 ∧ r.expire ≤ s.srv.nowMs ∧ !s.srv.expired.contains k then
      if s.srv.inFlight then { s with srv := { s.srv with expired := s.srv.expired ++ [k] } } else s.expire k
    else s) s

end Sys2Proof.Machine
end

