-- ==== Sys2Proof/Machine/Rings.lean ====
section
/-! DEFINITION. Rings and setup operations: privilege and tenants (R320-R322), ring creation and removal (R327, R328), windows, quotas and rules (R329),
lessons (R330), protection classes (R331), the page pool (R332) and copies (R333). -/

namespace Sys2Proof.Machine

open Sys2Proof

/-! ### Privilege and tenants (R320-R322, R343) -/

/-- Operations that require a privileged ring (R326, R423). -/
def opPriv : DescOp → Bool
  | .nop => false
  | .undefined _ => false
  | .modelQuery _ _ => false
  | op => decide (op.opcode ≤ 0x13) || decide (0x40 ≤ op.opcode)

/-- Operations of the rings themselves and NOP: they complete in Night (R381) and in Twilight (R343). -/
def ringOnly : DescOp → Bool
  | .nop => true
  | .ringCreate _ => true
  | .ringDestroy _ => true
  | .ringReset => true
  | _ => false

/-- The tenant a descriptor acts for. -/
def State.tenantOf (s : State) (d : Desc) : Nat := (s.subRing d.ring.toNat).tenant

/-- Whether a descriptor's ring is privileged. -/
def State.privOf (s : State) (d : Desc) : Bool := (s.subRing d.ring.toNat).priv

/-- NOT_PERMITTED by R321 or R343, which depends on no object named. -/
def State.denied (s : State) (d : Desc) (op : DescOp) : Bool :=
  (opPriv op && !s.privOf d) || (s.pwr.state == .twilight && !ringOnly op && !decide (0x40 ≤ op.opcode))

/-- An object of another tenant named from a ring that is not privileged (R321). -/
def State.foreign (s : State) (d : Desc) (tenant : Nat) : Bool := !s.privOf d && decide (tenant ≠ s.tenantOf d)

/-- Reserved bits of the descriptor (R8, R323). -/
def badBits (d : Desc) (op : DescOp) : Bool := d.rsv || (opNoHandle op && decide (d.handle ≠ 0))

/-- What every operation checks, whatever it names: NOT_PERMITTED, BAD_HANDLE, BAD_ARG in the order of R15. -/
def State.plainChecks (s : State) (d : Desc) (op : DescOp) (handleBad argBad : Bool) : Nat :=
  firstStatus [failIf (s.denied d op) 0x13, failIf handleBad 0x12, failIf (argBad || badBits d op) 0x11]

/-- Whether Dusk or Night turn an operation away (R343). -/
def State.duskBusy (s : State) : Bool := s.pwr.state == .dusk || s.pwr.state == .night

/-! ### Rings (R327, R328) -/

/-- Whether output ring `q` exists as a ring of records (`stream`) or of completions. -/
def State.hasOut (s : State) (q : Nat) (stream : Bool) : Bool := (s.outRing q).live && (s.outRing q).stream == stream

/-- The status of a RING_CREATE. -/
def State.ringCreateStatus (s : State) (d : Desc) (o : RingCreateOp) : Nat :=
  let sub := decide (o.kind = 0#2)
  let n := d.handle.toNat
  let hi := if sub then 1023 else 4095
  let cq := s.outRing o.cq.toNat
  let handleBad := (decide (o.kind ≠ 3#2) && decide (n > hi)) || (sub && !s.hasOut o.cq.toNat false)
  let argBad := decide (o.kind = 3#2) || decide (o.log2.toNat < 4) || decide (o.log2.toNat > (if sub then 16 else 20)) ||
    decide (o.base.toNat % 4096 ≠ 0) || decide (o.batchK.toNat > 64) || (decide (o.batchK.toNat ≠ 0) && !o.priv) ||
    (sub && decide (cq.tenant ≠ o.tenant.toNat))
  let busy := if sub then (s.subRing n).live else (s.outRing n).live
  firstStatus [s.plainChecks d (.ringCreate o) handleBad argBad, failIf busy 0x21]

/-- The ring a RING_CREATE makes, its indices 0 (R311). -/
def State.makeRing (s : State) (n : Nat) (o : RingCreateOp) : State :=
  if o.kind = 0#2 then
    s.setSub n { live := true, base := o.base.toNat, log2 := o.log2.toNat, priv := o.priv, pasidEn := o.pasidEn, pasid := o.pasid.toNat,
                 tenant := o.tenant.toNat, cq := o.cq.toNat, cons := 0, prod := 0, error := false }
  else
    s.setOut n { OutRing.absent with live := true, stream := decide (o.kind = 2#2), base := o.base.toNat, log2 := o.log2.toNat, priv := o.priv,
                                     pasidEn := o.pasidEn, pasid := o.pasid.toNat, tenant := o.tenant.toNat, vector := o.vector.toNat,
                                     modCount := o.modCount.toNat, modUs := o.modUs.toNat, batchK := o.batchK.toNat }

/-- RING_CREATE; the recovery service answers NO_ROOM (R417). -/
def State.ringCreateOp (s : State) (d : Desc) (o : RingCreateOp) (c : DescRef) : State :=
  let st := s.ringCreateStatus d o
  if s.pwr.state = .twilight ∧ s.sec.bank = 3 then s.complete c (if st = 0x13 then 0x13 else if st = 0x12 then 0x12 else if st = 0x11 then 0x11 else 0x20) 0 0
  else if st ≠ 0 then s.complete c st 0 0
  else (s.makeRing d.handle.toNat o).complete c 0 0 0

/-- Whether a submission ring names output ring `q` as its completion ring. -/
def State.namedCq (s : State) (q : Nat) : Bool := decide (q = 0) || s.hif.subs.any (fun e => e.2.live && decide (e.2.cq = q))

/-- The status of a RING_DESTROY (R327). -/
def State.ringDestroyStatus (s : State) (d : Desc) (kind : BitVec 2) : Nat :=
  let n := d.handle.toNat
  let sub := decide (kind = 0#2)
  let exist := if sub then decide (n ≤ 1023) && (s.subRing n).live else decide (n ≤ 4095) && s.hasOut n (decide (kind = 2#2))
  let busy := if sub then s.hif.fetched.any (fun f => f.desc.ring == n)
    else s.namedCq n || s.liveSessions.any (fun k => (s.sess k).ring == n) || decide ((s.outRing n).resv > 0) || decide ((s.outRing n).prod < (s.outRing n).next)
  firstStatus [failIf (s.denied d (.ringDestroy kind) || (decide (n = 0) && decide (kind ≠ 3#2))) 0x13,
               s.plainChecks d (.ringDestroy kind) (decide (kind ≠ 3#2) && !exist) (decide (kind = 3#2)), failIf busy 0x21]

/-- RING_DESTROY. -/
def State.ringDestroyOp (s : State) (d : Desc) (kind : BitVec 2) (c : DescRef) : State :=
  let st := s.ringDestroyStatus d kind
  if st ≠ 0 then s.complete c st 0 0
  else
    let n := d.handle.toNat
    (if kind = 0#2 then s.setSub n SubRing.absent else s.setOut n OutRing.absent).complete c 0 0 0

/-- RING_RESET (R328): the unfetched descriptors are discarded, ERROR is cleared. -/
def State.ringResetOp (s : State) (d : Desc) (c : DescRef) : State :=
  let n := d.handle.toNat
  let st := s.plainChecks d .ringReset (decide (n > 1023) || !(s.subRing n).live) false
  if st ≠ 0 then s.complete c st 0 0
  else
    let x := s.subRing n
    let p := Memory.readLE s.mem.host (s.doorbell (0x1000 + 8 * n)) 8
    let s := s.setSub n { x with cons := p, prod := p, error := false }
    (s.hostWrite (s.shadow (8 * n)) (leBytes 8 p)).complete c 0 (p - x.cons) 0

/-! ### Windows, quotas, rules and stop sets (R249, R250, R329) -/

/-- HOST_WINDOW. -/
def State.hostWindowOp (s : State) (d : Desc) (o : HostWindowOp) (c : DescRef) : State :=
  let n := d.handle.toNat
  let st := s.plainChecks d (.hostWindow o) (decide (n > 4095))
    (decide (o.pages.toNat = 0) || decide (o.pages.toNat > 1048576) || decide (o.host.toNat % 4096 ≠ 0))
  if st ≠ 0 then s.complete c st 0 0
  else
    let w : HostWindow := { valid := o.valid, write := o.write, tenant := o.tenant.toNat, pasid := o.pasid.toNat, pages := o.pages.toNat, host := o.host.toNat }
    { s with mem := { s.mem with windows := Sparse.set (fun _ => HostWindow.invalid) s.mem.windows n w } }.complete c 0 0 0

/-- TENANT_QUOTA: the limits and WAYS change, the USED fields stay (R217, R218). -/
def State.tenantQuotaOp (s : State) (d : Desc) (o : QuotaOp) (c : DescRef) : State :=
  let t := d.handle.toNat
  let st := s.plainChecks d (.tenantQuota o) (decide (t > 1023)) (decide (o.marginLimit.toNat > 4096))
  if st ≠ 0 then s.complete c st 0 0
  else
    let q := { s.quota t with pageLimit := o.pageLimit.toNat, t2Limit := o.t2Limit.toNat, marginLimit := o.marginLimit.toNat, ways := o.ways.toNat }
    (s.setQuota t q).complete c 0 q.t2Used q.pageUsed

/-- TENANT_RULES. -/
def State.tenantRulesOp (s : State) (d : Desc) (weight : BitVec 8) (c : DescRef) : State :=
  let t := d.handle.toNat
  let st := s.plainChecks d (.tenantRules weight) (decide (t > 1023)) false
  if st ≠ 0 then s.complete c st 0 0
  else { s with srv := { s.srv with weights := Sparse.set (fun _ => 1) s.srv.weights t weight.toNat } }.complete c 0 0 0

/-- Whether a stop set keeps its ranges: all eight lengths are 1-16 (R249). -/
def stopSetOk (b : List Byte) : Bool :=
  decide (hfield b 0 1 ≤ 32) && decide (hfield b 1 1 ≤ 8) &&
  (List.range 8).all (fun q => decide (1 ≤ hfield b (8 + q) 1 ∧ hfield b (8 + q) 1 ≤ 16))

/-- STOPSET_WRITE; one into a resident image is not permitted (R286, log entry 115). -/
def State.stopsetWriteOp (s : State) (d : Desc) (src : BitVec 48) (x : Ext) (c : DescRef) : State :=
  let n := d.handle.toNat
  let a := s.tableAddr Off.srvStopsets + 768 * n
  let st := inOrder15 [failIf (decide (n ≤ 4095) && s.meetsImage a 768) 0x13, s.plainChecks d (.stopsetWrite src x) (decide (n > 4095)) false,
                       s.checkAccess (some (s.tenantOf d)) false src.toNat 768]
  if st ≠ 0 then s.complete c st 0 0
  else
    let (bs, st, s) := (s.absorb x).outRead (.office (s.tenantOf d)) x src.toNat 768
    if st ≠ 0 then s.complete c st 0 0
    else if !stopSetOk bs then s.complete c 0x11 0 0
    else
      let (bad, s) := s.foWrite a bs
      s.complete c (if bad = [] then 0 else 0x30) 0 0

/-! ### Lessons (R330) -/

/-- The Wings a mask names. -/
def wingsOf (m : BitVec 4) : List Wing := (List.finRange 4).filter (fun w => bit m.toNat w.val)

/-- The Library offset of lesson table entry `n` of Wing `w` (R124). -/
def State.entryAt (s : State) (w : Wing) (n : Nat) : Nat := s.regField (Off.seqLessonTable w) 11 19 * 2048 + 8 * n

/-- The Front Office reads lesson table entry `n` of these Wings, and for a callee's check the lesson's KIND (R24, R184). -/
def State.lookEntries (s : State) (ws : List Wing) (n : Nat) (kind : Bool) : State :=
  ws.foldl (fun s w =>
    let o := field (s.libLE w (s.entryAt w n) 8) 7 23 * 128
    let s := s.libTouchFo w (s.entryAt w n) 8
    if kind then s.libTouchFo w (o + 3) 1 else s) s

/-- Whether a lesson table entry is VALID. -/
def State.entryValid (s : State) (w : Wing) (n : Nat) : Bool := bit (s.libLE w (s.entryAt w n) 8) 0

/-- LESSON_INSTALL: what the ring and the entry's number refuse comes before anything is read; then the lesson is read and checked whole, a reserved unit or opcode first
(R15, R125, R330). -/
def State.lessonInstallOp (s : State) (d : Desc) (o : LessonInstallOp) (x : Ext) (c : DescRef) : State :=
  let n := d.handle.toNat
  let src := o.src.toNat
  let op := DescOp.lessonInstall o x
  let peer := match placeOf src with | .peer _ _ => true | _ => false
  let q := Requester.office (s.tenantOf d)
  let st := firstStatus [failIf (s.denied d op) 0x13, failIf (decide (n > 255)) 0x12, failIf peer 0x11]
  if st ≠ 0 then s.complete c st 0 0
  else
    let (hdr, st, s) := (s.absorb x).outRead q x src 128
    let len := lessonLen hdr
    let size := 128 * (len + 1)
    if st ≠ 0 then s.complete c st 0 0
    else if len = 0 ∨ len > 16777216 then s.complete c 0x11 0 0
    else
      let (bs, st, s) := s.outRead q x src size
      let ws := wingsOf o.wings
      let s := s.lookEntries ws n false
      let code := lessonStatus bs
      let argBad := badBits d op || decide (o.wings = 0#4) || decide (code ≠ 0) || decide (hfield hdr 10 1 ≠ n) || decide (o.dest.toNat % 128 ≠ 0) ||
        ws.any (fun w => decide (o.dest.toNat + size > s.scratchEnd w))
      let st := firstStatus [st, failIf (decide (code = 0x10)) 0x10, failIf argBad 0x11, failIf (ws.any (fun w => s.entryValid w n)) 0x21]
      if st ≠ 0 then s.complete c st 0 0
      else
        let s := ws.foldl (fun s w => (s.libWriteFo w o.dest.toNat bs).libWriteFo w (s.entryAt w n) (leBytes 8 (o.dest.toNat + 1))) s
        s.complete c 0 len 0

/-- A slot whose lessons must stay: RESIDENT, LOADING or REPAIRING (R330). -/
def SlotRec.usesLessons (r : SlotRec) : Bool := r.state == .resident || r.state == .loading || r.state == .repairing

/-- LESSON_REMOVE. -/
def State.lessonRemoveOp (s : State) (d : Desc) (wings : BitVec 4) (c : DescRef) : State :=
  let n := d.handle.toNat
  let st := s.plainChecks d (.lessonRemove wings) (decide (n > 255)) false
  if st ≠ 0 then s.complete c st 0 0
  else
    let ws := wingsOf wings
    let s := s.lookEntries ws n true
    let callee := ws.any (fun w => s.entryValid w n && decide (s.libLE w (field (s.libLE w (s.entryAt w n) 8) 7 23 * 128 + 3) 1 = 1))
    let busy := s.mdl.slots.any (fun e => e.2.usesLessons && (callee || (match e.2.img with
      | some i => decide (i.stepLesson = n) || decide (i.idleLesson = n)
      | none => false)))
    if busy then s.complete c 0x21 0 0
    else (ws.foldl (fun s w => s.libWriteFo w (s.entryAt w n) (leBytes 8 0)) s).complete c 0 0 0

/-! ### Ranges that setup must not touch -/

/-- Whether a range overlaps the KV pool. -/
def State.meetsPool (s : State) (a n : Nat) : Bool :=
  match s.srv.pool with
  | none => false
  | some p => rangesMeet a n p.records (64 * 2 ^ p.recLog2) || (List.range 4).any (fun w => rangesMeet a n (p.bases.getD w 0) (16384 * 2 ^ p.log2s.getD w 0))

/-- Whether a range overlaps a table of R281. -/
def State.meetsTable (s : State) (a n : Nat) : Bool :=
  rangesMeet a n (s.tableAddr Off.srvSessionTable) (256 * s.sessCount) ||
  rangesMeet a n (s.tableAddr Off.srvPrefixBuckets) (4 * s.bucketCount) ||
  rangesMeet a n (s.tableAddr Off.srvPrefixNodes) (128 * s.nodeCount) ||
  rangesMeet a n (s.tableAddr Off.srvPrefixExt) (s.extSize * s.nodeCount) ||
  rangesMeet a n (s.tableAddr Off.srvStopsets) (768 * stopsets)

/-- Whether a session is live. -/
def State.anySession (s : State) : Bool := !s.liveSessions.isEmpty

/-- Whether every granule of a range lies within HBM and is PROTECTED (R196). -/
def State.allProtected (s : State) (a n : Nat) : Bool :=
  decide (a + n ≤ hbmSize) && s.mem.checked.all (fun e => !rangesMeet a n (e.1 * 2 ^ 21) (2 ^ 21))

/-! ### MEM_CLASS, KV_POOL and MEM_COPY (R197, R331-R333) -/

/-- MEM_CLASS: the granules are written with zeros under the new class; it completes when CLASS_CHANGE_DONE tells that they are. -/
def State.memClassOp (s : State) (d : Desc) (o : MemClassOp) (c : DescRef) : State :=
  let a := o.addr.toNat
  let n := o.count.toNat
  let busy := decide (n ≠ 0) && (s.meetsImage a (n * 2 ^ 21) || s.meetsPool a (n * 2 ^ 21) || (s.anySession && s.meetsTable a (n * 2 ^ 21)))
  let st := firstStatus [s.plainChecks d (.memClass o) false (decide (a % 2 ^ 21 ≠ 0) || decide (a + n * 2 ^ 21 > hbmSize)),
                         failIf (decide (n = 0)) 1, failIf busy 0x21]
  if st ≠ 0 then s.complete c st 0 0
  else
    let (_, s) := s.t1Write 2 1 none a (List.replicate (n * 2 ^ 21) 0)
    let marks := (List.range n).foldl (fun m j => setMark m (a / 2 ^ 21 + j) o.checked) s.mem.checked
    { s with mem := { s.mem with checked := marks, classes := s.mem.classes ++ [{ first := a / 2 ^ 21, count := n, desc := c }] } }

/-- CLASS_CHANGE_DONE: the oldest change of class completes. -/
def State.classChangeDone (s : State) : State :=
  match s.mem.classes with
  | [] => s
  | r :: rs => { s with mem := { s.mem with classes := rs } }.complete r.desc 0 r.count 0

/-- The status of a KV_POOL; one over a resident image is not permitted (R286, log entry 115). -/
def State.kvPoolStatus (s : State) (d : Desc) (o : KvPoolOp) : Nat :=
  let areas := [(o.base0.toNat, o.log0.toNat), (o.base1.toNat, o.log1.toNat), (o.base2.toNat, o.log2.toNat), (o.base3.toNat, o.log3.toNat)]
  let bad := fun (e : (Nat × Nat) × Nat) =>
    let n := 16384 * 2 ^ e.1.2
    decide (e.1.2 < 4) || decide (e.1.2 > 25) || decide (e.1.1 % 16384 ≠ 0) || decide (e.1.1 < e.2 * 2 ^ 39) || decide (e.1.1 + n > (e.2 + 1) * 2 ^ 39) ||
    !s.allProtected e.1.1 n
  let argBad := decide (o.recLog2.toNat < 10) || decide (o.recLog2.toNat > 26) || decide (o.records.toNat % 2 ^ 21 ≠ 0) ||
    !s.allProtected o.records.toNat (64 * 2 ^ o.recLog2.toNat) || areas.zipIdx.any bad
  let live := s.anySession || (List.range s.nodeCount).any (fun n => decide ((s.node n).state = 1))
  let guarded := s.meetsImage o.records.toNat (64 * 2 ^ o.recLog2.toNat) || areas.any (fun e => s.meetsImage e.1 (16384 * 2 ^ e.2))
  firstStatus [failIf (s.denied d (.kvPool o) || guarded) 0x13, s.plainChecks d (.kvPool o) false argBad, failIf live 0x21]

/-- KV_POOL: every record FREE, every slot free; a page number given up before is still not issued (R244, R454). -/
def State.kvPoolOp (s : State) (d : Desc) (o : KvPoolOp) (c : DescRef) : State :=
  let st := s.kvPoolStatus d o
  if st ≠ 0 then s.complete c st 0 0
  else
    let p : KvPool := { records := o.records.toNat, recLog2 := o.recLog2.toNat, bases := [o.base0.toNat, o.base1.toNat, o.base2.toNat, o.base3.toNat],
                        log2s := [o.log0.toNat, o.log1.toNat, o.log2.toNat, o.log3.toNat] }
    let s := s.foPut p.records (List.replicate (64 * 2 ^ p.recLog2) 0)
    { s with srv := { s.srv with pool := some p, usedSlots := [], retiring := [] } }.complete
      c 0 (2 ^ p.recLog2) 0

/-- The bytes MEM_COPY writes from its PATTERN. -/
def patternBytes (p n : Nat) : List Byte := (List.range n).map (fun i => BitVec.ofNat 8 (p / 2 ^ (8 * (i % 8))))

/-- Write a copy's bytes: of uncorrectable source sectors (numbered from the copy's start) a T1 destination is written poisoned, and host or peer memory is not written
(R200, R333). The answer is the status of the write. -/
def State.putCopy (s : State) (q : Requester) (x : Ext) (dst : Nat) (bs : List Byte) (lost : List Nat) : Nat × State :=
  if dst < hbmSize then
    let (st, s) := s.outWrite q x dst bs
    (st, lost.foldl (fun s j => s.poisonSector (dst / 32 + j)) s)
  else if lost = [] then s.outWrite q x dst bs
  else
    (List.range (bs.length / 32)).foldl (fun (acc : Nat × State) j =>
      if lost.contains j then acc
      else
        let (st, s) := acc.2.outWrite q x (dst + 32 * j) ((bs.drop (32 * j)).take 32)
        (if acc.1 ≠ 0 then acc.1 else st, s)) (0, s)

/-- The status of a MEM_COPY: its own checks with those of its windows, in the order of R15 (R208, log entry 118). -/
def State.memCopyStatus (s : State) (d : Desc) (o : MemCopyOp) (x : Ext) : Nat :=
  let src := o.src.toNat
  let dst := o.dst.toNat
  let n := o.length.toNat
  let op := DescOp.memCopy o x
  let t := some (s.tenantOf d)
  let guarded := s.meetsImage dst n || (s.anySession && (s.meetsPool dst n || s.meetsTable dst n))
  let argBad := badBits d op || decide (dst % 32 ≠ 0) || decide (n % 32 ≠ 0) || (!o.fill && decide (src % 32 ≠ 0))
  inOrder15 [failIf (s.denied d op || guarded) 0x13, s.checkAccess t true dst n, if o.fill then 0 else s.checkAccess t false src n, failIf argBad 0x11,
             failIf (decide (n = 0)) 1]

/-- MEM_COPY; it completes when MEM_COPY_DONE tells that its last write is issued. -/
def State.memCopyOp (s : State) (d : Desc) (o : MemCopyOp) (x : Ext) (c : DescRef) : State :=
  let src := o.src.toNat
  let dst := o.dst.toNat
  let n := o.length.toNat
  let q := Requester.engine (s.tenantOf d)
  let st := s.memCopyStatus d o x
  if st ≠ 0 then s.complete c st 0 0
  else
    let s := s.absorb x
    let t1 := fun (a : Nat) => if a < hbmSize then s.stacksOf a n else []
    let ks := uniq (t1 dst ++ (if o.fill then [] else t1 src))
    let fin := fun (st : Nat) (s : State) => { s with mem := { s.mem with copies := s.mem.copies ++ [{ status := st, waitsAt := ks, length := n, desc := c }] } }
    if o.fill then
      let (st, s) := s.putCopy q x dst (patternBytes o.pattern.toNat n) []
      fin st s
    else if src < hbmSize then
      let (bs, bad, s) := s.t1Read q.cls q.hint q.ways src n
      let (st, s) := s.putCopy q x dst bs (bad.map (fun y => y - src / 32))
      fin (if bad = [] then st else 0x30) s
    else
      let (bs, st, s) := s.outRead q x src n
      if st ≠ 0 then s.complete c st 0 0
      else
        let (st, s) := s.putCopy q x dst bs []
        fin st s

/-- MEM_COPY_DONE: the oldest copy completes. -/
def State.memCopyDone (s : State) : State :=
  match s.mem.copies with
  | [] => s
  | r :: rs => { s with mem := { s.mem with copies := rs } }.complete r.desc r.status r.length 0

end Sys2Proof.Machine
end

