-- ==== Sys2Proof/Machine/Tiers.lean ====
section
/-! DEFINITION. The tier-move engine: demotion and promotion of KV pages, pauses and resumes (R210-R215, R218, R270, R271, R334). -/

namespace Sys2Proof.Machine

open Sys2Proof

/-! ### Codes and forms (R211, R212) -/

/-- Repack an 8-bit code to width `b` (R211). -/
def demoteCode (q : Byte) (b : Nat) : Nat :=
  let x := q.toInt
  unsigned b (if b ≥ 8 then x else satSym (rneShiftInt x (8 - b)) (2 ^ (b - 1) - 1))

/-- Restore a code of width `b` (R211). -/
def promoteCode (r b : Nat) : Byte := BitVec.ofInt 8 (signed b r * 2 ^ (8 - b))

/-- The packed payload: code i at bits [b*i + b - 1 : b*i] (R212). -/
def packCodes (bs : List Byte) (b : Nat) : List Byte :=
  let n := (bs.zipIdx).foldl (fun acc e => acc + demoteCode e.1 b * 2 ^ (b * e.2)) 0
  leBytes (bs.length * b / 8) n

/-- Unpack and promote `n` codes. -/
def unpackCodes (p : List Byte) (b n : Nat) : List Byte :=
  let x := leNat p
  (List.range n).map (fun i => promoteCode (field x (b * i) b) b)

/-- CHK of a packed payload: one CRC per 2,048 bytes, 16 fields. -/
def formChecks (p : List Byte) : List Nat :=
  (List.range 16).map (fun j => if 2048 * j < p.length then crc16 ((p.drop (2048 * j)).take 2048) else 0)

/-- A demoted page: header, packed payload, zeros to a whole sector (R212). -/
def pageForm (bs : List Byte) (head : Bool) (b n : Nat) : List Byte :=
  let p := packCodes bs b
  let f := leBytes 1 0x05 ++ leBytes 1 b ++ leBytes 2 (b2n head) ++ leBytes 4 p.length ++ leBytes 4 n ++ leBytes 4 0 ++
           (formChecks p).flatMap (leBytes 2) ++ List.replicate 16 0 ++ p
  f ++ List.replicate (32 * ceilDiv f.length 32 - f.length) 0

/-- Whether a form passes its check for page `n` with head dimension D (R212, R215). -/
def formOk (f : List Byte) (d n b : Nat) : Bool :=
  let len := 128 * d * b / 8
  let p := (f.drop 64).take len
  decide (hfield f 0 1 = 0x05 ∧ hfield f 1 1 = b ∧ hfield f 2 2 = b2n (decide (d = 256)) ∧ hfield f 4 4 = len ∧ hfield f 8 4 = n) &&
  decide ((List.range 16).map (fun j => hfield f (16 + 2 * j) 2) = formChecks p)

/-! ### T1 accesses of the engine (R216) -/

/-- Read T1 bytes for the engine, in class 2 with the STREAM hint and the tenant's ways: bytes, whether a sector was uncorrectable. -/
def State.engineRead (s : State) (tenant : Option Nat) (a n : Nat) : List Byte × Bool × State :=
  let (bs, bad, s) := s.t1Read 2 1 tenant a n
  (bs, !bad.isEmpty, s)

/-- Write T1 bytes for the engine; the answer says whether a sector was left as stored. -/
def State.engineWrite (s : State) (tenant : Option Nat) (a : Nat) (bs : List Byte) : Bool × State :=
  let (bad, s) := s.t1Write 2 1 tenant a bs
  (!bad.isEmpty, s)

/-! ### Requests (R213, R270, R271) -/

/-- Page numbers in ascending order, each once. -/
def sortPages (l : List Nat) : List Nat := uniq (sortBy (fun a b => decide (a ≤ b)) l)

/-- The pages a pause demotes: those the session alone references, in T1, in page-number order. -/
def State.demotable (s : State) (k : Nat) : List Nat :=
  sortPages ((s.namedPages k (s.sess k)).filter (fun n =>
    let p := s.page n
    decide (p.refs = 1) && !p.tree && decide (p.tier = 0) && decide (p.state = 1 ∨ p.state = 2 ∨ p.state = 3)))

/-- The pages a resume promotes. -/
def State.promotable (s : State) (k : Nat) : List Nat :=
  sortPages ((s.namedPages k (s.sess k)).filter (fun n => decide ((s.page n).tier = 1) && decide ((s.page n).state ≠ 4)))

/-- Replace the first request of the engine. -/
def State.setMove (s : State) (r : MoveReq) : State :=
  { s with mem := { s.mem with moves := match s.mem.moves with | [] => [] | _ :: rs => r :: rs } }

/-- Take the first request away. -/
def State.popMove (s : State) : State := { s with mem := { s.mem with moves := s.mem.moves.drop 1 } }

/-- The bytes of the forms of pages at a width. -/
def State.formsTotal (s : State) (l : List Nat) (b : Nat) : Nat := (l.map (fun n => formBytes (s.page n).d b)).sum

/-- Reserve a T1 slot and a page charge for each page: the slots, or none when a pool or a quota cannot give one. -/
def State.reserveSlots (s : State) (i : Image) : List Nat → Option (List Nat) × State
  | [] => (some [], s)
  | n :: ns =>
    let p := s.page n
    let w := i.headWing p.kvhead
    let (ok, s) := s.chargePage p.tenant
    match ok, s.findSlot w p.head with
    | true, some k =>
      let a := s.slotAddr w k
      let (rest, s) := (s.markSlot w k p.head true).reserveSlots i ns
      (rest.map (fun l => a :: l), s)
    | _, _ => (none, s)

/-- The end of a pause: PAUSED with its expiry (R270). -/
def State.finishPause (s : State) (r : MoveReq) : State :=
  let ttl := if r.ttl = 0 then s.regField Off.srvTtl 0 32 else r.ttl
  let s := s.modSess r.sess (fun x => { x with state := 4, expire := if ttl = 0 then 0 else (s.srv.nowMs + ttl) % 2 ^ 64 })
  let s := { s with srv := { s.srv with widths := Sparse.set (fun _ => 8) s.srv.widths r.sess r.width } }
  (if r.status = 0 then s.bump Off.memMoves 1 else s).complete r.desc r.status r.bytes r.moved

/-- The end of a resume: IDLE; the pause's expiry is over (R271). -/
def State.finishResume (s : State) (r : MoveReq) : State :=
  let s := s.modSess r.sess (fun x => { x with state := 1, expire := 0 })
  let s := { s with srv := { s.srv with widths := Sparse.set (fun _ => 8) s.srv.widths r.sess 8 } }
  (s.bump Off.memMoves 1).complete r.desc 0 0 r.moved

/-- Finish the first request. -/
def State.finishMove (s : State) (r : MoveReq) : State :=
  let s := s.popMove
  if r.resume then s.finishResume r else s.finishPause r

/-- Whether the forms of a pause's pages do not fit LENGTH, now that its Trays are flushed (R334). -/
def State.formsOver (s : State) (r : MoveReq) (units : List Nat) : Bool := decide (s.formsTotal units r.width > r.length)

/-- TIER_MOVE_REQUEST: the oldest request not begun reserves its destination and is charged, all or nothing (R213). A pause waits until its Trays are
flushed (R270). A refusal completes it with NO_ROOM and puts its session back. -/
def State.moveBegin (s : State) : State :=
  match s.mem.moves with
  | [] => s
  | r :: _ =>
    if r.started ∨ (!r.resume && s.srv.flush.contains r.sess) then s
    else
      match s.image (s.sess r.sess).model with
      | none => s
      | some i =>
        if r.resume then
          let units := s.promotable r.sess
          match s.reserveSlots i units with
          | (some ds, s) =>
            let r := { r with units := units, dests := ds, started := true }
            let s := s.setMove r
            if units = [] then s.finishMove r else s
          | (none, _) => (s.popMove.modSess r.sess (fun x => { x with state := 4, expire := r.ttl })).complete r.desc 0x20 0 0
        else
          let units := s.demotable r.sess
          match (if s.formsOver r units then (false, s) else s.chargeT2 r.tenant (s.formsTotal units r.width)) with
          | (true, s) =>
            let r := { r with units := units, started := true }
            let s := s.setMove r
            if units = [] then s.finishMove r else s
          | (false, s) => (s.popMove.modSess r.sess (fun x => { x with state := 1 })).complete r.desc 0x20 0 0

/-! ### Units (R213, R215) -/

/-- The first failing status of a request stays. -/
def MoveReq.fail (r : MoveReq) (st : Nat) : MoveReq := { r with status := if r.status = 0 then st else r.status }

/-- A unit of a pause that could not be moved: its charge in T2 goes back (R215). -/
def State.failUnit (s : State) (r : MoveReq) (st n : Nat) : MoveReq × State :=
  (r.fail st, (s.releaseT2 r.tenant (formBytes (s.page n).d r.width)).bump Off.memMoveFails 1)

/-- Demote page `n` of a pause: the form goes through the window, the record names it, the slot and its charge are freed. -/
def State.demoteUnit (s : State) (r : MoveReq) (n : Nat) : MoveReq × State :=
  let p := s.page n
  let len := formBytes p.d r.width
  let r' := { r with offset := r.offset + len }
  let handle := (s.sess r.sess).handle
  let s := s.lookPage n handle
  let st := if s.pageGone n then 0x30 else s.checkWindow (some r.tenant) true r.window r.offset len
  if st ≠ 0 then s.failUnit r' st n
  else
    let (bs, bad, s) := s.engineRead (some r.tenant) p.addr p.size
    if bad then
      let s := s.losePage n handle
      s.failUnit r' 0x30 n
    else
      let s := s.hostWrite (s.hostAddr r.window r.offset) (pageForm bs p.head r.width n)
      let s := s.setPage n { p with tier := 1, addr := 0x200000000000 + r.window * 2 ^ 32 + r.offset }
      let s := (s.freeSlot p.addr p.head).releasePage p.tenant
      ({ r' with bytes := r.bytes + len, moved := r.moved + 1 }, s)

/-- Read a form for promotion and check it for page `n` with head dimension `d` and width `b`: its bytes, or DATA_LOST when the window does not let it be read, the host's
answer fails or its check does (R212, R215). -/
def State.readForm (s : State) (r : MoveReq) (x : Ext) (a d n b : Nat) : Except Nat (List Byte) × State :=
  let (f, st, s) := s.outRead (.engine r.tenant) x a (formBytes d b)
  (if st = 0 ∧ formOk f d n b then .ok f else .error 0x30, s)

/-- A resume fails: the page's form and every other page of the session are given up, and the session ends (R215, R271). -/
def State.failResume (s : State) (r : MoveReq) : State :=
  let w := Sparse.get (fun _ => 8) s.srv.widths r.sess
  let s := (r.units.zip r.dests).foldl (fun s e => (s.freeSlot e.2 (s.page e.1).head).releasePage (s.page e.1).tenant) s
  let s := (s.popMove.bump Off.memMoveFails 1).releaseForms r.sess (s.sess r.sess) w
  (s.freeSession r.sess).complete r.desc 0x30 0 0

/-- Promote page `n` to the slot at `dst`: checked, then the record names the slot and the T2 charge is released; none when both reads fail. -/
def State.promoteUnit (s : State) (r : MoveReq) (x : Ext) (n dst : Nat) : Option MoveReq × State :=
  let s := s.lookPage n (s.sess r.sess).handle
  let p := s.page n
  let w := Sparse.get (fun _ => 8) s.srv.widths r.sess
  match (if s.pageGone n then (.error 0x30, s) else s.readTwice (fun s => s.readForm r x p.addr p.d n w)) with
  | (.error _, s) => (none, s)
  | (.ok f, s) =>
    let (_, s) := s.engineWrite (some r.tenant) dst (unpackCodes (f.drop 64) w p.size)
    let s := s.setPage n { p with tier := 0, addr := dst }
    (some { r with moved := r.moved + 1 }, s.releaseT2 r.tenant (formBytes p.d w))

/-- TIER_MOVE_UNIT_DONE: the next unit of the request in progress. Moves through host windows wait while requests are not allowed (R309), and no new unit
starts while a MEM or LIB commit is pending (R401). -/
def State.moveUnit (s : State) (x : Ext) : State :=
  match s.mem.moves with
  | [] => s
  | r :: _ =>
    if !r.started ∨ !s.canIssue ∨ s.memCommitPending then s
    else
      let s := s.absorb x
      match r.units with
      | [] => s.finishMove r
      | n :: ns =>
        if r.resume then
          match s.promoteUnit r x n (r.dests.headD 0) with
          | (none, s) => s.failResume r
          | (some r, s) =>
            let r := { r with units := ns, dests := r.dests.drop 1 }
            let s := s.setMove r
            if ns = [] then s.finishMove r else s
        else
          let (r, s) := s.demoteUnit r n
          let r := { r with units := ns }
          let s := s.setMove r
          if ns = [] then s.finishMove r else s

end Sys2Proof.Machine
end

