-- ==== Sys2Proof/Machine/Models.lean ====
section
/-! DEFINITION. Model slots and Margin-set versions: image checks (R283, R284, R289, R301), loading, unloading and queries (R287, R288, R290), versions
(R292-R295), and the repair of shared images (R296-R299). -/

namespace Sys2Proof.Machine

open Sys2Proof

/-! ### Image headers and span tables (R283, R284) -/

/-- Bits `[lo + w - 1 : lo]` of the bytes at `o` (`n` bytes wide) are 0. -/
def zeroField (b : List Byte) (o n lo w : Nat) : Bool := decide (field (hfield b o n) lo w = 0)

/-- Every byte from `o` on is 0, for `n` bytes. -/
def zeroBytes (b : List Byte) (o n : Nat) : Bool := ((b.drop o).take n).all (fun x => x == 0)

/-- The header's PART, FORMAT, KIND (`kind` 0 a model, 1 a Margin set), SPANS and reserved bits are as R283 gives (R289 step 2). -/
def headerOkFor (kind : Nat) (b : List Byte) : Bool :=
  decide (hfield b 0 2 = 0x0B32 ∧ hfield b 2 1 = 0x0A ∧ hfield b 3 1 = kind ∧ 2 ≤ hfield b 4 4 ∧ hfield b 4 4 ≤ 64) &&
  zeroField b 25 1 6 2 && zeroField b 28 4 18 14 && zeroField b 32 4 17 15 && zeroField b 36 2 10 6 && zeroField b 38 2 13 3 && zeroBytes b 46 2 &&
  zeroBytes b 88 168 &&
  (decide (kind = 0) || (zeroBytes b 26 2 && zeroField b 28 4 0 18 && zeroField b 32 4 0 17 && zeroField b 36 2 0 10 && zeroBytes b 40 6))

/-- Entry `j` of a span table. -/
def spanEntry (t : List Byte) (j : Nat) : Span :=
  let e := (t.drop (32 * j)).take 32
  { kind := hfield e 0 1, offset := hfield e 8 8, length := hfield e 16 8, dest := hfield e 24 6 }

/-- The spans of a table. -/
def spanTable (t : List Byte) : List Span := (List.range (t.length / 32)).map (spanEntry t)

/-- Spans of one kind. -/
def kindCount (ps : List Span) (k : Nat) : Nat := (ps.filter (fun p => p.kind == k)).length

/-- Chunks of the spans that are not hash spans. -/
def bodyChunks (ps : List Span) : Nat := (ps.map (fun p => if p.kind = 0x0F then 0 else p.chunks)).sum

/-- One span keeps the layout rules of R284 within an image of `len` bytes with `n` chunks. -/
def spanOk (len n : Nat) (p : Span) : Bool :=
  decide (p.kind ∈ [0x01, 0x02, 0x03, 0x04, 0x05, 0x0F]) && decide (p.offset % chunkSize = 0) && decide (p.dest % chunkSize = 0) && decide (1 ≤ p.length) &&
  decide (p.offset + p.length ≤ len) && (decide (p.kind ≠ 0x0F) || decide (p.length = 32 * n))

/-- A span table keeps the rules of R284 (R289 step 3); `kind` as the header's. -/
def tableOk (kind len : Nat) (t : List Byte) : Bool :=
  let ps := spanTable t
  ps.all (spanOk len (bodyChunks ps)) && (List.range (t.length / 32)).all (fun j => zeroBytes t (32 * j + 1) 7 && zeroBytes t (32 * j + 30) 2) &&
  decide (kindCount ps 0x01 = 1 ∧ kindCount ps 0x0F = 1) &&
  (if kind = 0 then decide (kindCount ps 0x03 = 1 ∧ kindCount ps 0x04 = 1) else decide (kindCount ps 0x03 = 0 ∧ kindCount ps 0x04 = 0))

/-- The image a header, span table and hash span describe. -/
def readImage (b t h : List Byte) : Image :=
  { layers := hfield b 24 1, kvHeads := hfield b 25 1 % 32, d256 := bit (hfield b 25 1) 5, context := hfield b 26 2, vocab := hfield b 28 4 % 2 ^ 18,
    eot := hfield b 32 4 % 2 ^ 17, contrib := hfield b 36 2 % 16, agroup := field (hfield b 36 2) 4 6, rank := hfield b 38 2 % 128,
    wingmap := hfield b 40 4, stepLesson := hfield b 44 1, idleLesson := hfield b 45 1, head := b, table := t, hash := h, spans := spanTable t }

/-- RANK with NV and NU (R283, R289 step 5). -/
def rankOk (b : List Byte) (lo : Nat) : Bool :=
  let r := hfield b 38 2 % 128
  decide (lo ≤ r ∧ r ≤ 64) && (decide (r = 0) || decide (1 ≤ field (hfield b 38 2) 7 3 ∧ field (hfield b 38 2) 7 3 ≤ 4 ∧ 1 ≤ field (hfield b 38 2) 10 3 ∧ field (hfield b 38 2) 10 3 ≤ 4))

/-- LAYERS and KV_HEADS (R283). -/
def headsOk (b : List Byte) : Bool := decide (1 ≤ hfield b 24 1 ∧ hfield b 24 1 ≤ 128 ∧ 1 ≤ hfield b 25 1 % 32 ∧ hfield b 25 1 % 32 ≤ 16)

/-- The fields of a model image's header lie in their ranges (R283, R301). -/
def modelFieldsOk (b : List Byte) : Bool :=
  let ctx := hfield b 26 2
  let voc := hfield b 28 4 % 2 ^ 18
  let con := hfield b 36 2 % 16
  let ag := field (hfield b 36 2) 4 6
  headsOk b && rankOk b 0 && decide (ctx % 64 = 0 ∧ 64 ≤ ctx ∧ ctx ≤ 32768) && decide (1 ≤ voc ∧ voc ≤ 131072) && decide (1 ≤ con ∧ con ≤ 8) &&
  decide (1 ≤ ag ∧ ag ≤ 32) && decide (hfield b 80 8 = 0)

/-- The fields of a Margin-set image's header lie in their ranges. -/
def marginFieldsOk (b : List Byte) : Bool := headsOk b && rankOk b 1

/-- Entry `n` of Wing `w`'s lesson table is VALID and its lesson has KIND 0x00. -/
def State.stepEntry (s : State) (w : Wing) (n : Nat) : Bool :=
  s.entryValid w n && decide (s.libLE w (field (s.libLE w (s.entryAt w n) 8) 7 23 * 128 + 3) 1 = 0)

/-- STEP_LESSON and IDLE_LESSON stand where R289 step 5 asks. -/
def State.lessonsOk (s : State) (i : Image) : Bool :=
  (List.finRange 4).any (fun w => s.stepEntry w i.stepLesson) && (List.finRange 4).all (fun w => s.entryValid w i.stepLesson || s.stepEntry w i.idleLesson)

/-- Every span placed at `base` lies in PROTECTED granules of HBM. -/
def State.destsOk (s : State) (i : Image) (base : Nat) : Bool := i.spans.all (fun p => s.allProtected (base + p.dest) p.length)

/-- Whether a span placed at `base` overlaps a resident image or version. -/
def State.destsMeet (s : State) (i : Image) (base : Nat) : Bool := i.spans.any (fun p => s.meetsImage (base + p.dest) p.length)

/-! ### Reading and checking an image (R289) -/

/-- Whether a golden copy may be named at an address: in T1, a host window or a peer window, or nowhere (R191, R289). -/
def goldenPlace (a : Nat) : Bool := match placeOf a with | .hbm => true | .window _ _ => true | .peer _ _ => true | _ => false

/-- The chunks of a span: image offset, placement, length and its number (R284); the hash span's own chunks carry none. -/
def spanPieces (n : Nat) (p : Span) : List (Nat × Nat × Nat × Option Nat) :=
  (List.range p.chunks).map (fun c =>
    (p.offset + chunkSize * c, p.dest + chunkSize * c, min chunkSize (p.length - chunkSize * c), if p.kind = 0x0F then none else some (n + c)))

/-- Every chunk of an image in span-table order. -/
def imagePieces : Nat → List Span → List (Nat × Nat × Nat × Option Nat)
  | _, [] => []
  | n, p :: ps => spanPieces n p ++ imagePieces (if p.kind = 0x0F then n else n + p.chunks) ps

/-- Whether chunk bytes match their entry of the hash span. -/
def Image.chunkOk (i : Image) (c : Nat) (bs : List Byte) : Bool := decide (sha256 bs = (i.hash.drop (32 * c)).take 32)

/-- HASH covers header bytes 0-47, the span table and the hash span (R283). -/
def hashOk (b t h : List Byte) : Bool := decide (sha256 (b.take 48 ++ t ++ h) = (b.drop 48).take 32)

/-- The answer of steps 2 to 4: the image read, or the status of the first that fails. -/
inductive ImageRead where
  | ok (i : Image)
  | fail (status : Nat)
deriving DecidableEq, Repr

/-- Read the hash span of an image and check HASH (R283). -/
def State.readHash (s : State) (q : Requester) (x : Ext) (a n : Nat) (b t : List Byte) : Except Nat (List Byte) × State :=
  let (h, st, s) := s.outRead q x a n
  (if st ≠ 0 then .error st else if hashOk b t h then .ok h else .error 0x30, s)

/-- Steps 2 to 4 of R289: the header, the span table, the hash span. A hash span that fails HASH is read again once, and one that fails twice is a
failed unit (R215). `same` is the IMAGE_ID a PARKED slot
asks for. -/
def State.readImageAt (s : State) (q : Requester) (x : Ext) (kind src : Nat) (same : Option Nat) : ImageRead × State :=
  let (b, st, s) := s.outRead q x src 256
  if st ≠ 0 then (.fail st, s)
  else if !headerOkFor kind b then (.fail 0x11, s)
  else if (match same with | some n => decide (hfield b 8 8 ≠ n) | none => false) then (.fail 0x21, s)
  else
    let (t, st, s) := s.outRead q x (src + 256) (32 * hfield b 4 4)
    if st ≠ 0 then (.fail st, s)
    else if !tableOk kind (hfield b 16 8) t then (.fail 0x11, s)
    else
      match (spanTable t).find? (fun p => p.kind == 0x0F) with
      | none => (.fail 0x11, s)
      | some p =>
        match s.readTwice (fun s => s.readHash q x (src + p.offset) p.length b t) with
        | (.ok h, s) => (.ok (readImage b t h), s)
        | (.error st, s) => (.fail st, s.bump Off.memMoveFails 1)

/-- Bytes filled with zeros to whole sectors: the tier-move engine writes whole sectors (R202, log entry 119). -/
def wholeSectors (bs : List Byte) : List Byte := bs ++ List.replicate (32 * ceilDiv bs.length 32 - bs.length) 0

/-- Read a chunk of the image at `src` and check it against its hash (R213, R289). -/
def State.readChunk (s : State) (q : Requester) (x : Ext) (i : Image) (src : Nat) (p : Nat × Nat × Nat × Option Nat) : Except Nat (List Byte) × State :=
  let (bs, st, s) := s.outRead q x (src + p.1) p.2.2.1
  let good := match p.2.2.2 with | some k => i.chunkOk k bs | none => true
  (if st ≠ 0 then .error st else if good then .ok bs else .error 0x30, s)

/-- Copy the chunks of one span, the unit of a move (R213): each is read, checked against its hash and written to its place; a chunk that fails is read again once, and one that
fails twice ends the span with its status. -/
def State.copySpan (s : State) (q : Requester) (x : Ext) (i : Image) (src base : Nat) : List (Nat × Nat × Nat × Option Nat) → Nat × State
  | [] => (0, s)
  | p :: ps =>
    match s.readTwice (fun s => s.readChunk q x i src p) with
    | (.ok bs, s) =>
      let (_, s) := s.engineWrite q.ways (base + p.2.1) (wholeSectors bs)
      State.copySpan s q x i src base ps
    | (.error st, s) => (st, s.bump Off.memMoveFails 1)

/-- Step 7: every span is copied; the others go on when one fails, and the first status that failed is the request's (R215). `n` is the number of the first chunk of the spans left. -/
def State.copySpans (s : State) (q : Requester) (x : Ext) (i : Image) (src base : Nat) : Nat → List Span → Nat × State
  | _, [] => (0, s)
  | n, p :: ps =>
    let (st, s) := s.copySpan q x i src base (spanPieces n p)
    let (st', s) := State.copySpans s q x i src base (if p.kind = 0x0F then n else n + p.chunks) ps
    (if st ≠ 0 then st else st', s)

/-- Copy an image to its place: a completed move when every span came over. -/
def State.copyImage (s : State) (q : Requester) (x : Ext) (i : Image) (src base : Nat) : Nat × State :=
  let (st, s) := s.copySpans q x i src base 0 i.spans
  (st, if st = 0 then s.bump Off.memMoves 1 else s)

/-- The requester of a descriptor's image: reads through a window take the tenant given (none: the window's owner), T1 accesses the ways of `ways` (R216). -/
def Requester.image (tenant : Option Nat) (ways : Option Nat) : Requester := { tenant := tenant, ways := ways, cls := 2 }

/-- The tenant that owns the window a golden copy lies in: none when it lies in T1 or nowhere (R216, R293). -/
def State.windowOwner (s : State) (a : Nat) : Option Nat :=
  match placeOf a with
  | .window w _ => if (s.window w).valid then some (s.window w).tenant else none
  | .peer p _ => if (s.ctx p).state = 1 then some ((s.ctx p).fieldAt 32 2 0 10) else none
  | _ => none

/-- Free the nodes of a slot whose earlier model is swept but whose Roster build has not come (R290). -/
def State.sweepSlot (s : State) (m : Nat) : State :=
  if !(s.slotRec m).sweep then s
  else
    let s := (List.range s.nodeCount).foldl (fun s n =>
      if s.nodeUsable n ∧ (s.node n).state ≠ 0 ∧ (s.node n).model = m then s.freeNode n else s) s
    s.setSlot m { s.slotRec m with sweep := false }

/-- The RESIDENT record after a load (R288, R289 step 8). -/
def SlotRec.loaded (r : SlotRec) (i : Image) (golden golden2 : Nat) (owner : Option Nat) : SlotRec :=
  { r with state := .resident, poisoned := [], repaired := 0, imageId := hfield i.head 8 8, golden := golden, golden2 := golden2, chunks := i.chunks, owner := owner, source := golden, img := some i }

/-- MODEL_LOAD, in the order of R289. Dusk and Night turn it away with BUSY before anything is read (R343). -/
def State.modelLoadOp (s : State) (d : Desc) (o : ModelLoadOp) (x : Ext) (c : DescRef) : State :=
  let m := d.handle.toNat
  let st := s.plainChecks d (.modelLoad o x) (decide (m > 63)) false
  let r := s.slotRec m
  if st ≠ 0 then s.complete c st 0 0
  else if s.duskBusy ∨ !(r.state == .empty || r.state == .parked) then s.complete c 0x21 0 0
  else if !goldenPlace o.golden.toNat || !goldenPlace o.golden2.toNat then s.complete c 0x11 0 0
  else
    let src := o.src.toNat
    let q := Requester.image none (some (s.tenantOf d))
    match (s.absorb x).readImageAt q x 0 src (if r.state = .parked then some r.imageId else none) with
    | (.fail st, s) => s.complete c st 0 0
    | (.ok i, s) =>
      let s := (s.lookEntries (List.finRange 4) i.stepLesson true).lookEntries (List.finRange 4) i.idleLesson true
      if !modelFieldsOk i.head || !s.lessonsOk i || !s.destsOk i 0 then s.complete c 0x11 0 0
      else if s.destsMeet i 0 then s.complete c 0x21 0 0
      else
        let (st, s) := s.copyImage q x i src 0
        if st ≠ 0 then s.complete c st 0 0
        else
          let s := s.sweepSlot m
          let golden := if o.golden = 0 then src else o.golden.toNat
          let s := (s.setSlot m ((s.slotRec m).loaded i golden o.golden2.toNat (s.windowOwner golden))).bump Off.srvMdlLoads 1
          s.complete c 0 (hfield i.head 8 8) i.chunks

/-- MODEL_UNLOAD: PARKED, or EMPTY when SESSIONS is 0. -/
def State.modelUnloadOp (s : State) (d : Desc) (c : DescRef) : State :=
  let m := d.handle.toNat
  let r := s.slotRec m
  let busy := !(r.state == .resident || r.state == .lost) || decide (r.pins ≠ 0)
  let st := firstStatus [s.plainChecks d .modelUnload (decide (m > 63)) false, failIf busy 0x21]
  if st ≠ 0 then s.complete c st 0 0
  else
    let r' := if r.sessions = 0 then { SlotRec.empty with imageId := r.imageId, img := r.img, sweep := true }
      else { r with state := .parked, poisoned := [], repaired := 0 }
    (s.setSlot m r').complete c 0 0 0

/-- MODEL_GOLDEN: the tenant whose golden window the image was loaded for stays (R293). -/
def State.modelGoldenOp (s : State) (d : Desc) (golden golden2 : BitVec 48) (c : DescRef) : State :=
  let m := d.handle.toNat
  let r := s.slotRec m
  let st := firstStatus [s.plainChecks d (.modelGolden golden golden2) (decide (m > 63)) (!goldenPlace golden.toNat || !goldenPlace golden2.toNat), failIf (r.state == .empty) 0x21]
  if st ≠ 0 then s.complete c st 0 0
  else (s.setSlot m { r with golden := golden.toNat, golden2 := golden2.toNat }).complete c 0 0 0

/-- The code of a slot's state (R287). -/
def SlotState.code : SlotState → Nat
  | .empty => 0 | .loading => 1 | .resident => 2 | .repairing => 3 | .parked => 4 | .lost => 5

/-- The code of a version's state (R292). -/
def VerState.code : VerState → Nat
  | .empty => 0 | .loading => 1 | .current => 2 | .retiring => 3 | .lost => 4

/-- The 64 bytes of a slot record (R287). -/
def slotBytes (r : SlotRec) : List Byte :=
  leBytes 1 r.state.code ++ leBytes 3 0 ++ leBytes 4 r.pins ++ leBytes 4 r.sessions ++ leBytes 4 r.poisoned.length ++ leBytes 8 r.imageId ++
  leBytes 8 r.golden ++ leBytes 8 r.golden2 ++ leBytes 4 r.chunks ++ List.replicate 20 0

/-- The 32 bytes of a version record (R292). -/
def verBytes (r : VerRec) : List Byte :=
  leBytes 1 (r.state.code + b2n (!r.poisoned.isEmpty) * 8) ++ leBytes 1 r.model ++ leBytes 2 r.set ++ leBytes 4 r.pins ++ leBytes 4 r.tenant ++
  leBytes 4 r.nodes ++ leBytes 8 r.base ++ leBytes 8 r.golden

/-- The status that copying `n` bytes to `dst` for a descriptor would meet (R208, R286, R321). -/
def State.copyStatus (s : State) (d : Desc) (dst n : Nat) : Nat :=
  inOrder15 [failIf (s.meetsImage dst n) 0x13, s.checkAccess (some (s.tenantOf d)) true dst n]

/-- Copy a record to a device address (R190, R326), as the descriptor's tenant (R208, R321); one into a resident image is not permitted (R286, log entry 115). -/
def State.copyAnswer (s : State) (d : Desc) (x : Ext) (dst : Nat) (bs : List Byte) (c : DescRef) (v0 v1 : Nat) : State :=
  let t := s.tenantOf d
  let st := s.copyStatus d dst bs.length
  if st ≠ 0 then s.complete c st 0 0
  else
    let (st, s) := (s.absorb x).outWrite (.office t) x dst bs
    s.complete c st v0 v1

/-- Copy bytes to DST and complete with no values. -/
def State.copyOut (s : State) (d : Desc) (x : Ext) (dst : Nat) (bs : List Byte) (c : DescRef) : State := s.copyAnswer d x dst bs c 0 0

/-- MODEL_QUERY. -/
def State.modelQueryOp (s : State) (d : Desc) (dst : BitVec 48) (x : Ext) (c : DescRef) : State :=
  let m := d.handle.toNat
  let st := inOrder15 [s.plainChecks d (.modelQuery dst x) (decide (m > 63)) false, s.copyStatus d dst.toNat 64]
  if st ≠ 0 then s.complete c st 0 0 else s.copyOut d x dst.toNat (slotBytes (s.slotRec m)) c

/-! ### Versions (R292-R295) -/

/-- The CURRENT version of a set for a slot. -/
def State.currentVersion (s : State) (m set : Nat) : Option Nat :=
  (s.mdl.vers.find? (fun e => e.2.state == .current && decide (e.2.set = set) && decide (e.2.model = m))).map (·.1)

/-- Whether a version of the set for the slot belongs to another tenant. -/
def State.setForeign (s : State) (m set tenant : Nat) : Bool :=
  s.mdl.vers.any (fun e => !(e.2.state == .empty) && decide (e.2.set = set) && decide (e.2.model = m) && decide (e.2.tenant ≠ tenant))

/-- Whether a prefix node names version `v` (R295). -/
def State.nodesName (s : State) (v : Nat) : Bool := (List.range s.nodeCount).any (fun n => decide ((s.node n).state ≠ 0) && decide ((s.node n).mset = v))

/-- The lowest EMPTY version record; an index that a node still names, or a block about to be published, is not issued again (R295). -/
def State.emptyVersion (s : State) : Option Nat :=
  firstIdx 4096 (fun v => (s.verRec v).state == .empty && !s.nodesName v && !s.srv.filled.any (fun e => decide (e.2.2 = v)))

/-- Whether a tenant has a window on a slot's golden copy: one of its own that reaches the same host or peer memory (R293). -/
def State.hasWindowOn (s : State) (tenant golden : Nat) : Bool :=
  match placeOf golden with
  | .window w o =>
    let h := s.hostAddr w o
    s.mem.windows.any (fun e => e.2.valid && decide (e.2.tenant = tenant) && decide (e.2.host ≤ h ∧ h < e.2.host + e.2.pages * 4096))
  | .peer p _ => s.fab.ctxs.any (fun e => decide (e.2.state = 1) && decide (e.2.fieldAt 32 2 0 10 = tenant) && decide ((e.2.bytes.drop 16).take 16 = ((s.ctx p).bytes.drop 16).take 16))
  | _ => true

/-- The refusals of an MSET_INSTALL by tenant (R293, R321). -/
def State.msetDenied (s : State) (d : Desc) (o : MsetInstallOp) : Bool :=
  let m := d.handle.toNat
  let t := o.tenant.toNat
  let r := s.slotRec m
  s.foreign d t || s.setForeign m o.set.toNat t || (match r.owner with | some w => decide (w ≠ t) && !s.hasWindowOn t r.source | none => false)

/-- A version becomes RETIRING, and EMPTY at once when nothing holds it (R295). -/
def State.retireVersion (s : State) (v : Nat) : State := (s.setVer v { s.verRec v with state := .retiring }).retire v

/-- Put a loaded version into record `v`: CURRENT, the set's previous CURRENT version RETIRING, in one action (R293). -/
def State.installVersion (s : State) (v m set tenant base golden : Nat) (i : Image) : State :=
  let s := match s.currentVersion m set with | some u => s.retireVersion u | none => s
  (s.setVer v { state := .current, model := m, set := set, pins := 0, tenant := tenant, nodes := 0, base := base, golden := golden, poisoned := [], repaired := 0, img := some i }).bump
    Off.srvMsetInstalls 1

/-- MSET_INSTALL: its checks in the order of R15, its image in that of R289. -/
def State.msetInstallOp (s : State) (d : Desc) (o : MsetInstallOp) (x : Ext) (c : DescRef) : State :=
  let m := d.handle.toNat
  let t := o.tenant.toNat
  let src := o.src.toNat
  let base := o.base.toNat
  let op := DescOp.msetInstall o x
  let r := s.slotRec m
  let q := Requester.image (some (s.tenantOf d)) (some t)
  let st := inOrder15 [failIf (s.denied d op || (decide (m ≤ 63) && s.msetDenied d o)) 0x13, s.checkAccess q.tenant false src 256,
                       s.plainChecks d op (decide (m > 63)) (decide (o.set = 0xFFFF#16) || decide (base % chunkSize ≠ 0) || !goldenPlace o.golden.toNat)]
  if st ≠ 0 then s.complete c st 0 0
  else
    match (s.absorb x).readImageAt q x 1 src none with
    | (.fail st, s) => s.complete c st 0 0
    | (.ok i, s) =>
      let layers := match r.img with | some j => decide (j.layers ≠ i.layers) | none => false
      if !marginFieldsOk i.head || decide (hfield i.head 80 8 ≠ r.imageId) || layers || !s.destsOk i base then s.complete c 0x11 0 0
      else
        let (ok, s') := s.chargeMargin t
        match s.emptyVersion, ok with
        | some v, true =>
          if !(r.state == .resident || r.state == .repairing) || s.destsMeet i base then s.complete c 0x21 0 0
          else
            let (st, s) := s'.copyImage q x i src base
            if st ≠ 0 then (s.releaseMargin t).complete c st 0 0
            else (s.installVersion v m o.set.toNat t base (if o.golden = 0 then src else o.golden.toNat) i).complete c 0 v 0
        | _, _ => s.complete c 0x20 0 0

/-- MSET_REMOVE: BAD_HANDLE for a set without CURRENT version. -/
def State.msetRemoveOp (s : State) (d : Desc) (set : BitVec 16) (c : DescRef) : State :=
  let m := d.handle.toNat
  let op := DescOp.msetRemove set
  let cur := if m > 63 then none else s.currentVersion m set.toNat
  let alien := match cur with | some v => s.foreign d (s.verRec v).tenant | none => false
  let st := firstStatus [failIf (s.denied d op || alien) 0x13, s.plainChecks d op cur.isNone false]
  if st ≠ 0 then s.complete c st 0 0
  else match cur with
    | none => s
    | some v => (s.retireVersion v).complete c 0 v 0

/-- MSET_QUERY. An EMPTY record is nothing live: BAD_HANDLE (R321; DESIGN CHOICE, log entry 120). -/
def State.msetQueryOp (s : State) (d : Desc) (dst : BitVec 48) (x : Ext) (c : DescRef) : State :=
  let v := d.handle.toNat
  let r := s.verRec v
  let op := DescOp.msetQuery dst x
  let st := inOrder15 [failIf (s.denied d op || (decide (v ≤ 4095) && !(r.state == .empty) && s.foreign d r.tenant)) 0x13,
                       s.plainChecks d op (decide (v > 4095) || r.state == .empty) false, s.copyStatus d dst.toNat 32]
  if st ≠ 0 then s.complete c st 0 0 else s.copyOut d x dst.toNat (verBytes r) c

/-! ### Repair (R298, R299) -/

/-- The first POISONED chunk: slots first, each in chunk order; versions after. A LOST slot or version is not repaired. -/
def State.nextRepair (s : State) : Option (ImageRef × Nat) :=
  let slot := s.mdl.slots.findSome? (fun e =>
    if e.2.state = .lost ∨ e.2.poisoned = [] then none else some (ImageRef.slot e.1, (sortBy (fun a b => decide (a ≤ b)) e.2.poisoned).headD 0))
  match slot with
  | some x => some x
  | none => s.mdl.vers.findSome? (fun e =>
      if e.2.state = .lost ∨ e.2.poisoned = [] then none else some (ImageRef.version e.1, (sortBy (fun a b => decide (a ≤ b)) e.2.poisoned).headD 0))

/-- What a repair needs of a slot or version: its image, where it stands, its golden copies, and whose its accesses are (R216). -/
def State.repairOf (s : State) (r : ImageRef) : Option (Image × Nat × List Nat × Requester) :=
  match r with
  | .slot k => (s.slotRec k).img.map (fun i => (i, 0, [(s.slotRec k).golden, (s.slotRec k).golden2], Requester.image none none))
  | .version v => (s.verRec v).img.map (fun i => (i, (s.verRec v).base, [(s.verRec v).golden], Requester.engine (s.verRec v).tenant))

/-- The place of chunk `c`: image offset, placement, length. The hash span's chunks stand after the others (log entry 21). -/
def Image.piece (i : Image) (c : Nat) : Option (Nat × Nat × Nat × Option Nat) :=
  let body := (imagePieces 0 i.spans).filter (fun p => p.2.2.2.isSome)
  let hash := (imagePieces 0 i.spans).filter (fun p => p.2.2.2.isNone)
  (body ++ hash)[c]?

/-- Read a chunk of an image from a golden copy and check it; a chunk of the hash span is checked by HASH over the whole span (R298). -/
def State.goldenRead (s : State) (q : Requester) (x : Ext) (i : Image) (golden : Nat) (p : Nat × Nat × Nat × Option Nat) : Except Nat (List Byte) × State :=
  match p.2.2.2, i.spans.find? (fun h => h.kind == 0x0F) with
  | none, some h =>
    let (r, s) := s.readHash q x (golden + h.offset) h.length i.head i.table
    (r.map (fun bs => (bs.drop (p.1 - h.offset)).take p.2.2.1), s)
  | _, _ => s.readChunk q x i golden p

/-- The chunk from the first golden copy that gives it, each read again once when it fails. A copy in a host window is not read while requests are not allowed: the status is then
0, and the repair waits (R308, R309). -/
def State.goldenReads (s : State) (q : Requester) (x : Ext) (i : Image) (p : Nat × Nat × Nat × Option Nat) : List Nat → Except Nat (List Byte) × State
  | [] => (.error 0x30, s)
  | g :: gs =>
    if g = 0 then State.goldenReads s q x i p gs
    else if !s.canIssue ∧ reachesHost (g + p.1) then (.error 0, s)
    else
      match s.readTwice (fun s => s.goldenRead q x i g p) with
      | (.ok bs, s) => (.ok bs, s)
      | (.error _, s) => State.goldenReads s q x i p gs

/-- Chunk `c` is good again: its mark is cleared, and at the last one the slot is RESIDENT (the version's REPAIR clear) with an event (R298). -/
def State.chunkRepaired (s : State) (r : ImageRef) (c : Nat) : State :=
  let s := s.bump Off.srvMdlRepaired 1
  match r with
  | .slot k =>
    let x := s.slotRec k
    let left := x.poisoned.filter (fun y => y != c)
    let done := decide (left = [])
    let s := s.setSlot k { x with poisoned := left, repaired := if done then 0 else x.repaired + 1, state := if done ∧ x.state = .repairing then .resident else x.state }
    if done then s.event 0x08 0 k (x.repaired + 1) 0 else s
  | .version v =>
    let x := s.verRec v
    let left := x.poisoned.filter (fun y => y != c)
    let done := decide (left = [])
    let s := s.setVer v { x with poisoned := left, repaired := if done then 0 else x.repaired + 1 }
    if done then s.event 0x08 0 (0x1000 + v) (x.repaired + 1) 0 else s

/-- IMAGE_LOST: the slot or version becomes LOST, and every turn that pins it ends with SHARED_LOST (R299). -/
def State.imageLost (s : State) (r : ImageRef) (c : Nat) : State :=
  let s := s.bump Off.srvMdlLost 1
  match r with
  | .slot k =>
    ((s.setSlot k { s.slotRec k with state := .lost }).event 0x09 0x31 k c 0).endPinned (fun q => decide (q.model = k)) 0x31
  | .version v =>
    (((s.setVer v { s.verRec v with state := .lost }).event 0x09 0x31 (0x1000 + v) c 0).endPinned (fun q => decide (q.mset = v)) 0x31).retire v

/-- CHUNK_REPAIR: the first POISONED chunk is read from GOLDEN, then GOLDEN2, and written whole; when both fail the image is LOST (R298, R299). No
chunk is begun while a MEM or LIB commit is pending (R401). -/
def State.chunkRepair (s : State) (x : Ext) : State :=
  match s.nextRepair with
  | none => s
  | some (r, c) =>
    match s.repairOf r with
    | none => s
    | some (i, base, goldens, q) =>
      match i.piece c with
      | none => s
      | some p =>
        if s.memCommitPending then s
        else match (s.absorb x).goldenReads q x i p goldens with
        | (.ok bs, s) =>
          let (_, s) := s.engineWrite q.ways (base + p.2.1) (wholeSectors bs)
          s.chunkRepaired r c
        | (.error 0, _) => s
        | (.error _, s) => (s.bump Off.memMoveFails 1).imageLost r c

end Sys2Proof.Machine
end

