-- ==== Sys2Proof/Machine/Sessions.lean ====
section
/-! DEFINITION. Session operations (R247, R251, R252, R266-R272, R294, R334, R335, R343). -/

namespace Sys2Proof.Machine

open Sys2Proof

/-! ### SESSION_OPEN (R251, R334) -/

/-- The lowest FREE session record that may be issued. -/
def State.freeSess (s : State) : Option Nat :=
  firstIdx s.sessCount (fun k => !marked s.srv.quarantine k && !s.sessBad k && decide ((s.sess k).state = 0))

/-- Whether the ranges a session names lie where R334 asks: head records in PROTECTED HBM, Trays within the scratch of every Wing. A slot without image
gives no lengths: the addresses themselves are checked (R176, R191, log entry 43). -/
def State.openRanges (s : State) (o : SessionOpenOp) : Bool :=
  match s.image o.model.toNat with
  | none => s.allProtected o.kvmap.toNat 1 && (List.finRange 4).all (fun w => decide (o.tray.toNat < s.scratchEnd w))
  | some i =>
    s.allProtected o.kvmap.toNat (8192 * i.layers * i.kvHeads) &&
    (List.finRange 4).all (fun w => decide (o.tray.toNat + i.layers * i.hw * (2 * i.d * 2 ^ o.tdLog2.toNat) ≤ s.scratchEnd w))

/-- The status of a SESSION_OPEN; one whose head records would lie in a resident image is not permitted (R286, log entry 115). -/
def State.openStatus (s : State) (d : Desc) (o : SessionOpenOp) : Nat :=
  let q := s.outRing o.ring.toNat
  let stream := s.hasOut o.ring.toNat true
  let t := o.tenant.toNat
  let image := match s.image o.model.toNat with | some i => s.meetsImage o.kvmap.toNat (8192 * i.layers * i.kvHeads) | none => s.meetsImage o.kvmap.toNat 1
  let notPermitted := s.denied d (.sessionOpen o) || s.foreign d t || (stream && s.foreign d q.tenant) || (stream && o.batch && !q.priv) || image
  firstStatus [failIf notPermitted 0x13,
               s.plainChecks d (.sessionOpen o) (!stream) (decide (o.tdLog2.toNat > 6) || decide (q.tenant ≠ t) || !s.openRanges o),
               failIf s.freeSess.isNone 0x20, failIf s.duskBusy 0x21]

/-- The record SESSION_OPEN fills in; its handle keeps the record's generation (R247). -/
def openRecord (o : SessionOpenOp) (handle : Nat) : SessRec :=
  { state := 1, evictable := o.evictable, batch := o.batch, publish := o.publish, degraded := false, model := o.model.toNat, tdLog2 := o.tdLog2.toNat,
    handle := handle, tenant := o.tenant.toNat, ring := o.ring.toNat, domain := o.domain.toNat, mset := 0xFFFF, position := 0, pend := 0, input := 0,
    kvmap := o.kvmap.toNat, tray := o.tray.toNat, stopset := 0xFFFF, temp := 0, topK := 0, topP := 0, maxTokens := 0, seed := o.seed.toNat, draw := 0,
    turnTokens := 0, turn := 0, seq := 0, histN := 0, expire := 0, last := 0, history := List.replicate 16 0, node := noPage }

/-- No summary pages yet: the eight words of every head record say so. -/
def State.clearSummaries (s : State) (r : SessRec) : State :=
  match s.image r.model with
  | none => s
  | some i => i.grid.foldl (fun s lh => s.putHead (headRec r i lh.1 lh.2 + 7168) (List.replicate 32 0xFF)) s

/-- SESSION_OPEN. -/
def State.sessionOpenOp (s : State) (d : Desc) (o : SessionOpenOp) (c : DescRef) : State :=
  let st := s.openStatus d o
  if st ≠ 0 then s.complete c st 0 0
  else match s.freeSess with
    | none => s.complete c 0x20 0 0
    | some k =>
      let h := (s.sess k).handle / 65536 % 65536 * 65536 + k
      let r := openRecord o h
      let s := (s.setSess k r).clearSummaries r
      let m := s.slotRec r.model
      (s.setSlot r.model { m with sessions := m.sessions + 1 }).complete c 0 h 0

/-! ### TURN (R251, R267, R291, R294) -/

/-- What a TURN's SET names for the session's slot. -/
inductive TurnSet where
  | none
  | version (v : Nat)
  | lost
  | missing
deriving DecidableEq, Repr

/-- The version a TURN would pin (R294): the set's CURRENT one; a set of which only a LOST version is left is lost (R299). -/
def State.turnSet (s : State) (m set : Nat) : TurnSet :=
  if set = 0xFFFF then .none
  else match s.currentVersion m set with
    | some v => .version v
    | none => if s.mdl.vers.any (fun e => e.2.state == .lost && decide (e.2.set = set) && decide (e.2.model = m)) then .lost else .missing

/-- Operand ranges of a TURN (R251). -/
def State.turnArgs (s : State) (r : SessRec) (o : TurnOp) : Bool :=
  let extra := match s.image r.model with | some i => decide (r.position + o.count.toNat > i.context) | none => false
  let temp := o.temp.toNat
  extra || decide (o.count = 0) || decide (temp > 0x8000) || decide (temp / 128 % 256 = 255) || decide (o.topK.toNat > 64)

/-- The status of reading `n` bytes of INPUT, which lies in T1 or a host window, for tenant `t` (R191, R208, R330). -/
def State.inputStatus (s : State) (t a n : Nat) : Nat :=
  if (pieces (n / 2 ^ 32 + 2) a n).any (fun p => match placeOf p.1 with | .peer _ _ => true | _ => false) then 0x11
  else s.checkAccess (some t) false a n

/-- The status of a TURN on the live session `k` (none: the handle names none): its own checks with those of INPUT's window, in the order of R15 (log entry 118). -/
def State.turnStatus (s : State) (d : Desc) (o : TurnOp) (x : Ext) (k : Option Nat) : Nat :=
  let op := DescOp.turn o x
  match k with
  | none => s.plainChecks d op true false
  | some k =>
    let r := s.sess k
    let m := s.slotRec r.model
    let set := s.turnSet r.model o.set.toNat
    let alien := match set with | .version v => decide ((s.verRec v).tenant ≠ r.tenant) | _ => false
    let stop := o.stopset.toNat
    let away := m.state == .empty || m.state == .loading || m.state == .parked
    firstStatus [inOrder15 [failIf (s.denied d op || s.foreign d r.tenant || alien) 0x13, s.inputStatus r.tenant o.input.toNat (4 * o.count.toNat),
                            s.plainChecks d op ((decide (stop > 4095) && decide (stop ≠ 0xFFFF)) || set == .missing) (s.turnArgs r o)],
                 failIf (decide (r.state ≠ 1) || away || s.duskBusy) 0x21,
                 failIf (m.state == .lost || set == .lost) 0x31]

/-- The turn fields of the record, ACTIVE. -/
def SessRec.startTurn (r : SessRec) (o : TurnOp) (v : Nat) : SessRec :=
  { r with state := 2, mset := v, pend := o.count.toNat, input := o.input.toNat, stopset := o.stopset.toNat, temp := o.temp.toNat, topK := o.topK.toNat,
           topP := o.topP.toNat, maxTokens := o.maxTokens.toNat, turnTokens := 0, histN := 0, history := List.replicate 16 0 }

/-- The walk of a TURN, or the release of the session's nodes by one that does not walk (R267, R269). -/
def State.turnWalk (s : State) (k : Nat) (x : Ext) : Nat × State :=
  let r := s.sess k
  match s.image r.model with
  | none => (0, s)
  | some i =>
    if r.domain ≠ 0 ∧ r.position = 0 then
      if s.treeOn then s.walk k i x ((r.pend - 1) / 64) 0 (hashSeed r.domain r.mset r.model) else (0, s)
    else (0, (s.releaseNodes r.node).modSess k (fun r => { r with node := noPage }))

/-- TURN. -/
def State.turnOp (s : State) (d : Desc) (o : TurnOp) (x : Ext) (c : DescRef) : State :=
  let s := s.lookHandle d.handle.toNat
  let k := s.findSess d.handle.toNat
  let st := s.turnStatus d o x k
  if st ≠ 0 then s.complete c st 0 0
  else match k with
    | none => s
    | some k =>
      let r := s.sess k
      let v := match s.turnSet r.model o.set.toNat with | .version v => v | _ => 0xFFFF
      let s := (((s.absorb x).pinSlot r.model).pinVersion v).setSess k (r.startTurn o v)
      let (n, s) := s.turnWalk k x
      s.complete c 0 (s.sess k).position n

/-! ### ABORT_TURN, SESSION_END (R251, R252) -/

/-- What the operations on one session check: denied, live, of the ring's tenant, in one of the states given. -/
def State.sessStatus (s : State) (d : Desc) (op : DescOp) (k : Option Nat) (states : List Nat) : Nat :=
  match k with
  | none => s.plainChecks d op true false
  | some k =>
    firstStatus [failIf (s.denied d op || s.foreign d (s.sess k).tenant) 0x13, s.plainChecks d op false false,
                 failIf (!states.contains (s.sess k).state) 0x21]

/-- Leave an operation for the end of the step in flight (R252). -/
def State.defer (s : State) (k : Nat) (fin : Bool) (c : DescRef) : State :=
  { s with srv := { s.srv with deferred := s.srv.deferred ++ [{ sess := k, endSession := fin, status := 0x40, desc := some c }] } }

/-- The end of session `k`'s turn waits for room: it stays out of Rosters meanwhile (R492). -/
def State.waitEnd (s : State) (k : Nat) : State := { s with srv := { s.srv with endWaits := setMark s.srv.endWaits k true } }

/-- ABORT_TURN; the answer says whether it was applied, or waits for room for its record (R492). -/
def State.abortTurnOp (s : State) (d : Desc) (c : DescRef) : Bool × State :=
  let s := s.lookHandle d.handle.toNat
  let k := s.findSess d.handle.toNat
  let st := s.sessStatus d .abortTurn k [2]
  if st ≠ 0 then (true, s.complete c st 0 0)
  else match k with
    | none => (true, s)
    | some k =>
      if s.inStep k then (true, s.defer k false c)
      else
        let (ok, s) := s.endTurnNow k 0x40
        (ok, if ok then s.complete c 0 0 0 else s.waitEnd k)

/-- SESSION_END. -/
def State.sessionEndOp (s : State) (d : Desc) (c : DescRef) : Bool × State :=
  let s := s.lookHandle d.handle.toNat
  let k := s.findSess d.handle.toNat
  let st := s.sessStatus d .sessionEnd k [1, 2, 4]
  if st ≠ 0 then (true, s.complete c st 0 0)
  else match k with
    | none => (true, s)
    | some k =>
      let state := (s.sess k).state
      if state = 2 ∧ s.inStep k then (true, s.defer k true c)
      else
        let (ok, s) := if state = 2 then s.endTurnNow k 0x40 else (true, s)
        if !ok then (false, s.waitEnd k) else (true, (s.endSession k).complete c 0 0 0)

/-! ### PAUSE and RESUME (R270, R271, R334) -/

/-- The status of a PAUSE. Its window is checked in the order of R208 as the session's tenant (log entry 118). -/
def State.pauseStatus (s : State) (d : Desc) (o : PauseOp) (k : Option Nat) : Nat :=
  let op := DescOp.pause o
  match k with
  | none => s.plainChecks d op true false
  | some k =>
    let r := s.sess k
    let w := s.window o.window.toNat
    let units := s.demotable k
    let off := o.offset.toNat
    let total := s.formsTotal units o.width.toNat
    let argBad := decide (o.width.toNat < 4) || decide (o.width.toNat > 8) || decide (off % 4096 ≠ 0)
    let noRoom := decide (total > o.length.toNat) || decide (off + o.length.toNat > w.pages * 4096)
    inOrder15 [failIf (s.denied d op || s.foreign d r.tenant || (w.valid && s.foreign d w.tenant)) 0x13,
               s.checkWindow (some r.tenant) true o.window.toNat 0 0, s.plainChecks d op false argBad,
               failIf (decide (units = []) && decide (o.length = 0)) 1, failIf noRoom 0x20, failIf (decide (r.state ≠ 1)) 0x21]

/-- Read every head record of a session: whether one cannot be read, and the effects (R198, R459). -/
def State.lookHeads (s : State) (k : Nat) : Bool × State :=
  let r := s.sess k
  match s.image r.model with
  | none => (false, s)
  | some i => i.grid.foldl (fun (acc : Bool × State) lh =>
      let hr := headRec r i lh.1 lh.2
      let s := acc.2.lookHead r hr
      (acc.1 || s.headBad hr, s)) (false, s)

/-- An operation that walks the head records of session `k`: where one cannot be read, the session ends and the operation completes with DATA_LOST (R459). -/
def State.overHeads (s : State) (k : Nat) (c : DescRef) (f : State → State) : State :=
  let (bad, s) := s.lookHeads k
  if bad then (s.endSession k).complete c 0x30 0 0 else f s

/-- PAUSE: PAUSING; its Trays are flushed, then the tier-move engine demotes its pages. -/
def State.pauseOp (s : State) (d : Desc) (o : PauseOp) (c : DescRef) : State :=
  let s := s.lookHandle d.handle.toNat
  let k := s.findSess d.handle.toNat
  let st := s.pauseStatus d o k
  if st ≠ 0 then s.complete c st 0 0
  else match k with
    | none => s
    | some k => s.overHeads k c fun s =>
      let r := s.sess k
      let q : MoveReq := { resume := false, sess := k, tenant := r.tenant, window := o.window.toNat, width := o.width.toNat, ttl := o.ttl.toNat,
                           offset := o.offset.toNat, length := o.length.toNat, units := [], dests := [], started := false, bytes := 0, moved := 0, status := 0, desc := c }
      let s := s.modSess k (fun r => { r with state := 3 })
      { s with mem := { s.mem with moves := s.mem.moves ++ [q] }, srv := { s.srv with flush := s.srv.flush ++ [k] } }

/-- RESUME: RESUMING; the tier-move engine promotes its pages. -/
def State.resumeOp (s : State) (d : Desc) (c : DescRef) : State :=
  let s := s.lookHandle d.handle.toNat
  let k := s.findSess d.handle.toNat
  let st := firstStatus [s.sessStatus d .resume k [4], failIf s.duskBusy 0x21]
  if st ≠ 0 then s.complete c st 0 0
  else match k with
    | none => s
    | some k => s.overHeads k c fun s =>
      let r := s.sess k
      let q : MoveReq := { resume := true, sess := k, tenant := r.tenant, window := 0, width := Sparse.get (fun _ => 8) s.srv.widths k, ttl := r.expire, offset := 0,
                           length := 0, units := [], dests := [], started := false, bytes := 0, moved := 0, status := 0, desc := c }
      let s := s.modSess k (fun r => { r with state := 5, expire := 0 })
      { s with mem := { s.mem with moves := s.mem.moves ++ [q] } }

/-! ### SESSION_REWIND and SESSION_QUERY (R335) -/

/-- The most positions a rewind may remove. -/
def State.rewindMax (s : State) (r : SessRec) : Nat := if r.node = noPage then r.position else r.position - 64 * ((s.node r.node).depth + 1)

/-- Whether position `p`, which the session holds, lies inside a hole of any layer and head. -/
def State.inHole (s : State) (r : SessRec) (i : Image) (p : Nat) : Bool :=
  i.grid.any (fun lh => decide (s.pageNo (headRec r i lh.1 lh.2) (p / 64) ≥ s.pageCount))

/-- The page that holds position P - 1 is OPEN again; a LOST page stays LOST. -/
def State.reopen (s : State) (n fill : Nat) : State :=
  let p := s.page n
  if n ≥ s.pageCount ∨ p.state = 4 then s else s.setPage n { p with state := 1, fill := fill, trayn := min p.trayn (fill - (p.fill - p.trayn)) }

/-- Cut one head record of session `k` at position `p`: the references released, and the state. REFS falls once the names are cleared, by the head-record writes (R264, R455). -/
def State.cutHead (s : State) (hr old p : Nat) : Nat × State :=
  let keep := ceilDiv p 64
  let ords := (List.range old).filter (fun j => decide (j ≥ keep))
  let sums := (List.range (summaryCount old)).filter (fun q => decide (q ≥ summaryCount keep))
  let pages := ords.map (fun j => s.pageNo hr j)
  let sp := sums.map (fun q => s.summaryNo hr q)
  let s := ords.foldl (fun s j => s.namePage hr j noPage) s
  let s := sums.foldl (fun s q => s.nameSummary hr q noPage) s
  let gone := (pages ++ sp).filter (fun n => decide (n < s.pageCount))
  let s := { s with srv := { s.srv with retiring := s.srv.retiring ++ gone } }
  (gone.length, if p % 64 = 0 then s else s.reopen (s.pageNo hr (p / 64)) (p % 64))

/-- Cut the context of session `k` at position `p`. -/
def State.rewindTo (s : State) (k : Nat) (r : SessRec) (i : Image) (p : Nat) : Nat × State :=
  let old := s.ordinals k r
  let (n, s) := i.grid.foldl (fun (acc : Nat × State) lh =>
    let (m, s) := acc.2.cutHead (headRec r i lh.1 lh.2) old p
    (acc.1 + m, s)) (0, s)
  let s := s.modSess k (fun r => { r with position := p, histN := 0 })
  (n, { s with srv := { s.srv with fresh := setMark s.srv.fresh k false,
                                   blockTok := Sparse.set (fun _ => []) s.srv.blockTok k ((Sparse.get (fun _ => []) s.srv.blockTok k).take p) } })

/-- SESSION_REWIND. -/
def State.rewindOp (s : State) (d : Desc) (count : BitVec 32) (c : DescRef) : State :=
  let s := s.lookHandle d.handle.toNat
  let k := s.findSess d.handle.toNat
  let op := DescOp.sessionRewind count
  match k with
  | none => s.complete c (s.plainChecks d op true false) 0 0
  | some k =>
    let r := s.sess k
    let n := count.toNat
    let p := r.position - n
    let argBad := decide (n > s.rewindMax r) || (decide (n ≠ 0) && match s.image r.model with | some i => s.inHole r i p | none => false)
    let st := firstStatus [failIf (s.denied d op || s.foreign d r.tenant) 0x13, s.plainChecks d op false argBad, failIf (decide (n = 0)) 1, failIf (decide (r.state ≠ 1)) 0x21]
    if st ≠ 0 then s.complete c st 0 0
    else match s.image r.model with
      | none => s.complete c 0 p 0
      | some i => s.overHeads k c fun s =>
        let (m, s) := s.rewindTo k r i p
        s.complete c 0 p m

/-- SESSION_QUERY; a record that cannot be read does not leave the module (R461). -/
def State.sessionQueryOp (s : State) (d : Desc) (dst : BitVec 48) (x : Ext) (c : DescRef) : State :=
  let s := s.lookHandle d.handle.toNat
  let k := s.findSess d.handle.toNat
  let op := DescOp.sessionQuery dst x
  match k with
  | none => s.complete c (s.plainChecks d op true false) 0 0
  | some k =>
    let st := inOrder15 [failIf (s.denied d op || s.foreign d (s.sess k).tenant) 0x13, s.plainChecks d op false false, s.copyStatus d dst.toNat 256]
    if st ≠ 0 then s.complete c st 0 0
    else
      let (bs, bad, s) := s.foReadFor (some (s.sess k).tenant) (s.sessAddr k) 256
      if bad ≠ [] then s.complete c 0x30 0 0 else s.copyOut d x dst.toNat bs c

end Sys2Proof.Machine
end

