-- ==== Sys2Proof/Machine/Fabric.lean ====
section
/-! DEFINITION. The receiving side of the Corridor fabric: acknowledgements (R356-R359), exports (R354), the window (R355), rates (R359), pauses (R348), links
(R373) and the context command (R353). -/

namespace Sys2Proof.Machine

open Sys2Proof

/-! ### Taking acknowledgements (R356-R359) -/

/-- Take ACK fields: everything below ACK_PSN is acknowledged; the credit is what came with it. -/
def Ctx.takeAck (c : Ctx) (rto ackPsn credits ece : Nat) : Ctx :=
  let adv := psnSub ackPsn c.ackPsn
  if adv > psnSub c.txPsn c.ackPsn then c
  else
    let c := { c with credit := credits, marked := c.marked + ece }
    if adv = 0 then c
    else { c with ackPsn := ackPsn % 2 ^ 32, acked := c.acked + adv, rto := rto, expiries := 0,
                  unacked := c.unacked.filter (fun u => decide (psnSub u.psn ackPsn < 2 ^ 31)) }

/-- The PSNs a NAK has a sender retransmit: below the highest one its SACK reports, not reported, not resent before. -/
def Ctx.nakResends (c : Ctx) (ackPsn sack : Nat) : List Unacked :=
  let top := (List.range 32).foldl (fun m i => if bit sack i then i + 1 else m) 0
  c.unacked.filter (fun u =>
    let d := psnSub u.psn ackPsn
    decide (d < top) && !(decide (d ≥ 1) && bit sack (d - 1)) && !u.resent)

/-- CORRIDOR_NAK: the packets it names are retransmitted once. -/
def State.takeNak (s : State) (k ackPsn sack : Nat) : State :=
  let us := (s.ctx k).nakResends ackPsn sack
  let s := s.modCtx k (fun c => { c with unacked := c.unacked.map (fun u => if us.contains u then { u with resent := true } else u) })
  us.foldl (fun s u => s.resend k u) s

/-! ### Exports (R354) -/

/-- Refuse a packet: counted, answered with a NAK that carries the status; the first refusal since the last WRITE command writes an event. -/
def State.refuseExport (s : State) (k off status : Nat) : State :=
  let seen := (s.ctx k).refused
  let s := (s.modCtx k (fun c => { c with refused := true })).bump Off.fabExportRefused 1
  let s := if seen then s else s.event 0x25 status k off status
  s.sendAckNak k 5 status

/-- The status an access to a context's export gets. -/
def Ctx.exportStatus (c : Ctx) (write : Bool) (off n : Nat) : Nat :=
  if write && !c.exportWrite then 0x13 else if off + n > c.exportBytes then 0x11 else 0

/-- The packets of a READ_RESP: payloads of at most `mtu` bytes, the last marked (R350, R351). -/
def respSegs (mtu off : Nat) (bs : List Byte) : List Seg4 :=
  let n := max 1 (ceilDiv bs.length mtu)
  (List.range n).map (fun j => { type := 2, last := decide (j + 1 = n), arg1 := off + mtu * j, arg2 := 0, payload := (bs.drop (mtu * j)).take mtu })

/-- Deliver a WRITE: the Corridor reads and writes an export past the cache, which neither hints nor counts nor changes a line (R178 does not name its accesses: DESIGN CHOICE,
log entry 132). -/
def State.exportStore (s : State) (k off : Nat) (bs : List Byte) : State :=
  let c := s.ctx k
  let st := c.exportStatus true off bs.length
  if st ≠ 0 then s.refuseExport k off st else ((s.carryT1 .office true 2 (c.exportBase + off) bs.length).hbmWrite 2 (c.exportBase + off) bs).2

/-- Deliver a READ_REQ: the data, or a NAK with DATA_LOST for an uncorrectable sector. -/
def State.exportLoad (s : State) (k off n : Nat) : State :=
  let c := s.ctx k
  let st := c.exportStatus false off n
  if st ≠ 0 then s.refuseExport k off st
  else
    let (bs, bad, s) := (s.carryT1 .office false 2 (c.exportBase + off) n).hbmRead 2 (c.exportBase + off) n
    if bad = [] then s.sendSegs k (respSegs s.mtu off bs) else s.sendAckNak k 5 0x30

/-- Deliver a READ_RESP: the peer's bytes, as the requesting operation finds them (R209). -/
def State.peerData (s : State) (k off : Nat) (last : Bool) (bs : List Byte) : State :=
  let st := (s.ctx k).exportStatus false off bs.length
  if st ≠ 0 then s.refuseExport k off st
  else
    let s := { s with mem := { s.mem with peer := Memory.writeN s.mem.peer (0x300000000000 + k * 2 ^ 32 + off) bs } }
    if last then s.modCtx k (fun c => { c with reads := c.reads.drop 1 }) else s

/-- Deliver one packet to its user; an ASM packet waits in the context for Assembly (R367). -/
def State.deliverSeg (s : State) (k : Nat) (g : Seg4) : State :=
  if (s.ctx k).assembly then (if g.type = 3 then s.modCtx k (fun c => { c with held := c.held ++ [g] }) else s)
  else
    let off := g.arg1 % 2 ^ 40
    match g.type with
    | 0 => s.exportStore k off g.payload
    | 1 => s.exportLoad k off (g.arg2 % 2 ^ 32)
    | 2 => s.peerData k off g.last g.payload
    | _ => s

/-- Deliver buffered packets in PSN order (R355). -/
def State.deliverAll (k : Nat) : Nat → State → State
  | 0, s => s
  | n + 1, s =>
    let c := s.ctx k
    match Sparse.get (fun _ => none) c.buf c.rxPsn with
    | none => s
    | some g =>
      let s := s.setCtx k { c with buf := Sparse.set (fun _ => none) c.buf c.rxPsn none, rxPsn := (c.rxPsn + 1) % 2 ^ 32 }
      State.deliverAll k n (s.deliverSeg k g)

/-! ### Receiving (R349-R351, R355, R356) -/

/-- What a received packet of a data type did: nothing more to do, dropped as a repeat, or buffered, beyond a gap that it opened or not. -/
inductive Arrival where
  | stopped
  | repeat'
  | buffered (gap : Bool)
deriving DecidableEq, Repr

/-- Whether a packet at distance `d` from RX_PSN opens a gap: no packet beyond RX_PSN as far as the one before it has been received (R356). -/
def Ctx.opensGap (c : Ctx) (d : Nat) : Bool :=
  decide (d ≠ 0) && c.buf.all (fun e => decide (psnSub e.1 c.rxPsn + 1 < d))

/-- Whether port `n` accepts a frame: its own MAC address, one of its IP addresses, the Corridor's UDP port, VERSION 1 (R349, R351). An address register of
zeros names no address (R374). -/
def State.addressed (s : State) (p : Packet) : Bool :=
  let n := p.port.val
  let ip := leBytes 16 p.dest.ip.toNat
  decide (p.dest.mac.toNat = portMac n) && decide (p.dest.udp.toNat = s.regField Off.fabCtrl 11 16) && decide (p.dest.version = 1#4) &&
  (if p.dest.v6 then decide (ip = s.portIp6 n) else decide (ip.take 4 = s.portIp4 n)) && ip.any (fun b => b != 0)

/-- Send a PFC pause on a port whose context's receive buffers reach seven eighths of their total, and end it when none does any longer (R348). -/
def State.pfcCheck (s : State) (n : Nat) : State :=
  let need := s.portUp n && s.fab.ctxs.any (fun e => decide (e.2.state = 1) && decide (e.2.port = n) && decide (7 * e.2.credits ≤ 8 * e.2.holding))
  if need = marked s.fab.pfcSent n then s
  else { s with fab := { s.fab with pfcSent := setMark s.fab.pfcSent n need, pfcOut := (n, need) :: s.fab.pfcOut } }

/-- The pauses of every port, when FAB_CTRL.PFC is 1. -/
def State.pfcChecks (s : State) : State := if !s.pfcOn then s else (List.range 16).foldl State.pfcCheck s

/-- Accept a received packet: address, CRC, context and tag; its ACK fields are taken, and a data packet is buffered and delivered, unless no buffer
of the context is left (R452). -/
def State.accept (s : State) (p : Packet) (type : Nat) : Arrival × State :=
  let k := p.ctx.toNat
  let c := s.ctx k
  if !s.portLive p.port.val then (.stopped, s)
  else if !s.addressed p ∨ p.payload.length > 4096 then (.stopped, s.bump Off.fabForeignDrops 1)
  else if !packetCrcOk p type then (.stopped, s.bump Off.fabCrcDrops 1)
  else if c.state ≠ 1 ∨ c.tag ≠ p.tag.toNat then (.stopped, s.bump Off.fabStaleDrops 1)
  else
    let s := s.bump Off.fabRxPkts 1
    let s := if p.ce then (s.modCtx k (fun c => { c with ece := (c.ece + 1) % 65536 })).bump Off.fabCeMarks 1 else s
    let s := s.modCtx k (fun c => c.takeAck (s.regField Off.fabRto 0 16) p.ackPsn.toNat p.credits.toNat p.ece.toNat)
    if type ≥ 4 then (.stopped, s)
    else
      let c := s.ctx k
      let psn := p.psn.toNat
      let d := psnSub psn c.rxPsn
      if d ≥ 256 ∨ (Sparse.get (fun _ => none) c.buf psn).isSome then (.repeat', s)
      else if c.credits ≤ c.holding then (.stopped, s.bump Off.errCreditDrops 1)
      else
        let g : Seg4 := { type := type, last := p.last, arg1 := p.arg1.toNat, arg2 := p.arg2.toNat, payload := p.payload }
        let s := s.setCtx k { c with buf := Sparse.set (fun _ => none) c.buf psn (some g), arrived := c.arrived + 1 }
        (.buffered (c.opensGap d), State.deliverAll k 257 s)

/-- What a context sends after an arrival: an ACK for a repeat, one NAK for a packet beyond a gap, an ACK every COUNT packets. -/
def State.afterArrival (s : State) (k : Nat) (a : Arrival) : State :=
  let c := s.ctx k
  match a with
  | .stopped => s
  | .repeat' => s.sendAckNak k 4 0
  | .buffered gap =>
    if gap then s.sendAckNak k 5 0
    else if c.arrived ≥ s.regField Off.fabAck 0 8 then s.sendAckNak k 4 0 else s

/-- CORRIDOR_ACK. -/
def State.corridorAckPkt (s : State) (p : Packet) : State := (s.accept p 4).2.pump1 p.ctx.toNat

/-- Whether a packet names a LIVE context by its tag on a port that carries traffic, with its CRC good. -/
def State.takes (s : State) (p : Packet) (type : Nat) : Bool :=
  s.portLive p.port.val && s.addressed p && decide (p.payload.length ≤ 4096) && packetCrcOk p type && decide ((s.ctx p.ctx.toNat).state = 1) && decide ((s.ctx p.ctx.toNat).tag = p.tag.toNat)

/-- CORRIDOR_NAK. A status in ARG2 refuses the oldest READ_REQ not answered; the operation that asked takes it (R354, log entry 63). -/
def State.corridorNakPkt (s : State) (p : Packet) : State :=
  let k := p.ctx.toNat
  let ok := s.takes p 5
  let s := (s.accept p 5).2
  if !ok then s
  else
    let s := if p.arg2.toNat % 256 = 0 then s else s.modCtx k (fun c => { c with reads := c.reads.drop 1 })
    (s.takeNak k p.ackPsn.toNat p.sack.toNat).pump1 k

/-- FOREIGN_FRAME (R349). -/
def State.foreignFrameIn (s : State) (n : Nat) : State := if s.portLive n then s.bump Off.fabForeignDrops 1 else s

/-! ### Timers (R356-R359, R372) -/

/-- ACK_TIMER: DELAY has passed since the first unacknowledged arrival. -/
def State.ackTimerTick (s : State) (k : Nat) : State := if (s.ctx k).arrived > 0 then s.sendAckNak k 4 0 else s

/-- RTO ceiling (R374). -/
def State.rtoMax (s : State) : Nat := max (s.regField Off.fabRto 20 16) (s.regField Off.fabRto 0 16)

/-- RATE_UPDATE (R359). -/
def State.rateTick (s : State) (k : Nat) : State :=
  let c := s.ctx k
  if c.state ≠ 1 then s
  else
    let lo := s.regField Off.fabRate 16 20
    let ai := s.regField Off.fabRate 36 20
    let r := if c.marked > 0 ∧ c.acked > 0 then max lo (c.rate - c.rate * min c.marked c.acked / (2 * c.acked))
      else if c.marked = 0 then min s.portRate (c.rate + ai) else c.rate
    s.setCtx k { c with rate := r, marked := 0, acked := 0 }

/-- Whether packet `n` of a context has gone: it has been sent, and injection holds it no longer. -/
def Ctx.gone (c : Ctx) (n : Nat) : Bool := decide (n < c.injN) && (c.delayed ++ c.reorder).all (fun f => decide (f.n ≠ n))

/-- INJECT_DELAY_EXPIRY: the oldest held packet of the context is sent; one that is also reordered waits for the next packet, if that has not gone (R372). -/
def State.delayEnd (s : State) (k : Nat) : State :=
  let c := s.ctx k
  match c.delayed with
  | [] => s
  | f :: fs =>
    let s := s.setCtx k { c with delayed := fs }
    if f.late && !(s.ctx k).gone (f.n + 1) then s.modCtx k (fun c => { c with reorder := c.reorder ++ [f] })
    else s.sendOut k f.n [f]

/-- Port `n` may carry again: the frames that waited go, then what its contexts hold. -/
def State.wakePort (s : State) (n : Nat) : State :=
  s.fab.ctxs.foldl (fun s e => if e.2.port = n then s.pump1 e.1 else s) (s.flushPort n)

/-- PFC_PAUSE_RECEIVED: a pause on the Corridor priority holds the port's transmission; when it ends, waiting packets go (R348). -/
def State.pfcPause (s : State) (n : Nat) (on : Bool) : State :=
  if !s.pfcOn then s
  else
    let s := { s with fab := { s.fab with paused := setMark s.fab.paused n on } }
    if on then s else s.wakePort n

/-! ### Links and crossings (R373, R396) -/

/-- PORT_LINK_DOWN. -/
def State.linkDown (s : State) (n : Nat) : State :=
  if marked s.fab.up n then
    ({ s with fab := { s.fab with up := setMark s.fab.up n false, paused := setMark s.fab.paused n false,
                                    waiting := Sparse.set (fun _ => []) s.fab.waiting n [], pfcSent := setMark s.fab.pfcSent n false } }).event 0x21 0 n 0 0
  else s

/-- PORT_LINK_UP: ports are trained in Morning and stay up in Day, Dusk and Night (R349). -/
def State.linkUp (s : State) (n : Nat) : State :=
  if !marked s.fab.up n ∧ n < s.portCount ∧ (s.pwr.state == .morning || s.pwr.state == .day || s.pwr.state == .dusk || s.pwr.state == .night) then
    ({ s with fab := { s.fab with up := setMark s.fab.up n true } }).event 0x22 0 n s.portRate 0
  else s

/-! ### The context command (R353) -/

/-- FAB_CTX_DATA0-7 as bytes. -/
def State.ctxData (s : State) : List Byte := (List.range 8).flatMap (fun k => leBytes 8 (s.regN (Off.fabCtxData k)))

/-- Store FAB_CTX_CMD.STATUS; CMD reads 0. -/
def State.ctxStatus (s : State) (st : Nat) : State := s.setReg Off.fabCtxCmd (BitVec.ofNat 64 (st * 256))

/-- The 48 bytes of a WRITE without their reserved bits, which read 0 (R8, R352). -/
def ctxClean (b : List Byte) : List Byte :=
  let w0 := hfield b 0 8
  let w1 := hfield b 8 8
  let w4 := hfield b 32 4
  leBytes 8 (setField (setField w0 8 8 0) 44 4 0) ++ leBytes 8 (setField w1 61 3 0) ++ (b.drop 16).take 16 ++ leBytes 4 (setField (setField w4 11 5 0) 25 7 0) ++
  (b.drop 36).take 10 ++ leBytes 2 0

/-- Whether the 48 bytes of a WRITE keep the ranges of R352 and name an export in PROTECTED HBM (R353). -/
def State.ctxFieldsOk (s : State) (b : List Byte) : Bool :=
  let c := { Ctx.free with bytes := b }
  decide (hfield b 0 1 % 4 ≠ 3) && decide (c.port < s.portCount) && decide (1 ≤ c.credits ∧ c.credits ≤ 256) && decide (hfield b 36 4 ≤ 1048576) &&
  decide (c.exportBase % 4096 = 0) && (decide (c.exportBytes = 0) || s.allProtected c.exportBase c.exportBytes)

/-- A context as a WRITE makes it. -/
def State.madeCtx (s : State) (b : List Byte) : Ctx :=
  let c := { Ctx.free with bytes := b }
  { c with state := hfield b 0 1 % 4, rate := s.portRate, credit := c.credits, rto := s.regField Off.fabRto 0 16 }

/-- CTX_WRITE, its checks in the order of R15: an injection set for the context stays (R372: its rates are the context's own). -/
def State.ctxWriteCmd (s : State) : State :=
  let k := s.regField Off.fabCtxSel 0 12
  let old := s.ctx k
  let b := ctxClean (s.ctxData.take 48)
  if !s.ctxFieldsOk b then s.ctxStatus 0x11
  else if old.state = 1 then s.ctxStatus 0x21
  else (s.setCtx k { s.madeCtx b with inj0 := old.inj0, inj1 := old.inj1 }).ctxStatus 0

/-- The 64 bytes of a context record as it reads. -/
def Ctx.record (c : Ctx) : List Byte :=
  let w := c.bytes.take 1
  leBytes 1 (hfield w 0 1 / 4 * 4 + c.state) ++ (c.bytes.drop 1).take 47 ++ leBytes 4 c.txPsn ++ leBytes 4 c.rxPsn ++ leBytes 4 c.rate ++ leBytes 4 0

/-- CTX_READ. -/
def State.ctxReadCmd (s : State) : State :=
  let b := (s.ctx (s.regField Off.fabCtxSel 0 12)).record
  ((List.range 8).foldl (fun s k => s.setReg (Off.fabCtxData k) (BitVec.ofNat 64 (hfield b (8 * k) 8))) s).ctxStatus 0

end Sys2Proof.Machine
end

