-- ==== Sys2Proof/Machine/Assembly.lean ====
section
/-! DEFINITION. Assembly: group records (R361, R362), requests (R363-R366), collectives (R367-R370), and what the loss or the end of a context does
(R353, R357). -/

namespace Sys2Proof.Machine

open Sys2Proof

/-! ### Group records (R361, R362) -/

/-- Group `g`. -/
def State.group (s : State) (g : Nat) : Group := Sparse.get (fun _ => Group.reset) s.asm g

/-- Store group `g`. -/
def State.setGroup (s : State) (g : Nat) (x : Group) : State := { s with asm := Sparse.set (fun _ => Group.reset) s.asm g x }

/-- The `n` bytes of group record `g` at offset `o`, as a number. -/
def State.groupField (s : State) (g o n : Nat) : Nat := field (s.regN (Off.asmGroup g (o / 8))) (8 * (o % 8)) (8 * n)

/-- ENABLE. -/
def State.groupOn (s : State) (g : Nat) : Bool := bit (s.groupField g 0 1) 0
/-- TOPO: 0 tree, 1 ring, 2 chain. -/
def State.topo (s : State) (g : Nat) : Nat := field (s.groupField g 0 1) 1 2
/-- HOME. -/
def State.home (s : State) (g : Nat) : Wing := ⟨field (s.groupField g 0 1) 3 2 % 4, by omega⟩
/-- START_BELL. -/
def State.startBell (s : State) (g : Nat) : Nat := s.groupField g 1 1 % 64
/-- DONE_BELL. -/
def State.doneBell (s : State) (g : Nat) : Nat := s.groupField g 2 1 % 64
/-- RANK. -/
def State.rank (s : State) (g : Nat) : Nat := s.groupField g 8 4
/-- SIZE. -/
def State.members (s : State) (g : Nat) : Nat := s.groupField g 12 4
/-- QUEUE. -/
def State.queueAt (s : State) (g : Nat) : Nat := s.groupField g 16 4 % 2 ^ 30
/-- CTX entry `i`; 0xFFFF names none. -/
def State.ctxEntry (s : State) (g i : Nat) : Nat := s.groupField g (32 + 2 * i) 2

/-- Whether entry `i` names a context. -/
def State.hasEntry (s : State) (g i : Nat) : Bool := decide (s.ctxEntry g i ≠ 0xFFFF)

/-- The entries this member receives values from on the way up: a tree's children, in ascending rank; the rank before it in a ring or chain. -/
def State.upFrom (s : State) (g : Nat) : List Nat :=
  if s.topo g = 0 then ((List.range 86).drop 1).filter (fun i => s.hasEntry g i) else if s.rank g = 0 then [] else [0]

/-- The entry this member sends its value to on the way up: none for the member that finishes the result. -/
def State.upTo (s : State) (g : Nat) : Option Nat :=
  if s.topo g = 0 then (if s.rank g = 0 then none else some 0) else if s.rank g + 1 = s.members g then none else some 1

/-- The entries this member sends the result to on the way back (R369): a tree's children; in a ring the next rank until N - 2 has it; in a chain the
rank before. -/
def State.downTo (s : State) (g : Nat) : List Nat :=
  let r := s.rank g
  let n := s.members g
  if s.topo g = 0 then s.upFrom g
  else if s.topo g = 1 then (if n ≤ 1 ∨ r + 2 = n then [] else [1])
  else (if r = 0 then [] else [0])

/-- ASM_GROUP_ENABLE (R361): the record is checked; NUMBER starts at 0. -/
def State.groupEnable (s : State) (g : Nat) : State :=
  let bad := (List.range 86).any (fun i =>
    let c := s.ctx (s.ctxEntry g i)
    s.hasEntry g i && (decide (s.ctxEntry g i ≥ 4096) || decide (c.state ≠ 1) || !c.assembly))
  let arg := decide (s.rank g ≥ s.members g) || (decide (s.topo g = 0) && decide (s.members g > 24576))
  if s.groupOn g then s
  else if bad then s.setGroup g { s.group g with last := 0x12 }
  else if arg then s.setGroup g { s.group g with last := 0x11 }
  else
    let o := Off.asmGroup g 0
    (s.setReg o (BitVec.ofNat 64 (s.regN o + 1))).setGroup g { Group.reset with started := (s.group g).started, failed := (s.group g).failed }

/-! ### Requests (R363-R365) -/

/-- Bytes of one element of a contribution (R368); TOPK counts K records of 8 bytes a merge. -/
def elemBytes (op k : Nat) : Nat := match op with | 1 => 4 | 2 => 4 | 3 => 2 | 4 => 8 * k | 5 => 4 | _ => 0

/-- Bytes of one element of a partial result as packets carry it: s64 sums, f32 sums, records, words (the model's choice). -/
def partBytes (op k : Nat) : Nat := match op with | 1 => 8 | 2 => 4 | 3 => 4 | 4 => 8 * k | 5 => 4 | _ => 0

/-- Elements in one segment. -/
def segElems (mtu op k : Nat) : Nat := max 1 (mtu / max 1 (partBytes op k))

/-- Segments of a collective: at least one. -/
def segCount (mtu op k count : Nat) : Nat := max 1 (ceilDiv count (segElems mtu op k))

/-- Read a request record's input fields. -/
def readReq (b : List Byte) : ReqCopy :=
  { op := hfield b 0 1, kk := hfield b 1 1 % 128, count := hfield b 4 4, src := hfield b 8 4 % 2 ^ 30, dst := hfield b 12 4 % 2 ^ 30, status := 0, sat := false, number := 0 }

/-- Whether two requests have equal OP, K, COUNT, SRC and DST (R365). -/
def ReqCopy.sameAs (a b : ReqCopy) : Bool := decide (a.op = b.op ∧ a.kk = b.kk ∧ a.count = b.count ∧ a.src = b.src ∧ a.dst = b.dst)

/-- K is out of its rule: the request completes with BAD_ARG before it takes a NUMBER (R363). -/
def ReqCopy.badK (r : ReqCopy) : Bool := if r.op = 4 then decide (r.kk = 0 ∨ r.kk > 64) else decide (r.kk ≠ 0)

/-- Other requests that complete with BAD_ARG: a reserved OP, a BARRIER with elements, more than 16 MiB (R368). -/
def ReqCopy.badArg (r : ReqCopy) : Bool :=
  decide (r.op > 5) || (decide (r.op = 0) && decide (r.count ≠ 0)) || decide (r.count * elemBytes r.op r.kk > 16777216)

/-- A contribution's elements as partial values (R369: s32 and bf16 widened exactly). -/
def widen (op : Nat) (b : List Byte) : List Byte :=
  match op with
  | 1 => (List.range (b.length / 4)).flatMap (fun i => leBytes 8 (unsigned 64 (signed 32 (hfield b (4 * i) 4))))
  | 3 => (List.range (b.length / 2)).flatMap (fun i => leBytes 4 (hfield b (2 * i) 2 * 65536))
  | _ => b

/-- Insert a record into the first `k` under the order of R237, ties to the lower index (R370). -/
def recInsert (k : Nat) (e : F32 × Nat) : List (F32 × Nat) → List (F32 × Nat)
  | [] => [e].take k
  | x :: xs =>
    if topRank x.1 < topRank e.1 ∨ (topRank x.1 = topRank e.1 ∧ e.2 < x.2) then (e :: x :: xs).take k else (x :: recInsert (k - 1) e xs).take k

/-- The records of merge `m` of a TOPK value. -/
def mergeRecs (k m : Nat) (b : List Byte) : List (F32 × Nat) :=
  (List.range k).map (fun j => (BitVec.ofNat 32 (hfield b (8 * k * m + 8 * j) 4), hfield b (8 * k * m + 8 * j + 4) 4))

/-- The first `k` of some records under the order of R237, as bytes. -/
def firstRecs (k : Nat) (rs : List (F32 × Nat)) : List Byte := (rs.foldl (fun l e => recInsert k e l) []).flatMap (fun e => leBytes 4 e.1.toNat ++ leBytes 4 e.2)

/-- The records of every merge of a TOPK value in the order of R237. -/
def sortMerges (k : Nat) (b : List Byte) : List Byte := (List.range (b.length / max 1 (8 * k))).flatMap (fun m => firstRecs k (mergeRecs k m b))

/-- The value a member starts from: its contribution widened, a TOPK's records in their order (R370). -/
def ownParts (op k : Nat) (b : List Byte) : List Byte := if op = 4 then sortMerges k b else widen op b

/-- Join two partial values of an operation (R369, R370): exact sums, f32 sums, the first K records of each merge, rank 0's words. -/
def joinParts (op k : Nat) (acc x : List Byte) : List Byte :=
  match op with
  | 1 => (List.range (acc.length / 8)).flatMap (fun i => leBytes 8 ((hfield acc (8 * i) 8 + hfield x (8 * i) 8) % 2 ^ 64))
  | 2 => (List.range (acc.length / 4)).flatMap (fun i => leBytes 4 (fadd (BitVec.ofNat 32 (hfield acc (4 * i) 4)) (BitVec.ofNat 32 (hfield x (4 * i) 4))).toNat)
  | 3 => (List.range (acc.length / 4)).flatMap (fun i => leBytes 4 (fadd (BitVec.ofNat 32 (hfield acc (4 * i) 4)) (BitVec.ofNat 32 (hfield x (4 * i) 4))).toNat)
  | 4 => (List.range (acc.length / max 1 (8 * k))).flatMap (fun m => firstRecs k (mergeRecs k m acc ++ mergeRecs k m x))
  | _ => acc

/-- The finished result of partial values, and whether an s32 sum was clamped (R369). -/
def finishParts (op : Nat) (b : List Byte) : List Byte × Bool :=
  match op with
  | 1 =>
    let vs := (List.range (b.length / 8)).map (fun i => signed 64 (hfield b (8 * i) 8))
    (vs.flatMap (fun v => leBytes 4 (unsigned 32 (satS32 v))), vs.any (fun v => !inS32 v))
  | 3 => ((List.range (b.length / 4)).flatMap (fun i => leBytes 2 (toBf16 (BitVec.ofNat 32 (hfield b (4 * i) 4))).toNat), false)
  | _ => (b, false)

/-! ### Collectives in progress (R364, R367-R370) -/

/-- Change the collective with NUMBER `n` of a group. -/
def Group.modColl (x : Group) (n : Nat) (f : Coll → Coll) : Group :=
  { x with colls := x.colls.map (fun c => if c.req.number = n ∧ !c.again ∧ c.result.isNone then f c else c) }

/-- The collective with NUMBER `n` that still runs. -/
def Group.running (x : Group) (n : Nat) : Option Coll := x.colls.find? (fun c => decide (c.req.number = n) && !c.again && c.result.isNone)

/-- End a collective with a status: a lost or refused one has no result bytes. -/
def Coll.fail (c : Coll) (st : Nat) : Coll := { c with req := { c.req with status := st }, result := some [] }

/-- The key of an entry's segment. -/
def partKey (e seg : Nat) : Nat := e * 2 ^ 24 + seg

/-- Cut partial values into segments. -/
def cutSegs (mtu : Nat) (r : ReqCopy) (b : List Byte) : List (List Byte) :=
  let m := segElems mtu r.op r.kk * partBytes r.op r.kk
  (List.range (segCount mtu r.op r.kk r.count)).map (fun j => (b.drop (m * j)).take m)

/-- The length segment `j` of a collective has when it is not lost; a BCAST's way up carries data only from rank 0's side of a ring or chain. -/
def segLen (mtu : Nat) (r : ReqCopy) (j : Nat) : Nat :=
  let m := segElems mtu r.op r.kk
  min m (r.count - m * j) * partBytes r.op r.kk

/-- ARG2 of an ASM packet (R351). -/
def asmArg2 (r : ReqCopy) (seg dir : Nat) : Nat := seg % 2 ^ 24 + dir * 2 ^ 24 + r.op % 128 * 2 ^ 25 + r.count % 2 ^ 32 * 2 ^ 32

/-- Send partial values or a result through entry `e`; lost data goes as empty segments (the model's mark). -/
def State.sendParts (s : State) (g e dir : Nat) (r : ReqCopy) (b : List Byte) (lost : Bool) : State :=
  let segs := cutSegs s.mtu r b
  let last := segs.length - 1
  s.sendSegs (s.ctxEntry g e) (segs.zipIdx.map (fun p =>
    { type := 3, last := decide (p.2 = last), arg1 := s.groupField g 4 4 + r.number * 2 ^ 32, arg2 := asmArg2 r p.2 dir, payload := if lost then [] else p.1 }))

/-- All segments of entry `e` received on the way up: joined, and whether one was lost. -/
def Coll.joined (c : Coll) (mtu e : Nat) : Option (List Byte × Bool) :=
  let n := segCount mtu c.req.op c.req.kk c.req.count
  let got := (List.range n).map (fun j => c.parts.find? (fun p => p.1 == partKey e j))
  if got.all (·.isSome) then
    let bs := got.filterMap id
    some (bs.flatMap (·.2), (List.range n).any (fun j => decide ((bs.getD j (0, [])).2.length < segLen mtu c.req j)))
  else none

/-- The value of this member once every child's has come: partial values and whether one is lost (R369). -/
def State.combined (s : State) (g : Nat) (c : Coll) : Option (List Byte × Bool) :=
  (s.upFrom g).foldl (fun acc e =>
    match acc, c.joined s.mtu e with
    | some (b, l), some (x, m) =>
      if c.req.op = 5 then (if s.topo g = 0 then some (b, l) else some (x, m)) else some (joinParts c.req.op c.req.kk b x, l || m)
    | _, _ => none) (some (ownParts c.req.op c.req.kk c.own, c.lost))

/-- Take the finished partial values as this member's result, and pass them on (R369). -/
def State.haveResult (s : State) (g : Nat) (c : Coll) (b : List Byte) (lost : Bool) : State :=
  let s := (s.downTo g).foldl (fun s e => s.sendParts g e 1 c.req b lost) s
  let (out, sat) := finishParts c.req.op b
  let st := if lost ∧ c.req.count ≠ 0 then 0x30 else if c.req.op ≠ 0 ∧ c.req.count = 0 then 1 else 0
  s.setGroup g ((s.group g).modColl c.req.number (fun c => { c with req := { c.req with status := st, sat := sat && decide (st = 0) }, result := some (if st = 0 then out else []) }))

/-- The result received on the way back. -/
def Coll.received (c : Coll) (mtu : Nat) : Option (List Byte × Bool) :=
  let n := segCount mtu c.req.op c.req.kk c.req.count
  let got := (List.range n).map (fun j => c.down.find? (fun p => p.1 == j))
  if got.all (·.isSome) then
    let bs := got.filterMap id
    some (bs.flatMap (·.2), (List.range n).any (fun j => decide ((bs.getD j (0, [])).2.length < segLen mtu c.req j)))
  else none

/-- Move a running collective on: up when every value below has come, and back when the result has. -/
def State.advanceColl (s : State) (g n : Nat) : State :=
  match (s.group g).running n with
  | none => s
  | some c =>
    let s := if c.upSent then s
      else match s.combined g c with
        | none => s
        | some (b, lost) =>
          match s.upTo g with
          | none => s.haveResult g c b lost
          | some e =>
            let s := s.setGroup g ((s.group g).modColl n (fun c => { c with upSent := true }))
            s.sendParts g e 0 c.req b lost
    match (s.group g).running n with
    | none => s
    | some c =>
      match c.received s.mtu with
      | some (b, lost) => if c.upSent then s.haveResult g c b lost else s
      | none => s

/-- The entry of a group that names a context. -/
def State.entryOf (s : State) (g k : Nat) : Option Nat := (List.range 86).find? (fun i => decide (s.ctxEntry g i = k))

/-- The group a packet's GROUP_ID names. -/
def State.groupOf (s : State) (k : Nat) (p : Seg4) : Option Nat :=
  (List.range 16).find? (fun g => s.groupOn g && decide (s.groupField g 4 4 = p.arg1 % 2 ^ 32) && (s.entryOf g k).isSome)

/-- Whether an ASM packet differs from this member's request: in OP, in COUNT, or in K, which shows in the segments, their lengths and which of them is the last
(R367). -/
def ReqCopy.differs (r : ReqCopy) (mtu : Nat) (p : Seg4) : Bool :=
  let seg := field p.arg2 0 24
  decide (field p.arg2 25 7 ≠ r.op % 128) || decide (field p.arg2 32 32 ≠ r.count) || (p.last != decide (seg + 1 = segCount mtu r.op r.kk r.count)) ||
  decide (seg ≥ segCount mtu r.op r.kk r.count) || (decide (p.payload.length ≠ 0) && decide (p.payload.length ≠ segLen mtu r seg))

/-- One ASM packet for a running collective: a request that differs is BAD_ARG (R367). -/
def State.takePart (s : State) (g e : Nat) (p : Seg4) : State :=
  let n := field p.arg1 32 32
  match (s.group g).running n with
  | none => s
  | some _ =>
    let seg := field p.arg2 0 24
    let f := fun (c : Coll) =>
      if c.req.differs s.mtu p then c.fail 0x11
      else if bit p.arg2 24 then { c with down := Sparse.put c.down seg p.payload }
      else { c with parts := Sparse.put c.parts (partKey e seg) p.payload }
    (s.setGroup g ((s.group g).modColl n f)).advanceColl g n

/-- Whether a packet waits for a collective that has not started (R367). -/
def State.tooEarly (s : State) (g : Nat) (p : Seg4) : Bool := decide (psnSub (field p.arg1 32 32) (s.group g).number < 2 ^ 31)

/-- Hand the packets a context holds to Assembly; those of collectives not yet started stay. -/
def State.asmPump (s : State) (k : Nat) : State :=
  let ps := (s.ctx k).held
  let s := s.modCtx k (fun c => { c with held := [] })
  ps.foldl (fun s p =>
    match s.groupOf k p with
    | none => s
    | some g =>
      match s.entryOf g k with
      | none => s
      | some e =>
        if s.tooEarly g p then s.modCtx k (fun c => { c with held := c.held ++ [p] }) else s.takePart g e p) s

/-- The contexts of a group. -/
def State.groupCtxs (s : State) (g : Nat) : List Nat := uniq ((List.range 86).filterMap (fun i => if s.hasEntry g i then some (s.ctxEntry g i) else none))

/-! ### Starting a request (R364, R365) -/

/-- A START_BELL ring of the home Wing: counted while the group is enabled; beyond 256 in a pass it is a lesson fault (R364, R375). -/
def State.startRings (s : State) (w : Wing) (n : Nat) (ref : WordRef) : State :=
  (List.range 16).foldl (fun s g =>
    if s.groupOn g ∧ s.home g = w ∧ s.startBell g = n then
      let x := s.group g
      if x.nextK + x.rings.length ≥ 256 then s.seqFault w ref 0x11
      else s.setGroup g { x with rings := x.rings ++ [(s.seq w).epoch] }
    else s) s

/-- Put a request's collective at the end of the group's list. -/
def Group.push (x : Group) (k : Nat) (r : ReqCopy) (parity again : Bool) (own : List Byte) (lost : Bool) (result : Option (List Byte)) : Group :=
  { x with rings := x.rings.drop 1, nextK := k + 1, copies := if again then x.copies else x.copies.take k ++ [r] ++ x.copies.drop (k + 1),
           colls := x.colls ++ [{ k := k, req := r, own := own, lost := lost, parts := [], down := [], upSent := false, result := result, parity := parity, again := again }] }

/-- Answer a repeat from the copy of the original (R365). -/
def State.repeatReq (s : State) (g k : Nat) (r old : ReqCopy) (parity : Bool) : State :=
  let st := if r.sameAs old then old.status else 0x11
  (s.setGroup g ((s.group g).push k { r with status := st, sat := old.sat, number := old.number } parity true [] false (some []))).bump Off.asmRepeats 1

/-- Assembly reads the home Wing's scratch, in channel 3 (R453). -/
def State.asmRead (s : State) (w : Wing) (o n : Nat) : List Byte × Bool × State :=
  (s.libBytes w o n, s.libIsBad w o n, (s.noteLib w o n).carry (.wing w) .office 3 n)

/-- Assembly writes the home Wing's scratch, in channel 3. -/
def State.asmWrite (s : State) (w : Wing) (o : Nat) (bs : List Byte) : State := (s.carry .office (.wing w) 3 bs.length).libWrite w o bs

/-- Run a new request: its NUMBER, its contribution, and the packets of it that came early. -/
def State.runReq (s : State) (g k : Nat) (r : ReqCopy) (parity : Bool) : State :=
  let x := s.group g
  let n := x.number
  let r := { r with number := n }
  let bytes := r.count * elemBytes r.op r.kk
  let (own, bad, s) := s.asmRead (s.home g) r.src bytes
  let x := { x.push k r parity false own bad none with number := (n + 1) % 2 ^ 32, started := x.started + 1 }
  let s := ((s.setGroup g x).bump Off.asmCollectives 1).bump Off.asmBytes bytes
  let s := (s.groupCtxs g).foldl (fun s c => s.asmPump c) s
  (s.advanceColl g n).pfcChecks

/-- Start the group's next request if its OP is `op` (a reserved OP is taken by any command, and refused): BARRIER, SUM_I32, SUM_F32, SUM_BF16, TOPK, BCAST. -/
def State.startReq (s : State) (g op : Nat) : State :=
  let x := s.group g
  match x.rings with
  | [] => s
  | parity :: _ =>
    let k := x.nextK
    let (b, bad, s') := s.asmRead (s.home g) (s.queueAt g + 32 * k) 32
    let r := readReq b
    if !s.groupOn g ∨ !(decide (r.op = op) || decide (r.op > 5)) then s
    else if bad then s'.setGroup g (x.push k { r with status := 0x30 } parity false [] false (some []))
    else
      match (if s.srv.pass > 0 then x.copies[k]? else none) with
      | some old => s'.repeatReq g k r old parity
      | none =>
        if r.badK then s'.setGroup g (x.push k { r with status := 0x11 } parity false [] false (some []))
        else if r.badArg then
          let y := x.push k { r with status := 0x11, number := x.number } parity false [] false (some [])
          s'.setGroup g { y with number := (x.number + 1) % 2 ^ 32, started := x.started + 1 }
        else s'.runReq g k r parity

/-! ### Completing (R364, R366) -/

/-- The output fields of request record `k`. -/
def State.writeReq (s : State) (g : Nat) (c : Coll) : State :=
  s.asmWrite (s.home g) (s.queueAt g + 32 * c.k + 16)
    (leBytes 1 c.req.status ++ leBytes 1 (b2n c.req.sat + b2n c.again * 2) ++ leBytes 2 0 ++ leBytes 4 c.req.number)

/-- Keep the status of an original in its copy. -/
def Group.keep (x : Group) (c : Coll) : Group :=
  if c.again then x else { x with copies := x.copies.zipIdx.map (fun e => if e.2 = c.k then c.req else e.1) }

/-- A request completes: the result, the record, DONE_BELL in all four Wings under the start ring's parity; a failure is a fault of the pass and writes
COLLECTIVE_FAILED (R366). -/
def State.finishReq (s : State) (g : Nat) (c : Coll) : State :=
  let ok := decide (c.req.status ≤ 1)
  let s := if c.again ∨ c.req.status ≠ 0 ∨ c.result.getD [] = [] then s else s.asmWrite (s.home g) c.req.dst (c.result.getD [])
  let s := s.writeReq g c
  let x := (s.group g).keep c
  let x := { x with colls := x.colls.drop 1, last := c.req.status, failed := if ok then x.failed else x.failed ++ [c.req.status] }
  let s := s.setGroup g x
  let s := if ok then s else (s.bump Off.asmFailed 1).event 0x23 c.req.status g c.req.number c.k
  let s := if c.req.sat ∧ !c.again then s.bump Off.asmSaturated 1 else s
  (List.finRange 4).foldl (fun s v => s.ringIn c.parity (s.doneBell g) v) s

/-- ASM_COMPLETE: the group's oldest request, once its outcome stands. -/
def State.asmCompleteCmd (s : State) (g : Nat) : State :=
  match (s.group g).colls with
  | [] => s
  | c :: _ => if c.result.isSome then s.finishReq g c else s

/-- ASM_GROUP_DISABLE: every collective in progress completes with ABORTED (R367). -/
def State.groupDisable (s : State) (g : Nat) : State :=
  if !s.groupOn g then s
  else
    let cs := (s.group g).colls
    let s := cs.foldl (fun s c => s.finishReq g (if c.result.isSome then c else c.fail 0x40)) s
    let o := Off.asmGroup g 0
    (s.setReg o (BitVec.ofNat 64 (s.regN o - s.regN o % 2))).setGroup g { s.group g with rings := [] }

/-! ### Receiving, and the end of a context -/

/-- A data packet: accepted, delivered, its user served, then acknowledged as R356 asks. -/
def State.corridorData (s : State) (p : Packet) (type : Nat) : State :=
  let k := p.ctx.toNat
  let (a, s) := s.accept p type
  match a with
  | .stopped => s
  | a => (((s.asmPump k).afterArrival k a).pump1 k).pfcChecks

/-- Every running collective of a group that uses context `k` ends with a status. -/
def State.failColls (s : State) (k st : Nat) : State :=
  (List.range 16).foldl (fun s g =>
    if s.groupOn g ∧ (s.entryOf g k).isSome then
      let x := s.group g
      s.setGroup g { x with colls := x.colls.map (fun c => if c.result.isNone then c.fail st else c) }
    else s) s

/-- PEER_LOST (R357): outstanding operations complete with PEER_LOST; the context sends and accepts nothing more. -/
def State.peerLost (s : State) (k : Nat) : State :=
  let c := s.ctx k
  let s := (s.dropWaiting k).setCtx k { c with state := 2, queue := [], unacked := [], buf := [], held := [], reads := [], reorder := [], delayed := [] }
  ((s.bump Off.fabPeersLost 1).event 0x20 0x50 k c.ackPsn c.expiries).failColls k 0x50

/-- RTO_EXPIRY (R357). -/
def State.rtoExpire (s : State) (k : Nat) : State :=
  let c := s.ctx k
  if c.state ≠ 1 ∨ c.unacked = [] then s
  else
    let s := s.setCtx k { c with expiries := c.expiries + 1, rto := min (2 * c.rto) s.rtoMax }
    if c.expiries + 1 ≥ s.regField Off.fabRto 16 4 then s.peerLost k
    else c.unacked.foldl (fun s u => s.resend k u) s

/-- CTX_FREE (R353). -/
def State.ctxFreeCmd (s : State) : State :=
  let k := s.regField Off.fabCtxSel 0 12
  let c := s.ctx k
  (((s.dropWaiting k).setCtx k { Ctx.free with bytes := c.bytes, txPsn := c.txPsn, rxPsn := c.rxPsn, rate := c.rate, inj0 := c.inj0, inj1 := c.inj1 }).failColls k 0x40).ctxStatus 0

end Sys2Proof.Machine
end

