-- ==== Sys2Proof/Machine/Ecdsa.lean ====
section
/-! DEFINITION. ECDSA verification over P-256 with SHA-256 (FIPS 186-5), the signature R407, R411, R412, R429 and R443
name. Points are Jacobian triples of numbers modulo p; (x, y, 0) is the point at infinity. -/

namespace Sys2Proof.Machine

open Sys2Proof

def p256P : Nat := 0xffffffff00000001000000000000000000000000ffffffffffffffffffffffff
def p256N : Nat := 0xffffffff00000000ffffffffffffffffbce6faada7179e84f3b9cac2fc632551
def p256B : Nat := 0x5ac635d8aa3a93e7b3ebbd55769886bc651d06b0cc53b0f63bce3c3e27d2604b
def p256Gx : Nat := 0x6b17d1f2e12c4247f8bce6e563a440f277037d812deb33a0f4a13945d898c296
def p256Gy : Nat := 0x4fe342e2fe1a7f9b8ee7eb4a7c0f9e162bce33576b315ececbb6406837bf51f5

/-- Modular exponentiation by `k` squarings (exponents below 2^k). -/
def powMod (m b : Nat) : Nat → Nat → Nat
  | 0, _ => 1
  | k + 1, e =>
    let r := powMod m (b * b % m) k (e / 2)
    if e % 2 = 1 then r * b % m else r

/-- The inverse modulo a prime. -/
def invMod (m a : Nat) : Nat := powMod m (a % m) 256 (m - 2)

/-- Subtraction modulo p. -/
def subP (a b : Nat) : Nat := (a + p256P - b % p256P) % p256P

/-- Doubling. -/
def ptDouble (q : Nat × Nat × Nat) : Nat × Nat × Nat :=
  let (x, y, z) := q
  let yy := y * y % p256P
  let s := 4 * x * yy % p256P
  let zz := z * z % p256P
  let m := subP (3 * x * x % p256P) (3 * (zz * zz % p256P) % p256P)
  let x3 := subP (m * m % p256P) (2 * s)
  let y3 := subP (m * subP s x3 % p256P) (8 * (yy * yy % p256P) % p256P)
  (x3, y3, 2 * y * z % p256P)

/-- Addition. -/
def ptAdd (q r : Nat × Nat × Nat) : Nat × Nat × Nat :=
  let (x1, y1, z1) := q
  let (x2, y2, z2) := r
  if z1 % p256P = 0 then r
  else if z2 % p256P = 0 then q
  else
    let z1z := z1 * z1 % p256P
    let z2z := z2 * z2 % p256P
    let u1 := x1 * z2z % p256P
    let u2 := x2 * z1z % p256P
    let s1 := y1 * z2 % p256P * z2z % p256P
    let s2 := y2 * z1 % p256P * z1z % p256P
    if u1 = u2 then (if s1 = s2 then ptDouble q else (1, 1, 0))
    else
      let h := subP u2 u1
      let rr := subP s2 s1
      let h2 := h * h % p256P
      let h3 := h * h2 % p256P
      let v := u1 * h2 % p256P
      let x3 := subP (subP (rr * rr % p256P) h3) (2 * v)
      let y3 := subP (rr * subP v x3 % p256P) (s1 * h3 % p256P)
      (x3, y3, h * z1 % p256P * z2 % p256P)

/-- k * Q by `n` doubling steps. -/
def ptMul (q : Nat × Nat × Nat) : Nat → Nat → Nat × Nat × Nat
  | 0, _ => (1, 1, 0)
  | n + 1, k =>
    let d := ptMul (ptDouble q) n (k / 2)
    if k % 2 = 1 then ptAdd q d else d

/-- The curve equation y^2 = x^3 - 3x + b. -/
def onCurve (x y : Nat) : Bool :=
  decide (x < p256P ∧ y < p256P ∧ y * y % p256P = (x * x % p256P * x + 3 * (p256P - x) + p256B) % p256P)

/-- Verify signature (r, s) of the digest number `e` under the public key (qx, qy): FIPS 186-5, 6.4.2. -/
def ecdsaVerifyNat (qx qy e r s : Nat) : Bool :=
  if 0 < r ∧ r < p256N ∧ 0 < s ∧ s < p256N ∧ onCurve qx qy then
    let w := invMod p256N s
    let u1 := e * w % p256N
    let u2 := r * w % p256N
    let (x, _, z) := ptAdd (ptMul (p256Gx, p256Gy, 1) 256 u1) (ptMul (qx, qy, 1) 256 u2)
    if z % p256P = 0 then false
    else
      let zi := invMod p256P z
      decide (x * (zi * zi % p256P) % p256P % p256N = r)
  else false

/-- Verify a 64-byte signature (r, then s) of a message under a 64-byte public key (x, then y); the byte order within
each number is big-endian as FIPS 186-5 writes octet strings. -/
def ecdsaVerify (key msg sig : List Byte) : Bool :=
  ecdsaVerifyNat (beNat (key.take 32)) (beNat ((key.drop 32).take 32)) (beNat (sha256 msg))
    (beNat (sig.take 32)) (beNat ((sig.drop 32).take 32))

/-- A number from 1 to the order of P-256 less 1. -/
def p256Scalar (n : Nat) : Nat := n % (p256N - 1) + 1

/-- The public key of a private key, x then y. -/
def ecdsaPublic (d : Nat) : List Byte :=
  let (x, y, z) := ptMul (p256Gx, p256Gy, 1) 256 d
  let zi := invMod p256P z
  let zz := zi * zi % p256P
  (leBytes 32 (x * zz % p256P)).reverse ++ (leBytes 32 (y * (zz * zi % p256P) % p256P)).reverse

/-- Sign a message with private key `d` and the signer's number `k`: FIPS 186-5, 6.4.1. -/
def ecdsaSign (d k : Nat) (msg : List Byte) : List Byte :=
  let (x, _, z) := ptMul (p256Gx, p256Gy, 1) 256 k
  let zi := invMod p256P z
  let r := x * (zi * zi % p256P) % p256P % p256N
  let s := invMod p256N k * (beNat (sha256 msg) + r * d) % p256N
  (leBytes 32 r).reverse ++ (leBytes 32 s).reverse

end Sys2Proof.Machine
end

