-- ==== Sys2Proof/Machine/Firmware.lean ====
section
/-! DEFINITION. Flash, images and keys: the flash and its counters (R408, R409), image headers (R410-R412), the records of the key and
configuration areas (R413, R414), and the bank checks (R416). -/

namespace Sys2Proof.Machine

open Sys2Proof

/-! ### The flash (R408, R409) -/

/-- `n` bytes of the flash; erased flash reads 0. -/
def State.flashBytes (s : State) (o n : Nat) : List Byte := Memory.readN s.sec.flash o n

/-- Write bytes of the flash. -/
def State.flashPut (s : State) (o : Nat) (bs : List Byte) : State := { s with sec := { s.sec with flash := Memory.writeN s.sec.flash o bs } }

/-- Erase a range of the flash. -/
def State.flashErase (s : State) (o n : Nat) : State :=
  { s with sec := { s.sec with flash := s.sec.flash.filter (fun e => decide (e.1 < o ∨ o + n ≤ e.1)) } }

/-- Monotonic counter `n`. -/
def State.counter (s : State) (n : Nat) : Nat := Sparse.get (fun _ => 0) s.sec.counters n

/-- Raise counter `n` to `v`: it can only rise, within its 32 bits (R409). -/
def State.raise (s : State) (n v : Nat) : State :=
  if v < s.counter n ∨ 2 ^ 32 ≤ v then s else { s with sec := { s.sec with counters := Sparse.set (fun _ => 0) s.sec.counters n v } }

/-- Count signature and hash checks that failed (SEC_VERIFY_FAILS). -/
def State.verifyFails (s : State) (n : Nat) : State := if n = 0 then s else s.bump Off.secVerifyFails n

/-! ### The boot record (R408): ACTIVE in byte 0 and the sequence number in bytes 4-7 of each copy -/

/-- The copy of the boot record that applies. -/
def State.bootCopy (s : State) : Option Nat := (List.range 2).find? (fun i => decide (leNat (s.flashBytes (4096 * i + 4) 4) = s.counter 5))

/-- ACTIVE: bank B when true. -/
def State.activeBank (s : State) : Bool :=
  match s.bootCopy with
  | some i => bit (leNat (s.flashBytes (4096 * i) 1)) 0
  | none => false

/-- Make bank `b` ACTIVE: the copy that does not apply is written, then counter 5. A counter that can rise no further leaves the sequence number as it is, and the copy that
applies is written (R409, log entry 137). -/
def State.setActive (s : State) (b : Bool) : State :=
  let top := 2 ^ 32 - 1
  let i := if s.counter 5 < top then (if s.bootCopy = some 0 then 1 else 0) else s.bootCopy.getD 0
  let n := min (s.counter 5 + 1) top
  (s.flashPut (4096 * i) (leBytes 4 (b2n b) ++ leBytes 4 n)).raise 5 n

/-! ### Keys and identity (R405, R406) -/

/-- The vendor root public key in the key area. -/
def State.vendorKey (s : State) : List Byte := s.flashBytes 0x2000 64

/-- A vendor root signature: good only under a key that the last Dawn accepted by its hash (R405). -/
def State.vendorSigned (s : State) (msg sig : List Byte) : Bool := s.sec.vendorOk && ecdsaVerify s.vendorKey msg sig

/-- The identity private key of a seed: the spec's candidate stream is left open, so the key is a free value of the seed (log entry 9). -/
def identityOf (seed : Nat) : Nat := p256Scalar (Config.freeWord 406 seed)

/-- The public key of a private key, X then Y (R405). -/
def publicKey (d : Nat) : List Byte :=
  let (x, y, z) := ptMul (p256Gx, p256Gy, 1) 256 d
  let zi := invMod p256P z
  let zz := zi * zi % p256P
  beBytes 32 (x * zz % p256P) ++ beBytes 32 (y * (zz * zi % p256P) % p256P)

/-- DEVICE: the SHA-256 of the identity public key, when there is one. -/
def State.device (s : State) : Option (List Byte) := s.sec.identity.map (fun d => sha256 (publicKey d))

/-- Whether the DEVICE of a record matches this module. -/
def State.isDevice (s : State) (bs : List Byte) : Bool := decide (s.device = some bs)

/-- The key that signs configuration records and permits: the owner's, or the accepted vendor key while no owner is enrolled; none while the enrolment is
unknown. -/
def State.signer (s : State) : Option (List Byte) :=
  if !s.sec.ownerSet then none
  else match s.sec.owner with
    | some k => some k
    | none => if s.sec.vendorOk then some s.vendorKey else none

/-- Verify under an optional key. -/
def verifyBy (key : Option (List Byte)) (msg sig : List Byte) : Bool :=
  match key with
  | some k => ecdsaVerify k msg sig
  | none => false

/-! ### Image headers (R410-R412, R434) -/

/-- Whether `n` bytes at `o` are all 0. -/
def zeros (h : List Byte) (o n : Nat) : Bool := decide (hfield h o n = 0)

/-- The largest body of an image KIND (R434). -/
def maxBody (kind : Nat) : Nat := if kind = 1 then 12582400 else if kind = 2 then 4193792 else 1048576

/-- Whether an IFACE entry is valid. -/
def ifaceOk (h : List Byte) (j : Nat) : Bool :=
  let o := 32 + 8 * j
  zeros h (o + 4) 4 &&
  (zeros h o 1 || (decide (hfield h (o + 1) 1 = 1 ∨ hfield h (o + 1) 1 = 2) &&
    decide (1 ≤ hfield h (o + 2) 1 ∧ hfield h (o + 2) 1 ≤ hfield h (o + 3) 1)))

/-- Whether a header is valid: PART, FORMAT, KIND, LENGTH, SVN, NSTEP, steppings, interfaces and reserved bits (R410, R411, R434). -/
def imageHeadOk (h : List Byte) : Bool :=
  decide (hfield h 0 2 = 0x0B32) && decide (hfield h 2 1 = 0x0E) && decide (1 ≤ hfield h 3 1 ∧ hfield h 3 1 ≤ 3) &&
  decide (1 ≤ hfield h 4 4 ∧ hfield h 4 4 ≤ maxBody (hfield h 3 1)) && decide (1 ≤ hfield h 8 2) && zeros h 10 2 &&
  decide (1 ≤ hfield h 16 1 ∧ hfield h 16 1 ≤ 8) && zeros h 17 7 && zeros h (24 + hfield h 16 1) (8 - hfield h 16 1) &&
  (List.range 8).all (ifaceOk h) &&
  (List.range 16).all (fun j => zeros h (97 + 8 * j) 1 && zeros h (102 + 8 * j) 2) &&
  decide (hfield h 256 1 < 8) && zeros h 257 7 && zeros h 456 56

/-- A header's KIND. -/
def imageKind (h : List Byte) : Nat := hfield h 3 1
/-- A header's SVN. -/
def imageSvn (h : List Byte) : Nat := hfield h 8 2

/-- The range a header gives for an interface in a role (1 provides, 2 needs). -/
def ifaceRange (h : List Byte) (id role : Nat) : Option (Nat × Nat) :=
  ((List.range 8).find? (fun j => decide (hfield h (32 + 8 * j) 1 = id ∧ hfield h (33 + 8 * j) 1 = role))).map
    (fun j => (hfield h (34 + 8 * j) 1, hfield h (35 + 8 * j) 1))

/-- The version two ranges pair at: the highest in their intersection, 0 for none (R412). -/
def pairAt (a b : Option (Nat × Nat)) : Nat :=
  match a, b with
  | some x, some y => if max x.1 y.1 ≤ min x.2 y.2 then min x.2 y.2 else 0
  | _, _ => 0

/-- The TRAIN version of a Caretaker and a training image. -/
def trainVersion (care train : List Byte) : Nat := pairAt (ifaceRange care 2 2) (ifaceRange train 2 1)

/-- The TALLY version of a Caretaker and a Rollbook image. -/
def tallyVersion (care rbk : List Byte) : Nat := pairAt (ifaceRange care 3 2) (ifaceRange rbk 3 1)

/-- Whether `a` lists `b` among its TESTED entries. -/
def lists (a b : List Byte) : Bool :=
  (List.range 16).any (fun j => decide (hfield a (96 + 8 * j) 1 ≠ 0 ∧ hfield a (96 + 8 * j) 1 = imageKind b ∧ hfield a (98 + 8 * j) 2 ≤ imageSvn b ∧
    imageSvn b ≤ hfield a (100 + 8 * j) 2))

/-- Whether a pairing is tested (R412). -/
def tested (a b : List Byte) : Bool := lists a b || lists b a

/-- Whether a header lists stepping 0xA1. -/
def stepped (h : List Byte) : Bool := (List.range (min 8 (hfield h 16 1))).any (fun j => decide (hfield h (24 + j) 1 = 0xA1))

/-- Whether a Caretaker or training image verifies with an owner key, if one is enrolled (R412). -/
def State.verifies (s : State) (owner : Option (List Byte)) (h body : List Byte) : Bool :=
  let m := h.take 256
  imageHeadOk h && decide (sha256 body = (h.drop 224).take 32) &&
  bit (hfield h 256 1) 0 && s.vendorSigned m ((h.drop 264).take 64) &&
  (match owner with | some k => bit (hfield h 256 1) 1 && ecdsaVerify k m ((h.drop 328).take 64) | none => true)

/-! ### Banks (R408, R416) -/

/-- Where an image of KIND 1 or 2 stands in a bank. -/
def imageBase (bank : Bool) (kind : Nat) : Nat := (if bank then 0x2000000 else 0x1000000) + if kind = 2 then 0xC00000 else 0

/-- Bytes of the region of an image KIND. -/
def imageRegion (kind : Nat) : Nat := if kind = 2 then 0x400000 else 0xC00000

/-- The header of a bank's image. -/
def State.bankHead (s : State) (bank : Bool) (kind : Nat) : List Byte := s.flashBytes (imageBase bank kind) 512

/-- The body of a bank's image. -/
def State.bankBody (s : State) (bank : Bool) (kind : Nat) : List Byte :=
  s.flashBytes (imageBase bank kind + 512) (hfield (s.bankHead bank kind) 4 4)

/-- Whether a bank holds an image of a KIND with a valid header. -/
def State.holdsImage (s : State) (bank : Bool) (kind : Nat) : Bool := imageHeadOk (s.bankHead bank kind) && decide (imageKind (s.bankHead bank kind) = kind)

/-- Whether a bank's image verifies. -/
def State.bankVerifies (s : State) (owner : Option (List Byte)) (bank : Bool) (kind : Nat) : Bool :=
  s.holdsImage bank kind && s.verifies owner (s.bankHead bank kind) (s.bankBody bank kind)

/-- Whether an image's SVN is at or above its floor. -/
def State.aboveFloor (s : State) (h : List Byte) : Bool := decide (s.counter (imageKind h - 1) ≤ imageSvn h)

/-- The first check of R416 that a bank fails; 0 when it passes. -/
def State.bankCode (s : State) (owner : Option (List Byte)) (requireTested bank : Bool) : Nat :=
  let c := s.bankHead bank 1
  let t := s.bankHead bank 2
  if !(s.holdsImage bank 1 && s.holdsImage bank 2) then 1
  else if !(s.bankVerifies owner bank 1 && s.bankVerifies owner bank 2) then 2
  else if !(s.aboveFloor c && s.aboveFloor t) then 3
  else if !(stepped c && stepped t) then 4
  else if trainVersion c t = 0 then 5
  else if requireTested && !tested c t then 6
  else 0

/-- Images of a bank that failed their signature or hash check (SEC_VERIFY_FAILS). -/
def State.bankFails (s : State) (owner : Option (List Byte)) (bank : Bool) : Nat :=
  if s.holdsImage bank 1 && s.holdsImage bank 2 then countN 2 (fun k => !s.bankVerifies owner bank (k + 1)) else 0

/-! ### Owner enrolment and configuration records (R413, R414) -/

/-- Copy `i` of the owner enrolment record. -/
def State.enrolCopy (s : State) (i : Nat) : List Byte := s.flashBytes (0x2100 + 0x100 * i) 256

/-- Whether an enrolment record's signature holds. -/
def State.enrolSigned (s : State) (r : List Byte) : Bool := s.vendorSigned (r.take 192) ((r.drop 192).take 64)

/-- The copy of the owner enrolment that applies. -/
def State.enrolment (s : State) : Option Nat :=
  (List.range 2).find? (fun i => let r := s.enrolCopy i
    s.enrolSigned r && s.isDevice ((r.drop 8).take 32) && decide (hfield r 4 4 = s.counter 2))

/-- The owner key of an enrolment record: none when it is all zero. -/
def ownerKey (r : List Byte) : Option (List Byte) := if zeros r 40 64 then none else some ((r.drop 40).take 64)

/-- Copy `i` of the configuration record. -/
def State.configCopy (s : State) (i : Nat) : List Byte := s.flashBytes (0x20000 + 0x80 * i) 128

/-- Whether a configuration record's or a permit's signature holds under the key that signs them. -/
def State.signed64 (s : State) (r : List Byte) : Bool := verifyBy s.signer (r.take 64) ((r.drop 64).take 64)

/-- Whether copy `i` of the configuration record applies. -/
def State.configApplies (s : State) (i : Nat) : Bool :=
  let r := s.configCopy i
  s.signed64 r && s.isDevice ((r.drop 8).take 32) && decide (hfield r 4 4 = s.counter 3)

/-- Whether copy `i` holds a record (an erased copy holds none). -/
def State.configHeld (s : State) (i : Nat) : Bool := decide (hfield (s.configCopy i) 0 1 = 0x0C)

/-- The settings in force when no copy of the configuration record applies (R413). -/
def State.noConfig (s : State) : State :=
  { s with sec := { s.sec with requireMetering := true, requireTested := decide (s.counter 3 > 0), configSeq := 0 } }

/-- Put the configuration in force (R413): a held copy that does not apply writes CONFIG_INVALID with SUBJECT 0. It counts as a failed check when there is a
key to check it by. -/
def State.readConfig (s : State) : State :=
  let s := (List.range 2).foldl (fun s i =>
    if s.configHeld i && !s.configApplies i then
      (s.verifyFails (b2n (s.signer.isSome && !s.signed64 (s.configCopy i)))).event 0x46 0 0 0 0
    else s) s
  match (List.range 2).find? s.configApplies with
  | some i =>
    let r := s.configCopy i
    { s with sec := { s.sec with requireMetering := bit (hfield r 1 1) 0, requireTested := bit (hfield r 1 1) 1, configSeq := hfield r 4 4 } }
  | none => s.noConfig

end Sys2Proof.Machine
end

