-- ==== Sys2Proof/Machine/Boot.lean ====
section
/-! DEFINITION. Dawn and Morning: the boot ROM (R406, R414, R415, R417), the Caretaker's bring-up (R418, R419), the pairing with the Rollbook
(R420-R422) and READY (R378). -/

namespace Sys2Proof.Machine

open Sys2Proof

/-! ### Entering Twilight and Day -/

/-- Enter Twilight: trained stacks go to self-refresh and the ports down (R376, R383). -/
def State.toTwilight (s : State) : State :=
  let s := s.enter .twilight 4
  let s := (List.range 16).foldl (fun s n => s.linkDown n) s
  (List.finRange 32).foldl (fun s k => s.modStack k (fun x => { x with selfRefresh := x.trained })) s

/-- Enter Day: the stacks leave self-refresh, and an unfinished drain is forgotten (R377, R380, R382). -/
def State.toDay (s : State) : State :=
  let s := s.enter .day 2
  let s := { s with pwr := { s.pwr with duskDone := false, endAll := false } }
  (List.finRange 32).foldl (fun s k => s.modStack k (fun x => { x with selfRefresh := false })) s

/-- PWR_CTRL.TARGET. -/
def State.target (s : State) : Nat := s.regField Off.pwrCtrl 0 3

/-! ### Dawn (R415) -/

/-- The PCI Express link is in L0 (R302, R345). -/
def State.linkTrained (s : State) (l : LinkIn) : State :=
  { s with hif := { s.hif with linkSpeed := l.speed.toNat, linkWidth := if l.wide then 16 else 8, flit := l.flit || decide (l.speed = 6) } }

/-- The recovery service starts: Twilight, where the link runs, with BANK 3, BOOT_REPORT and, without an identity, IDENTITY_FAILED (R383, R406, R417). -/
def State.recover (s : State) (l : LinkIn) (rejectA rejectB : Nat) : State :=
  let s := { s with sec := { s.sec with bank := 3, booted := false, rejectA := rejectA, rejectB := rejectB } }
  let s := s.linkTrained l
  let s := s.toTwilight.event 0x40 0 0xFF rejectA rejectB
  if s.sec.identity.isNone then s.event 0x47 0 0 0 0 else s

/-- Start the Caretaker of a bank: Morning and BOOT_REPORT. -/
def State.startBank (s : State) (b : Bool) (rejectA rejectB : Nat) : State :=
  let c := s.bankHead b 1
  let t := s.bankHead b 2
  let s := { s with sec := { s.sec with bank := b2n b, booted := true, careHeader := c, trainHeader := t, rejectA := rejectA, rejectB := rejectB } }
  (s.enter .morning 1).event 0x40 0 (b2n b) rejectA rejectB

/-- Check the banks, ACTIVE first, and boot the first that passes (steps 4 and 5 of R415). -/
def State.bootBanks (s : State) (l : LinkIn) : State :=
  let a := s.activeBank
  let o := s.sec.owner
  let code := fun b => s.bankCode o s.sec.requireTested b
  let first := code a
  let s1 := s.verifyFails (s.bankFails o a)
  if first = 0 then s1.startBank a 0 0
  else
    let second := code (!a)
    let s2 := s1.verifyFails (s.bankFails o (!a))
    let ra := if a then second else first
    let rb := if a then first else second
    if second = 0 then s2.startBank (!a) ra rb else s2.recover l ra rb

/-- Enrolment copies that hold a record whose signature fails. -/
def State.enrolFails (s : State) : Nat :=
  countN 2 (fun i => decide (hfield (s.enrolCopy i) 0 1 = 0x0B) && !s.enrolSigned (s.enrolCopy i))

/-- DAWN_BOOT with the seed the PUF gives; `l` is the link as it comes up for a recovery service. The vendor key is accepted only by its hash (R405). Without
an identity or an accepted vendor key no copy of the configuration record applies. -/
def State.dawnBoot (s : State) (seed : Option (BitVec 256)) (l : LinkIn) : State :=
  if s.pwr.state ≠ .dawn then s
  else
    let ok := decide (sha256 s.vendorKey = s.sec.romHash)
    match seed with
    | none => ({ s with sec := { s.sec with identity := none, vendorOk := ok } }.noConfig).recover l 0 0
    | some x =>
      let s := { s with sec := { s.sec with identity := some (identityOf x.toNat), vendorOk := ok } }
      if !ok then s.noConfig.recover l 0 0
      else
        let s := s.verifyFails s.enrolFails
        match s.enrolment with
        | none =>
          if s.counter 2 > 0 then (s.readConfig.event 0x46 0 1 0 0).recover l 0 0
          else ({ s with sec := { s.sec with owner := none, ownerSet := true } }.readConfig).bootBanks l
        | some i => ({ s with sec := { s.sec with owner := ownerKey (s.enrolCopy i), ownerSet := true } }.readConfig).bootBanks l

/-! ### The pairing with the Rollbook (R420-R422) -/

/-- A range as an UNMETERED event gives it. -/
def rangeBits (r : Option (Nat × Nat)) : Nat := match r with | some x => x.1 + 256 * x.2 | none => 0

/-- The metering found: what the Rollbook answered is its image header, or nothing. True when the module must not serve. -/
def State.settle (s : State) (rbk : Option (List Byte)) : Bool × State :=
  let care := s.sec.careHeader
  let mine := ifaceRange care 3 2
  let its := rbk.bind (fun h => ifaceRange h 3 1)
  let v := pairAt mine its
  let untested : Bool := match rbk with | some h => !tested care h | none => false
  let s := { s with rlink := { s.rlink with present := rbk.isSome },
                    sec := { s.sec with rbkSvn := match rbk with | some h => imageSvn h | none => s.sec.rbkSvn } }
  let put := fun (t : Nat) (u : Bool) (s : State) =>
    { s with sec := { s.sec with tally := t, untestedRbk := u }, rbk := if rbk.isSome then { s.rbk with version := t } else s.rbk }
  if v = 0 ∨ (untested ∧ s.sec.requireTested) then
    let s := put 0 false s
    if s.sec.requireMetering then (true, s)
    else (false, { s with sec := { s.sec with unmetered := true } }.event 0x42 0 0 (rangeBits mine) (rangeBits its))
  else
    let s := put v untested s
    (false, if untested then s.event 0x41 0 3 s.sec.rbkSvn (imageSvn care) else s)

/-- Settle metering in Morning, and enter Twilight when R421 or R422 says so. -/
def State.settleIn (s : State) (rbk : Option (List Byte)) : State :=
  let (stop, s) := s.settle rbk
  if stop then s.toTwilight else s

/-! ### Morning (R418, R419) -/

/-- The training image's pairing with the Caretaker (R412, R419). -/
def State.pairTrain (s : State) : State :=
  let c := s.sec.careHeader
  let t := s.sec.trainHeader
  let s := { s with sec := { s.sec with train := trainVersion c t, untestedTrain := !tested c t } }
  if s.sec.untestedTrain then s.event 0x41 0 2 (imageSvn t) (imageSvn c) else s

/-- The end of bring-up: metering is settled on the Rollbook's answer, or on none, and the PCI Express link comes up, in Twilight too (steps 4 and 5 of R418,
R383). -/
def State.bringUp (s : State) (rbk : Option (List Byte)) (l : LinkIn) : State :=
  ({ s with sec := { s.sec with asking := none } }.settleIn rbk).linkTrained l

/-- MORNING_BRINGUP. A unit found unusable is named and the module enters Twilight (R29). A Rollbook that does not answer leaves steps 4 and 5 to
ROLLBOOK_INFO_TIMEOUT. -/
def State.morningBringup (s : State) (m : MorningIn) : State :=
  if s.pwr.state ≠ .morning ∨ s.pwr.tested ∨ !s.sec.booted then s
  else
    let s := s.pairTrain
    match m.failed with
    | some u => ((s.event 0x01 0x7F u 0 0).toTwilight).linkTrained m.link
    | none =>
      let s := (List.finRange 32).foldl (fun s k => s.modStack k (fun x => { x with trained := true })) s
      let s := { s with pwr := { s.pwr with tested := true } }
      if m.answers then s.bringUp (some s.rbk.header) m.link else { s with sec := { s.sec with asking := some m.link } }

/-- ROLLBOOK_INFO_TIMEOUT: no TALLY version in common (R418). -/
def State.infoTimeout (s : State) : State :=
  match s.sec.asking with
  | some l => if s.pwr.state = .morning then s.bringUp none l else s
  | none => s

/-- Whether the conditions of READY hold (R378): a Rollbook image on its way is settled first (R427). -/
def State.readyDue (s : State) : Bool :=
  s.pwr.state == .morning && s.pwr.tested && s.sec.asking.isNone && s.sec.rbkDesc.isNone && decide (s.hif.linkSpeed ≠ 0) && (List.finRange 32).all (fun k => (s.stack k).trained)

/-- READY_SET: a TARGET of Day written before is taken now. -/
def State.readySet (s : State) : State :=
  if !s.readyDue ∨ s.pwr.ready then s
  else
    let s := { s with pwr := { s.pwr with ready := true } }
    if s.target = 3 then s.toDay else s

end Sys2Proof.Machine
end

