-- ==== Sys2Proof/Machine/FwOps.lean ====
section
/-! DEFINITION. Security opcodes 0x40-0x48 (R423-R429), debug permits (R429, R372), and the attestation responders (R430, R431). -/

namespace Sys2Proof.Machine

open Sys2Proof

/-! ### What the operations share -/

/-- Operations the recovery service turns away (R417); without an identity the records that need DEVICE as well (R406). -/
def State.recoveryDenies (s : State) (op : DescOp) : Bool :=
  decide (s.sec.bank = 3) && s.pwr.state == .twilight &&
  match op with
  | .fwQuery _ _ => false
  | .fwStage _ _ => false
  | .fwActivate _ => false
  | .ownerEnroll _ _ => s.sec.identity.isNone
  | .configWrite _ _ => s.sec.identity.isNone
  | _ => true

/-- What every security operation checks first (R15): NOT_PERMITTED, then BAD_ARG for reserved bits. -/
def State.secChecks (s : State) (d : Desc) (op : DescOp) : Nat :=
  firstStatus [failIf (s.recoveryDenies op) 0x13, s.plainChecks d op false false]

/-- Read SRC: a read that fails is DATA_LOST (R424). -/
def State.srcRead (s : State) (d : Desc) (x : Ext) (a n : Nat) : List Byte × Nat × State :=
  let (bs, st, s) := (s.absorb x).outRead (.office (s.tenantOf d)) x a n
  (bs, if st = 0x50 then 0x30 else st, s)

/-- The bank FW_STAGE writes: the one that is not running; the recovery service writes the one that is not ACTIVE. -/
def State.spareBank (s : State) : Bool := if s.sec.bank = 3 then !s.activeBank else decide (s.sec.bank = 0)

/-! ### FW_QUERY, FW_STAGE, FW_ACTIVATE and FW_COMMIT (R423-R426) -/

/-- FW_QUERY. -/
def State.fwQueryOp (s : State) (d : Desc) (dst : BitVec 48) (x : Ext) (c : DescRef) : State :=
  let st := s.secChecks d (.fwQuery dst x)
  if st ≠ 0 then s.complete c st 0 0
  else
    let head := fun b k => if s.holdsImage b k then s.bankHead b k else List.replicate 512 0
    s.copyAnswer d x dst.toNat (head false 1 ++ head false 2 ++ head true 1 ++ head true 2) c s.sec.bank (b2n s.activeBank)

/-- The status of an FW_STAGE once its image is read (R424). -/
def State.fwStageStatus (s : State) (h body : List Byte) (length : Nat) : Nat :=
  let k := imageKind h
  firstStatus [failIf (decide (k ≠ 1 ∧ k ≠ 2) || decide (length ≠ 512 + hfield h 4 4) || decide (length > imageRegion k) || !imageHeadOk h) 0x11,
               failIf (!s.verifies s.sec.owner h body) 0x13,
               failIf (!s.aboveFloor h || !stepped h) 0x11]

/-- Write an image into the spare bank: ACTIVE is set to the running bank first, the region erased, the body written, the header last (R425). -/
def State.putImage (s : State) (h body : List Byte) : State :=
  let b := s.spareBank
  let s := if s.sec.bank ≠ 3 ∧ s.activeBank = b then s.setActive (!b) else s
  let o := imageBase b (imageKind h)
  let s := s.flashErase o (imageRegion (imageKind h))
  ((s.flashPut (o + 512) body).flashPut o h).event 0x43 0 (imageKind h) (imageSvn h) (b2n b)

/-- FW_STAGE. -/
def State.fwStageOp (s : State) (d : Desc) (o : StageOp) (x : Ext) (c : DescRef) : State :=
  let n := o.length.toNat
  let st := firstStatus [s.secChecks d (.fwStage o x), failIf (decide (n < 513) || decide (n > 0xC00000)) 0x11]
  if st ≠ 0 then s.complete c st 0 0
  else
    let (bs, st, s) := s.srcRead d x o.src.toNat n
    if st ≠ 0 then s.complete c st 0 0
    else
      let h := bs.take 512
      let body := bs.drop 512
      let st := s.fwStageStatus h body n
      if st ≠ 0 then (s.verifyFails (b2n (decide (st = 0x13)))).complete c st 0 0
      else
        let b := s.spareBank
        (s.putImage h body).complete c 0 (imageSvn h) (b2n b)

/-- FW_ACTIVATE. -/
def State.fwActivateOp (s : State) (d : Desc) (bank : Bool) (c : DescRef) : State :=
  let st := s.secChecks d (.fwActivate bank)
  if st ≠ 0 then s.complete c st 0 0
  else
    let code := s.bankCode s.sec.owner s.sec.requireTested bank
    let s := s.verifyFails (s.bankFails s.sec.owner bank)
    if code ≠ 0 then s.complete c 0x11 0 0 else (s.setActive bank).complete c 0 (b2n bank) 0

/-- FW_COMMIT. -/
def State.fwCommitOp (s : State) (d : Desc) (kind : BitVec 8) (c : DescRef) : State :=
  let k := kind.toNat
  let st := firstStatus [s.secChecks d (.fwCommit kind), failIf (decide (k ≠ 1 ∧ k ≠ 2)) 0x11]
  if st ≠ 0 then s.complete c st 0 0
  else
    let old := s.counter (k - 1)
    let new := imageSvn (if k = 1 then s.sec.careHeader else s.sec.trainHeader)
    if new = old then s.complete c 1 0 0 else (s.raise (k - 1) new).complete c 0 new old

/-! ### RBK_FW_STAGE (R424, R427) -/

/-- Whether a new pairing with a Rollbook image would be untested while tested pairings are required. -/
def State.rbkUntested (s : State) (h : List Byte) : Bool := s.sec.requireTested && !tested s.sec.careHeader h

/-- RBK_FW_STAGE: the image goes to the Rollbook; it completes when the Rollbook has accepted or refused it. -/
def State.rbkFwStageOp (s : State) (d : Desc) (o : StageOp) (x : Ext) (c : DescRef) : State :=
  let n := o.length.toNat
  let busy := s.pwr.state == .day || s.duskBusy
  let st := firstStatus [s.secChecks d (.rbkFwStage o x), failIf busy 0x21, failIf (decide (n < 513) || decide (n > 1049088)) 0x11]
  if st ≠ 0 then s.complete c st 0 0
  else
    let (bs, st, s) := s.srcRead d x o.src.toNat n
    let h := bs.take 512
    let st := firstStatus [st, failIf (decide (imageKind h ≠ 3) || decide (tallyVersion s.sec.careHeader h = 0)) 0x11, failIf (s.rbkUntested h) 0x13]
    if st ≠ 0 then s.complete c st 0 0
    else { s with rbk := { s.rbk with forwarded := some bs }, sec := { s.sec with rbkDesc := some c },
                  pwr := { s.pwr with ready := s.pwr.ready && !(s.pwr.state == .morning) } }

/-! ### Records (R413, R414, R424, R428) -/

/-- Whether neither bank holds images that verify under an owner key. -/
def State.noBankFor (s : State) (owner : Option (List Byte)) : Bool :=
  !([false, true].any (fun b => s.bankVerifies owner b 1 && s.bankVerifies owner b 2))

/-- Images that fail the check under an owner key: bank B is looked at when bank A does not verify (log entry 122). -/
def State.ownerFails (s : State) (owner : Option (List Byte)) : Nat :=
  let a := s.bankFails owner false
  if s.bankVerifies owner false 1 && s.bankVerifies owner false 2 then a else a + s.bankFails owner true

/-- OWNER_ENROLL: the copy that is not in force is written, then counter 2. -/
def State.ownerEnrollOp (s : State) (d : Desc) (src : BitVec 48) (x : Ext) (c : DescRef) : State :=
  let st := s.secChecks d (.ownerEnroll src x)
  if st ≠ 0 then s.complete c st 0 0
  else
    let (r, st, s) := s.srcRead d x src.toNat 256
    if st ≠ 0 then s.complete c st 0 0
    else
      let seq := hfield r 4 4
      let good := s.enrolSigned r
      let st := firstStatus [failIf (!good || !s.isDevice ((r.drop 8).take 32)) 0x13,
                             failIf (decide (seq ≤ s.counter 2) || decide (hfield r 0 1 ≠ 0x0B) || !zeros r 1 3 || !zeros r 104 88) 0x11]
      if st ≠ 0 then (s.verifyFails (b2n (!good))).complete c st 0 0
      else
        let s := s.verifyFails (s.ownerFails (ownerKey r))
        if s.noBankFor (ownerKey r) then s.complete c 0x21 0 0
        else
        let i := if s.enrolment = some 0 then 1 else 0
        ((s.flashPut (0x2100 + 0x100 * i) r).raise 2 seq).complete c 0 seq 0

/-- CONFIG_WRITE: the copy that is not in force is written, then counter 3. -/
def State.configWriteOp (s : State) (d : Desc) (src : BitVec 48) (x : Ext) (c : DescRef) : State :=
  let st := s.secChecks d (.configWrite src x)
  if st ≠ 0 then s.complete c st 0 0
  else
    let (r, st, s) := s.srcRead d x src.toNat 128
    if st ≠ 0 then s.complete c st 0 0
    else
      let seq := hfield r 4 4
      let good := s.signed64 r
      let st := firstStatus [failIf (!good || !s.isDevice ((r.drop 8).take 32)) 0x13,
                             failIf (decide (seq ≤ s.counter 3) || decide (hfield r 0 1 ≠ 0x0C) || decide (hfield r 1 1 ≥ 4) || !zeros r 2 2 ||
                               !zeros r 40 24) 0x11]
      if st ≠ 0 then (s.verifyFails (b2n (!good))).complete c st 0 0
      else
        let i := if s.configApplies 0 then 1 else 0
        ((s.flashPut (0x20000 + 0x80 * i) r).raise 3 seq).complete c 0 seq 0

/-! ### Debug permits (R429, R372) -/

/-- End the live permit: PERMIT_ENDED, and every injection rate of every context clears. -/
def State.endPermit (s : State) (cause : Nat) : State :=
  match s.sec.permit with
  | none => s
  | some p =>
    let clear := fun (x : Ctx) => { x with inj0 := 0, inj1 := setField x.inj1 0 16 0 }
    let ctxs := s.fab.ctxs.foldl (fun m e => Sparse.set (fun _ => Ctx.free) m e.1 (clear e.2)) s.fab.ctxs
    ({ s with sec := { s.sec with permit := none }, fab := { s.fab with ctxs := ctxs } }).event 0x45 0 p.serial cause 0

/-- PERMIT_INSTALL. -/
def State.permitInstallOp (s : State) (d : Desc) (src : BitVec 48) (x : Ext) (c : DescRef) : State :=
  let st := s.secChecks d (.permitInstall src x)
  if st ≠ 0 then s.complete c st 0 0
  else
    let (r, st, s) := s.srcRead d x src.toNat 128
    if st ≠ 0 then s.complete c st 0 0
    else
      let serial := hfield r 4 4
      let ms := hfield r 8 4
      let grants := hfield r 1 1
      let good := s.signed64 r
      let st := firstStatus [failIf (!good || !s.isDevice ((r.drop 12).take 32)) 0x13,
                             failIf (decide (serial ≤ s.counter 4) || decide (ms = 0) || decide (hfield r 0 1 ≠ 0x0D) || decide (grants ≥ 2) ||
                               !zeros r 2 2 || !zeros r 44 20) 0x11]
      if st ≠ 0 then (s.verifyFails (b2n (!good))).complete c st 0 0
      else
        let s := (s.raise 4 serial).endPermit 3
        let p : Permit := { serial := serial, grants := grants, endMs := s.srv.nowMs + ms }
        (({ s with sec := { s.sec with permit := some p } }).event 0x44 0 serial grants ms).complete c 0 serial 0

/-- PERMIT_REVOKE. -/
def State.permitRevokeOp (s : State) (d : Desc) (c : DescRef) : State :=
  let st := s.secChecks d .permitRevoke
  if st ≠ 0 then s.complete c st 0 0
  else match s.sec.permit with
    | none => s.complete c 1 0 0
    | some p => (s.endPermit 2).complete c 0 p.serial 0

/-- PERMIT_EXPIRY. -/
def State.permitExpire (s : State) : State :=
  match s.sec.permit with
  | none => s
  | some p => if s.srv.nowMs ≥ p.endMs then s.endPermit 1 else s

/-! ### Measurements (R431) -/

/-- SEC_STATUS bits [6:4]: UNMETERED, UNTESTED_TRAIN and UNTESTED_RBK. -/
def State.pairMarks (s : State) : Nat := b2n s.sec.unmetered + 2 * b2n s.sec.untestedTrain + 4 * b2n s.sec.untestedRbk

/-- The 8 bytes of the Rollbook's seal state (R443). -/
def Rollbook.seal (r : Rollbook) : List Byte :=
  leBytes 2 (b2n r.isSealed + 2 * b2n r.calValid + 4 * b2n r.saturated) ++ leBytes 2 r.updates ++ leBytes 2 r.calibrations ++ leBytes 2 r.connects

/-- The digest of an item that may be absent. -/
def digestOf (bs : List Byte) : List Byte := if bs = [] then List.replicate 32 0 else sha256 bs

/-- The SVN of the Caretaker is settled, so an image runs. -/
def State.runningHead (s : State) (h : List Byte) : List Byte := if s.sec.booted then h.take 256 else []

/-- Measurement block `n`. What a Rollbook that does not answer would report is absent, and reads 0. -/
def State.measure (s : State) (n : Nat) : List Byte :=
  match n with
  | 1 => leBytes 32 (Config.freeWord 431 0)
  | 2 => digestOf (s.runningHead s.sec.careHeader)
  | 3 => digestOf (s.runningHead s.sec.trainHeader)
  | 4 => if s.rlink.present then digestOf (s.rbk.header ++ s.rbk.body) else List.replicate 32 0
  | 5 => if s.rlink.present then s.rbk.seal else List.replicate 8 0
  | 6 => digestOf (s.sec.owner.getD [])
  | 7 => leBytes 1 (b2n s.sec.requireMetering + 2 * b2n s.sec.requireTested) ++ leBytes 3 0 ++ leBytes 4 s.sec.configSeq
  | 8 => leBytes 4 (s.counter 0) ++ leBytes 4 (s.counter 1)
  | 9 => leBytes 1 s.sec.train ++ leBytes 1 s.sec.tally ++ leBytes 1 s.pairMarks ++ leBytes 5 0
  | _ => match s.sec.permit with
    | some p => leBytes 4 p.serial ++ leBytes 1 p.grants ++ leBytes 3 0
    | none => List.replicate 8 0

/-! ### The SPDM responders (R430, R482) -/

/-- A transport's responder. -/
def State.responder (s : State) (t : Transport) : Responder := match t with | .doe => s.sec.doe | .mctp _ => s.sec.mctp

/-- Store a responder. -/
def State.setResponder (s : State) (t : Transport) (r : Responder) : State :=
  match t with
  | .doe => { s with sec := { s.sec with doe := r } }
  | .mctp _ => { s with sec := { s.sec with mctp := r } }

/-- Why a request is answered with an ERROR response before it is looked at: Unspecified (0x05) without an identity, Busy (0x03) on the sideband in
Midnight and Dawn (R406, R482). -/
def State.spdmError (s : State) (t : Transport) : Option Nat :=
  let early := s.pwr.state == .midnight || s.pwr.state == .dawn
  if early then (match t with | .mctp _ => some 0x03 | .doe => some 0x05)
  else if s.sec.identity.isNone then some 0x05
  else none

/-- Whether a message on the sideband is the endpoint's to answer: the standby supply feeds it (R473), and its address is 0x60 + SLOT_ADDR (R481). -/
def State.sideband (s : State) (address : BitVec 7) : Bool := s.pwr.standbyOk && decide (address.toNat = 0x60 + s.pwr.slotAddr.val)

/-- Whether a transport reaches the module: the mailbox needs the PCI Express link in L0, before which the module does not answer (R477). -/
def State.reaches (s : State) (t : Transport) : Bool :=
  match t with
  | .mctp a => s.sideband a
  | .doe => !(s.pwr.state == .midnight) && decide (s.hif.linkSpeed ≠ 0)

/-- Answer a request that needs the connection to have come to stage `need`; `f` answers it. Each answer counts in SEC_SPDM_REQUESTS. -/
def State.spdm (s : State) (t : Transport) (need : Nat) (f : Responder → Responder) : State :=
  if !s.reaches t then s
  else
    let r := s.responder t
    let r := match s.spdmError t with
      | some e => { r with reply := .error e }
      | none => if r.stage < need then { r with reply := .error 0x04 } else f r
    (s.setResponder t r).bump Off.secSpdmRequests 1

/-- SPDM_GET_VERSION: version 1.2; the connection starts again. -/
def State.spdmVersion (s : State) (t : Transport) : State := s.spdm t 0 (fun _ => { stage := 1, reply := .version [0x12] })

/-- SPDM_GET_CAPABILITIES: certificates, challenges and signed measurements. -/
def State.spdmCapabilities (s : State) (t : Transport) : State :=
  s.spdm t 1 (fun _ => { stage := 2, reply := .capabilities true true true })

/-- SPDM_NEGOTIATE_ALGORITHMS: an offer without P-256 and SHA-256 is an invalid request (0x01). -/
def State.spdmAlgorithms (s : State) (t : Transport) (p256 sha : Bool) : State :=
  s.spdm t 2 (fun r => if p256 && sha then { stage := 3, reply := .algorithms true true } else { r with reply := .error 0x01 })

/-- The bytes of a DER value at the head of `bs`: its tag, its length and its contents; none where no definite length of at most 3 bytes stands there. -/
def derSize (bs : List Byte) : Option Nat :=
  let n := hfield bs 1 1
  if n < 0x80 then some (2 + n)
  else if n = 0x80 ∨ 0x83 < n then none
  else some (2 + (n - 0x80) + beNat ((bs.drop 2).take (n - 0x80)))

/-- The DER certificates that stand one after another at the head of `bs`: each a SEQUENCE (tag 0x30). -/
def derChain : Nat → List Byte → List (List Byte)
  | 0, _ => []
  | k + 1, bs =>
    if hfield bs 0 1 ≠ 0x30 then []
    else match derSize bs with
      | none => []
      | some n => if bs.length < n then [] else bs.take n :: derChain k (bs.drop n)

/-- The certificate chain of slot 0: the DER certificates that stand in flash after the helper data (R406, R408), in the form SPDM gives a chain: its length, a
reserved field, the hash of the first certificate and the certificates (PRESUMED, log entry 123). -/
def State.certChain (s : State) : List Byte :=
  match derChain 64 (s.flashBytes 0x11000 0xF000) with
  | [] => []
  | c :: cs => leBytes 2 (36 + (c :: cs).flatten.length) ++ leBytes 2 0 ++ sha256 c ++ (c :: cs).flatten

/-- SPDM_GET_DIGESTS. -/
def State.spdmDigests (s : State) (t : Transport) : State := s.spdm t 3 (fun r => { r with reply := .digests (sha256 s.certChain) })

/-- SPDM_GET_CERTIFICATE: only slot 0. -/
def State.spdmCertificate (s : State) (t : Transport) (slot : BitVec 8) (offset length : BitVec 16) : State :=
  s.spdm t 3 (fun r =>
    let ch := s.certChain
    if slot ≠ 0 ∨ offset.toNat ≥ ch.length then { r with reply := .error 0x01 }
    else
      let p := (ch.drop offset.toNat).take length.toNat
      { r with reply := .certificate p (ch.length - offset.toNat - p.length) })

/-- A signature by the identity key: its bytes depend on a nonce of the signer, so they are free (log entry 9). -/
def identitySignature (d n : Nat) (msg : List Byte) : List Byte :=
  leBytes 64 (Config.freeWord 430 (n * 2 ^ 512 + d * 2 ^ 256 + beNat (sha256 msg)))

/-- One more nonce is drawn. -/
def State.drawn (s : State) : State := { s with sec := { s.sec with draws := s.sec.draws + 1 } }

/-- SPDM_CHALLENGE. -/
def State.spdmChallenge (s : State) (t : Transport) (slot : BitVec 8) (nonce : BitVec 256) : State :=
  (s.spdm t 3 (fun r =>
    if slot ≠ 0 then { r with reply := .error 0x01 }
    else
      let h := sha256 s.certChain
      let n := leBytes 32 (Config.freeWord 4300 s.sec.draws)
      { r with reply := .challenge h n (identitySignature (s.sec.identity.getD 0) s.sec.draws (h ++ n ++ leBytes 32 nonce.toNat)) })).drawn

/-- SPDM_GET_MEASUREMENTS: index 0 the number of blocks, 255 all of them. -/
def State.spdmMeasurements (s : State) (t : Transport) (index : BitVec 8) (isSigned : Bool) (slot : BitVec 8) (nonce : BitVec 256) : State :=
  (s.spdm t 3 (fun r =>
    let i := index.toNat
    if isSigned ∧ slot ≠ 0 then { r with reply := .error 0x01 }
    else if i = 0 ∧ !isSigned then { r with reply := .count 10 }
    else if 10 < i ∧ i ≠ 255 then { r with reply := .error 0x01 }
    else
      let ns := if i = 0 then [] else if i = 255 then (List.range 10).map (· + 1) else [i]
      let blocks := ns.map (fun n => (n, s.measure n))
      let msg := (blocks.map (·.2)).flatten ++ leBytes 32 nonce.toNat
      { r with reply := .measurements blocks (if isSigned then identitySignature (s.sec.identity.getD 0) s.sec.draws msg else []) })).drawn

/-- SPDM_UNSUPPORTED: an ERROR response of code UnsupportedRequest. -/
def State.spdmOther (s : State) (t : Transport) : State := s.spdm t 0 (fun r => { r with reply := .error 0x07 })

/-! ### The sideband endpoint (R479, R481-R483) -/

/-- Whether a sensor exists. -/
def sensorKnown (n : Nat) : Bool :=
  decide ((1 ≤ n ∧ n ≤ 5) ∨ (16 ≤ n ∧ n ≤ 47) ∨ (64 ≤ n ∧ n ≤ 66) ∨ n = 80 ∨ n = 81 ∨ n = 96)

/-- Whether a sensor is powered: those of the dies, the stacks and the main input need the main input. -/
def State.sensorPowered (s : State) (n : Nat) : Bool := if n ≤ 65 then !(s.pwr.state == .midnight) && s.pwr.standbyOk else s.pwr.standbyOk

/-- Whether a reading in thousandths is beyond a sensor's warning threshold (R483). -/
def State.beyondWarning (s : State) (n : Nat) (v : Int) : Bool :=
  if n ≤ 5 then decide (v > 1000 * (s.regField Off.pwrThermal 0 8 : Nat))
  else if n ≤ 47 then decide (v > 95000)
  else if n = 64 then decide (v < 40000 ∨ v > 60000)
  else if n = 65 then decide (v > 40000)
  else if n = 66 then decide (v < 3150)
  else if n = 80 then decide (v > 40000)
  else if n = 81 then decide (v > 60000)
  else decide (v > 0)

/-- The thresholds that stand exceeded, and SMBALERT# with them (R479). -/
def State.setBeyond (s : State) (b : Sparse Bool) : State := { s with pwr := { s.pwr with beyond := b, smbalert := decide (b ≠ []) } }

/-- PWR_THERMAL.LIMIT_C has taken a value: the die temperatures as last read lie beyond it or not. -/
def State.senseDies (s : State) : State :=
  s.setBeyond ([1, 2, 3, 4, 5].foldl (fun b n => setMark b n (s.beyondWarning n (Sparse.get (fun _ => 0) s.pwr.sensors n))) s.pwr.beyond)

/-- What a sensor reads: kept, and beyond its warning threshold or not. SMBALERT# is asserted while any sensor reads beyond its threshold or the leak sensor
wet, and a change sends a platform event message (R479, R481). -/
def State.sense (s : State) (n : Nat) (v : Int) : State :=
  let out := s.beyondWarning n v
  let s := { s with pwr := { s.pwr with sensors := Sparse.set (fun _ => 0) s.pwr.sensors n v } }
  if marked s.pwr.beyond n = out then s
  else
    let s := s.setBeyond (setMark s.pwr.beyond n out)
    { s with pwr := { s.pwr with wet := marked s.pwr.beyond 96 }, sec := { s.sec with alert := .platformEvent n v } }

/-- Whether a sensor exists and has power, so that it reads. -/
def State.sensorReads (s : State) (n : Nat) : Bool := sensorKnown n && s.sensorPowered n

/-- PLDM_GET_SENSOR_READING: a sensor whose die is unpowered is unavailable; an unknown one has no record (0x80, invalid sensor ID). -/
def State.pldmReading (s : State) (q : SensorQuery) : State :=
  let n := q.reading.sensor.toNat
  if !s.sideband q.address then s
  else
    let rep : Reply := if !sensorKnown n then .error 0x80 else if s.sensorPowered n then .sensor n q.reading.milli else .sensorUnavailable n
    let s := if s.sensorReads n then s.sense n q.reading.milli else s
    { s with sec := { s.sec with pldm := rep } }

/-- PLDM_BASE_COMMAND: GetTID 0x02, GetPLDMVersion 0x03, GetPLDMTypes 0x04 and GetPLDMCommands 0x05 are answered with data the standard leaves
to the endpoint; other codes with ERROR_UNSUPPORTED_PLDM_CMD (0x05). -/
def State.pldmBase (s : State) (m : SidebandIn) : State :=
  let k := m.code.toNat
  let rep : Reply :=
    if k = 0x04 then .pldmBase 0 [0x05#8, 0, 0, 0, 0, 0, 0, 0]
    else if k = 0x02 ∨ k = 0x03 ∨ k = 0x05 then .pldmBase 0 (leBytes 8 (Config.freeWord 481 k))
    else .pldmBase 5 []
  if !s.sideband m.address then s else { s with sec := { s.sec with pldm := rep } }

/-- MCTP_UNSUPPORTED_TYPE: the unsupported-type completion. -/
def State.mctpOther (s : State) (m : SidebandIn) : State :=
  if !s.sideband m.address then s else { s with sec := { s.sec with pldm := .unsupportedType m.code.toNat } }

/-- SENSOR_THRESHOLD_CHANGE: a sensor with power reads. -/
def State.sensorChange (s : State) (r : Reading) : State :=
  if s.sensorReads r.sensor.toNat then s.sense r.sensor.toNat r.milli else s

end Sys2Proof.Machine
end

