-- ==== Sys2Proof/Machine/Rollbook.lean ====
section
/-! DEFINITION. The Rollbook (15): its audit log (R446), tallies (R437-R440), energy (R441, R442), seal state (R443), mailbox (R444, R445),
firmware and restarts (R447), and what the Caretaker reads of its log (R448). -/

namespace Sys2Proof.Machine

open Sys2Proof

/-- Whether the Rollbook is powered: it runs from the standby supply (R435). -/
def State.rbkOn (s : State) : Bool := s.pwr.standbyOk

/-- Change the Rollbook. -/
def State.modRbk (s : State) (f : Rollbook → Rollbook) : State := { s with rbk := f s.rbk }

/-! ### The audit log (R446) -/

/-- Entries the log holds. -/
def logSize : Nat := 65536

/-- Write a log entry: its DATA values as 32-bit numbers, and the chain hash over the previous one and bytes 0-27. -/
def Rollbook.note (r : Rollbook) (kind : Nat) (vals : List Nat) : Rollbook :=
  let data := ((vals.flatMap (fun v => leBytes 4 v)) ++ List.replicate 12 0).take 12
  let body := leBytes 8 r.logNext ++ leBytes 1 kind ++ leBytes 3 0 ++ leBytes 4 r.runS ++ data
  let chain := sha256 (r.logHead ++ body)
  let log := Sparse.set (fun _ => []) r.log r.logNext (body ++ chain.take 4)
  let log := if logSize ≤ r.logNext then Sparse.set (fun _ => []) log (r.logNext - logSize) [] else log
  { r with log := log, logNext := r.logNext + 1, logHead := chain }

/-- Log entry `n`. -/
def Rollbook.entryAt (r : Rollbook) (n : Nat) : List Byte := Sparse.get (fun _ => []) r.log n

/-- Whether entry `n` is written and not yet overwritten. -/
def Rollbook.held (r : Rollbook) (n : Nat) : Bool := decide (n < r.logNext) && decide (r.logNext ≤ n + logSize)

/-! ### Counts and tallies (R436-R440) -/

/-- The value at which a count stays (R436). -/
def countMax : Nat := 2 ^ 64 - 1

/-- Add to a count of tenant `t`, which stays at its end. -/
def addCount (m : Sparse Nat) (t n : Nat) : Sparse Nat := Sparse.set (fun _ => 0) m t (min countMax (Sparse.get (fun _ => 0) m t + n))

/-- Whether tenant `t`'s count is at its end. -/
def atEnd (m : Sparse Nat) (t : Nat) : Bool := decide (Sparse.get (fun _ => 0) m t = countMax)

/-- Apply a message: its three counts together (R439). -/
def Rollbook.apply (r : Rollbook) (t i o c : Nat) : Rollbook :=
  let r := { r with input := addCount r.input t i, output := addCount r.output t o, cycles := addCount r.cycles t c }
  { r with saturated := r.saturated || atEnd r.input t || atEnd r.output t || atEnd r.cycles t }

/-- The check of R438 that a message fails: 1 CRC, 2 version, 3 reserved bits; 0 none. -/
def Rollbook.tallyCheck (r : Rollbook) (m : List Byte) : Nat :=
  if m.length ≠ 48 ∨ crc32c (m.take 40) ≠ hfield m 40 4 then 1
  else if hfield m 0 1 ≠ r.version then 2
  else if hfield m 1 1 ≥ 2 ∨ hfield m 2 2 ≥ 1024 ∨ hfield m 44 4 ≠ 0 then 3
  else 0

/-- A message that passes: the first matching row of R439. -/
def Rollbook.sequence (r : Rollbook) (m : List Byte) : Rollbook :=
  let seq := hfield m 4 4
  let e := r.expect
  let d := (seq + 2 ^ 32 - e) % 2 ^ 32
  let take := fun (r : Rollbook) =>
    { r.apply (hfield m 2 2) (hfield m 16 8) (hfield m 24 8) (hfield m 32 8) with expect := (seq + 1) % 2 ^ 32 }
  if bit (hfield m 1 1) 0 then
    let r := r.note 0x03 [e]
    let r := { r with series := (r.series + 1) % 2 ^ 32 }
    take (r.note 0x02 [r.series])
  else if d = 0 then take r
  else if d < 2 ^ 31 then
    let r := r.note 0x04 [e, (seq + 2 ^ 32 - 1) % 2 ^ 32]
    take { r with gaps := min countMax (r.gaps + d) }
  else r.note 0x05 [seq]

/-- TALLY_MESSAGE: the oldest message on the link arrives as `m`. -/
def State.tallyMessage (s : State) (m : List Byte) : State :=
  if !s.rbkOn then s
  else
    let s := { s with rlink := { s.rlink with link := s.rlink.link.drop 1 } }
    let c := s.rbk.tallyCheck m
    s.modRbk (fun r => if c ≠ 0 then r.note 0x06 [c] else r.sequence m)

/-! ### Energy (R441, R442) -/

/-- ENERGY_SAMPLE: mV times mA over 0.1 ms, in 10^-7 mJ; nothing without a valid calibration record. -/
def State.energySample (s : State) (mv ma : Nat) : State :=
  if !s.rbkOn ∨ !s.rbk.calValid then s
  else s.modRbk (fun r =>
    let f := r.energyFrac + mv * ma
    let e := min countMax (r.energy + f / 10000000)
    { r with energy := e, energyFrac := f % 10000000, saturated := r.saturated || decide (e = countMax) })

/-- ENERGY_JOURNAL: once a second of the Rollbook's own clock. -/
def State.energyJournal (s : State) : State :=
  if !s.rbkOn then s else s.modRbk (fun r => { r with energyJournal := r.energy, runS := r.runS + 1 })

/-! ### The programming header (R442, R443) -/

/-- HEADER_CONNECT: recorded whether or not the Rollbook is powered. -/
def State.headerConnect (s : State) : State :=
  s.modRbk (fun r =>
    let n := min 65535 (r.connects + 1)
    { r with connects := n, isSealed := false }.note 0x0B [n])

/-- RBK_RESEAL: only with a metrology signature. -/
def State.rbkReseal (s : State) (ok : Bool) : State :=
  if !s.rbkOn ∨ !ok then s else s.modRbk (fun r => { r with isSealed := true }.note 0x0C [r.connects])

/-- RBK_CALIBRATION: only with a metrology signature. -/
def State.rbkCalibrate (s : State) (record : List Byte) (ok : Bool) : State :=
  if !s.rbkOn ∨ !ok then s
  else s.modRbk (fun r =>
    let n := min 65535 (r.calibrations + 1)
    { r with calRecord := record, calValid := true, calibrations := n }.note 0x0A [n])

/-! ### The mailbox (R444, R445) -/

/-- A command completes: its status and response; `here` tells whether the Rollbook answered. -/
def State.answer (s : State) (status : Nat) (resp : List Byte) (here : Bool) : State :=
  { s with rlink := { s.rlink with busy := false, present := here, status := status, resp := resp, latch := [] } }

/-- A write of RBK_CMD while no command runs starts one with the inputs as they stand; an unknown opcode completes at once. -/
def State.rbkStart (s : State) : State :=
  let cmd := s.regN Off.rbkCmd
  let op := field cmd 0 8
  if op < 1 ∨ 4 < op then s.answer 0x10 [] s.rlink.present
  else { s with rlink := { s.rlink with busy := true, latch :=
      [op, field cmd 8 10, field cmd 18 5, s.regN Off.rbkArg, s.regN Off.rbkNonce0, s.regN Off.rbkNonce1] } }

/-- Whether the command in progress has this opcode and the Rollbook can answer it: a command waits for a crossing that realigns (R396). -/
def State.running (s : State) (op : Nat) : Bool := s.rlink.busy && s.rbkOn && !marked s.fab.realign 16 && decide (s.rlink.latch.headD 0 = op)

/-- Input `i` of the command in progress. -/
def State.latched (s : State) (i : Nat) : Nat := s.rlink.latch.getD i 0

/-- The bytes of a report before its signature (R445). -/
def Rollbook.report (r : Rollbook) (t0 n n0 n1 : Nat) : List Byte :=
  leBytes 1 0x0F ++ leBytes 1 n ++ leBytes 2 t0 ++ leBytes 2 r.svn ++ leBytes 2 0 ++ leBytes 8 (Config.freeWord 445 0) ++ leBytes 8 n0 ++ leBytes 8 n1 ++
  leBytes 8 r.reportNo ++ leBytes 8 r.runS ++ leBytes 8 r.energy ++ r.seal ++ leBytes 8 r.logNext ++ r.logHead ++ leBytes 4 r.series ++ leBytes 4 r.expect ++
  leBytes 8 r.gaps ++ leBytes 8 0 ++
  (List.range n).flatMap (fun i =>
    leBytes 8 (Sparse.get (fun _ => 0) r.input (t0 + i)) ++ leBytes 8 (Sparse.get (fun _ => 0) r.output (t0 + i)) ++
    leBytes 8 (Sparse.get (fun _ => 0) r.cycles (t0 + i)) ++ leBytes 2 (t0 + i) ++ leBytes 6 0)

/-- The Rollbook's own private key (R445), made from the secret it got at manufacture. -/
def Rollbook.privateKey (r : Rollbook) : Nat := p256Scalar r.key

/-- The Rollbook's signature over a report (R405, R445), under its own key; the number the signer draws for it is its own, so it is free (log entry 9). -/
def Rollbook.sign (r : Rollbook) (msg : List Byte) : List Byte := ecdsaSign r.privateKey (p256Scalar (Config.freeWord 4450 (beNat (sha256 msg)))) msg

/-- RBK_REPORT. -/
def State.rbkReport (s : State) : State :=
  if !s.running 1 then s
  else
    let t0 := s.latched 1
    let n := s.latched 2
    if n = 0 ∨ 16 < n ∨ 1024 < t0 + n then s.answer 0x11 [] true
    else
      let s := s.modRbk (fun r => { r with reportNo := r.reportNo + 1 })
      let b := s.rbk.report t0 n (s.latched 4) (s.latched 5)
      s.answer 0 (b ++ s.rbk.sign b) true

/-- RBK_READ_LOG. -/
def State.rbkReadLog (s : State) : State :=
  if !s.running 2 then s
  else
    let a := s.latched 3
    if !s.rbk.held a then s.answer 1 [] true
    else s.answer 0 ((List.range (min 16 (s.rbk.logNext - a))).flatMap (fun i => s.rbk.entryAt (a + i))) true

/-- RBK_GET_CERT: the Rollbook's certificate chain is its own, of a length and bytes the spec does not state (log entry 9). -/
def State.rbkGetCert (s : State) : State :=
  if !s.running 3 then s
  else
    let i := s.latched 3
    let len := Config.freeWord 444 0
    if len ≤ 1024 * i then s.answer 0x11 [] true
    else s.answer 0 (leBytes (min 1024 (len - 1024 * i)) (Config.freeWord 444 (i + 1))) true

/-- The response of INFO. -/
def Rollbook.info (r : Rollbook) : List Byte :=
  let t := (ifaceRange r.header 3 1).getD (0, 0)
  leBytes 2 r.svn ++ leBytes 1 t.1 ++ leBytes 1 t.2 ++ leBytes 4 0 ++ r.seal ++
  (List.range 16).flatMap (fun j => if hfield r.header (96 + 8 * j) 1 = 1 then (r.header.drop (96 + 8 * j)).take 8 else [])

/-- RBK_INFO. -/
def State.rbkInfo (s : State) : State := if !s.running 4 then s else s.answer 0 s.rbk.info true

/-- RBK_CMD_TIMEOUT. -/
def State.rbkTimeout (s : State) : State := if !s.rlink.busy then s else s.answer 0x7F [] false

/-! ### Firmware and restarts (R447) -/

/-- A restart with its cause: what is on the links is lost, a mailbox command in flight among it, and the crossing is seen as full until it has realigned (R396). Energy
goes on from the journal, and the `lost` ms of integration since then are logged (R442). -/
def State.rbkRestart (s : State) (cause lost : Nat) : State :=
  let flying := b2n (s.rlink.busy && !decide (s.rlink.latch = []))
  ({ s with rlink := { s.rlink with link := [], latch := [], lost := s.rlink.lost + s.rlink.link.length + flying },
            fab := { s.fab with realign := setMark s.fab.realign 16 true } }).modRbk
    (fun r => ({ r.note 0x01 [cause] with energy := r.energyJournal, energyFrac := 0 }).note 0x07 [lost])

/-- Why the Rollbook refuses an image: 1 signature, 2 below floor, 3 header; 0 when it accepts it. -/
def Rollbook.refuses (r : Rollbook) (img : List Byte) : Nat :=
  let h := img.take 512
  let body := img.drop 512
  if !imageHeadOk h ∨ imageKind h ≠ 3 ∨ body.length ≠ hfield h 4 4 then 3
  else if sha256 body ≠ (h.drop 224).take 32 ∨ !bit (hfield h 256 1) 2 ∨ !ecdsaVerify r.metroKey (h.take 256) ((h.drop 392).take 64) then 1
  else if imageSvn h < r.svn then 2
  else 0

/-- The accepted image, written to the bank that did not run, runs; the bank that ran keeps the old one. -/
def Rollbook.update (r : Rollbook) (img : List Byte) : Rollbook :=
  let h := img.take 512
  { r with svn := imageSvn h, header := h, body := img.drop 512, spare := r.header ++ r.body, updates := min 65535 (r.updates + 1) }.note 0x08 [r.svn, imageSvn h]

/-- Complete the RBK_FW_STAGE that waits. -/
def State.rbkDone (s : State) (status svn : Nat) : State :=
  match s.sec.rbkDesc with
  | none => s
  | some c => { s with sec := { s.sec with rbkDesc := none } }.complete c status svn 0

/-- The accepted image, written to the bank that did not run, does not start, and the old one runs again: refused with reason 3. -/
def Rollbook.fallBack (r : Rollbook) (img : List Byte) : Rollbook := { r with spare := img }.note 0x09 [imageSvn (img.take 512), 3]

/-- RBK_FW_APPLY: the Rollbook verifies the image and restarts into it, or falls back. In Morning metering is settled again (R427). -/
def State.rbkFwApply (s : State) (a : RbkApply) : State :=
  match s.rbk.forwarded with
  | none => s
  | some img =>
    if !s.rbkOn then s
    else
      let svn := imageSvn (img.take 512)
      let why := s.rbk.refuses img
      let s := s.modRbk (fun r => { r with forwarded := none })
      if why ≠ 0 then
        let s := s.modRbk (fun r => r.note 0x09 [svn, why])
        (s.verifyFails (b2n (decide (why = 1)))).rbkDone (if why = 1 then 0x13 else 0x11) 0
      else
        let s := s.modRbk (fun r => if a.starts then r.update img else r.fallBack img)
        let s := (s.rbkRestart 2 a.lostMs).rbkDone 0 svn
        if s.pwr.state = .morning ∧ s.pwr.tested ∧ s.sec.asking = none then s.settleIn (some s.rbk.header) else s

/-- RBK_WATCHDOG: the Rollbook restarts from its journal, which lost the last `lost` ms of integration. -/
def State.rbkWatchdog (s : State) (lost : Nat) : State :=
  if !s.rbkOn then s else s.rbkRestart 1 lost

/-! ### The Caretaker's poll of the log (R448) -/

/-- DATA value `i` of a log entry. -/
def logData (e : List Byte) (i : Nat) : Nat := hfield e (16 + 4 * i) 4

/-- The event of log entry `n`, if its kind has one. -/
def State.logEvent (s : State) (n : Nat) : State :=
  let e := s.rbk.entryAt n
  match hfield e 8 1 with
  | 0x04 => s.event 0x50 0 (logData e 0) ((logData e 1 + 2 ^ 32 - logData e 0) % 2 ^ 32 + 1) 0
  | 0x02 => s.event 0x51 0 (logData e 0) (logData (s.rbk.entryAt (n - 1)) 0) 0
  | 0x08 => s.event 0x53 0 (logData e 1) (logData e 0) 0
  | 0x0B => s.event 0x54 0 (logData e 0) 0 0
  | 0x06 => s.event 0x55 0 (logData e 0) n 0
  | _ => s

/-- RBK_LOG_POLL, once a second: the new entries' events, or RBK_ABSENT once while the Rollbook does not answer. -/
def State.rbkLogPoll (s : State) (answered : Bool) : State :=
  if !s.sec.booted then s
  else if answered && s.rbkOn then
    let first := max s.rlink.seen (s.rbk.logNext - logSize)
    let s := (List.range (s.rbk.logNext - first)).foldl (fun s i => s.logEvent (first + i)) s
    { s with rlink := { s.rlink with seen := s.rbk.logNext, absent := false, present := true } }
  else
    let s' := if s.rlink.absent then s else s.event 0x52 0 0 0 0
    { s' with rlink := { s'.rlink with absent := true, present := false } }

end Sys2Proof.Machine
end

