-- ==== Sys2Proof/Machine/Deliver.lean ====
section
/-! DEFINITION. Descriptors from their fetch to their application: reservation and fetch (R316), delivery in ring order with FENCE (R324), what waits and for
what (R378, R381, R401, R424, R492), and the application of each opcode (R326). -/

namespace Sys2Proof.Machine

open Sys2Proof

/-! ### Fetch (R315-R318) -/

/-- HIF_CTRL.ENABLE. -/
def State.enabled (s : State) : Bool := bit (s.regN Off.hifCtrl) 0

/-- Whether completion ring `q` has room for one reservation; `again` tells whether its consumer index may be read again. -/
def State.complRoom (s : State) (q : Nat) (again : Bool) : Bool × State :=
  if (s.outRing q).room ≥ 1 then (true, s)
  else if !again then (false, s)
  else
    let s := s.readCons q
    (decide ((s.outRing q).room ≥ 1), s)

/-- Fetch the descriptor at ring `r`'s consumer index, whose bytes are given: it takes the next entry of the completion ring. -/
def State.take (s : State) (r : Nat) (bytes : List Byte) (tag opcode : Nat) : State :=
  let x := s.subRing r
  let o := s.outRing x.cq
  let c : DescRef := { ring := r, index := x.cons, tag := tag, opcode := opcode, entry := o.next }
  let s := s.setOut x.cq { o with next := o.next + 1 }
  let s := s.setSub r { x with cons := x.cons + 1, prod := max x.prod (x.cons + 1) }
  ({ s with hif := { s.hif with fetched := s.hif.fetched ++ [Fetched.mk false bytes c] } }).bump Off.hifDescriptors 1

/-- The 64 bytes at ring `r`'s consumer index. -/
def State.descAt (s : State) (r : Nat) : List Byte :=
  let x := s.subRing r
  Memory.readN s.mem.host (x.base + 64 * (x.cons % 2 ^ x.log2)) 64

/-- Ring `r`'s consumer index in the shadow area (R318). -/
def State.putShadow (s : State) (r : Nat) : State := s.hostWrite (s.shadow (8 * r)) (leBytes 8 (s.subRing r).cons)

/-! ### Which fetched descriptor a command is -/

/-- The fetched entry of a descriptor. -/
def State.fetchedAt (s : State) (ring index : Nat) : Option Fetched :=
  s.hif.fetched.find? (fun f => f.desc.ring == ring && f.desc.index == index)

/-- The entry's bytes, when it was read, are those of this command. -/
def fits (f : Fetched) (d : Desc) (op : DescOp) : Bool :=
  f.bytes == [] || readDesc d.ring.toNat d.index.toNat f.bytes == (d, opPlain op)

/-- Whether a command that no poll has fetched can stand for its own fetch: polling runs and the descriptor is the next of a live ring. -/
def State.canTake (s : State) (d : Desc) : Bool :=
  let x := s.subRing d.ring.toNat
  s.enabled && s.canIssue && x.live && !x.error && decide (x.cons = d.index.toNat)

/-- The completion reference of a command's descriptor, fetched now if it was not before; none when it is not a descriptor of this machine now. -/
def State.claim (s : State) (d : Desc) (op : DescOp) : Option DescRef × State :=
  match s.fetchedAt d.ring.toNat d.index.toNat with
  | some f =>
    let waiting := s.hif.stalled.any (fun e => e.1.ring == d.ring && e.1.index == d.index)
    if !f.delivered && !waiting && fits f d op then (some f.desc, s) else (none, s)
  | none =>
    if !s.canTake d then (none, s)
    else
      let (ok, s) := s.complRoom (s.subRing d.ring.toNat).cq true
      if !ok then (none, s)
      else
        let s := (s.take d.ring.toNat [] d.tag.toNat op.opcode).putShadow d.ring.toNat
        ((s.fetchedAt d.ring.toNat d.index.toNat).map (·.desc), s)

/-! ### What waits (R324, R378, R381, R401, R424, R492) -/

/-- Operations the Roster engine applies; the Front Office applies the others (R324). -/
def rosterOp (op : DescOp) : Bool := decide ((0x20 ≤ op.opcode ∧ op.opcode ≤ 0x26) ∨ op.opcode = 0x18)

/-- Operations that Dusk and Night turn away with BUSY (R343). -/
def busyOp : DescOp → Bool
  | .sessionOpen _ => true
  | .turn _ _ => true
  | .resume => true
  | .modelLoad _ _ => true
  | _ => false

/-- Operations that complete at a Roster build (R378). -/
def buildOp : DescOp → Bool
  | .turn _ _ => true
  | .msetInstall _ _ => true
  | .sessionRewind _ => true
  | _ => false

/-- Operations that start units of the tier-move engine, which wait while the memory layout is about to change (R401). -/
def layoutOp : DescOp → Bool
  | .modelLoad _ _ => true
  | .msetInstall _ _ => true
  | .memCopy _ _ => true
  | _ => false

/-- An operation whose turn end can wait for room in its ring (R492). -/
def endOp : DescOp → Bool
  | .abortTurn => true
  | .sessionEnd => true
  | _ => false

/-- Operations that must read host memory, which wait while no request may be issued (R308, R309). -/
def readsOut : DescOp → Bool
  | .ringReset => true
  | .stopsetWrite src _ => reachesHost src.toNat
  | .lessonInstall o _ => reachesHost o.src.toNat
  | .memCopy o _ => reachesHost o.src.toNat && !o.fill
  | .modelLoad o _ => reachesHost o.src.toNat
  | .msetInstall o _ => reachesHost o.src.toNat
  | .turn o _ => reachesHost o.input.toNat
  | .fwStage o _ => reachesHost o.src.toNat
  | .rbkFwStage o _ => reachesHost o.src.toNat
  | .ownerEnroll src _ => reachesHost src.toNat
  | .configWrite src _ => reachesHost src.toNat
  | .permitInstall src _ => reachesHost src.toNat
  | _ => false

/-- The operations performed one at a time, in the order received (R424). -/
def securityOp (op : DescOp) : Bool := decide (0x41 ≤ op.opcode ∧ op.opcode ≤ 0x48)

/-- Whether the module's state turns an operation away, whatever else: with BUSY or NOT_PERMITTED (R343). -/
def State.turnsAway (s : State) (op : DescOp) : Bool :=
  (s.duskBusy && busyOp op) || (s.pwr.state == .twilight && !ringOnly op && !decide (0x40 ≤ op.opcode))

/-- Whether the module's state makes an operation wait; `build` tells that a Roster is being built. The Roster engine applies its operations at a build (R252),
in Morning those that do not complete at one as they come (R378). -/
def State.stateWaits (s : State) (build : Bool) (op : DescOp) : Bool :=
  (!s.canIssue && readsOut op && !s.turnsAway op) || (!build && rosterOp op && (s.pwr.state == .day || s.pwr.state == .dusk)) ||
  (s.pwr.state == .night && !ringOnly op && !busyOp op) || (s.pwr.state == .morning && buildOp op) || (s.memCommitPending && layoutOp op && !s.turnsAway op) ||
  (s.sec.rbkDesc.isSome && securityOp op)

/-- Whether an operation's turn end has found no room (R492). -/
def State.endHeld (s : State) (e : Desc × DescOp) : Bool :=
  endOp e.2 && match s.findSess e.1.handle.toNat with | some k => marked s.srv.endWaits k | none => false

/-- Whether an earlier descriptor of the ring makes this one wait. In Night what completes there passes those that are kept for Day, but no FENCE (R324, R381). -/
def State.orderWaits (s : State) (d : Desc) (op : DescOp) : Bool :=
  let r := d.ring.toNat
  let earlier := s.hif.fetched.filter (fun f => f.desc.ring == r && decide (f.desc.index < d.index.toNat))
  let before := s.hif.stalled.filter (fun e => e.1.ring == d.ring && decide (e.1.index.toNat < d.index.toNat))
  let inStalled := fun (f : Fetched) => before.any (fun e => e.1.index.toNat == f.desc.index)
  let open' := fun (e : Desc × DescOp) => s.hif.fetched.any (fun f => f.desc.ring == r && decide (f.desc.index < e.1.index.toNat))
  let passes := s.pwr.state == .night && (ringOnly op || busyOp op)
  earlier.any (fun f => !f.delivered && !inStalled f) ||
  (d.fence && !earlier.isEmpty) ||
  before.any (fun e => (e.1.fence && open' e) || (!passes && ((rosterOp e.2 == rosterOp op) || s.endHeld e)))

/-- Whether a security operation that the Front Office has received before this one still waits (R424): one that its own ring does not hold back any more. -/
def State.securityWaits (s : State) (d : Desc) (op : DescOp) : Bool :=
  securityOp op && (s.hif.stalled.takeWhile (fun e => !(e.1 == d))).any (fun e => securityOp e.2 && !s.orderWaits e.1 e.2)

/-! ### The opcodes (R326) -/

/-- NOP. -/
def State.nopOp (s : State) (d : Desc) (c : DescRef) : State := s.complete c (s.plainChecks d .nop false false) 0 0

/-- An undefined opcode completes with BAD_OPCODE (R15, R326). -/
def State.undefinedOp (s : State) (c : DescRef) : State := s.complete c 0x10 0 0

/-- Apply an operation: false when its turn end waits for room. -/
def State.applyOp (s : State) (d : Desc) (op : DescOp) (c : DescRef) : Bool × State :=
  match op with
  | .nop => (true, s.nopOp d c)
  | .ringCreate o => (true, s.ringCreateOp d o c)
  | .ringDestroy kind => (true, s.ringDestroyOp d kind c)
  | .ringReset => (true, s.ringResetOp d c)
  | .hostWindow o => (true, s.hostWindowOp d o c)
  | .tenantQuota o => (true, s.tenantQuotaOp d o c)
  | .tenantRules weight => (true, s.tenantRulesOp d weight c)
  | .stopsetWrite src x => (true, s.stopsetWriteOp d src x c)
  | .lessonInstall o x => (true, s.lessonInstallOp d o x c)
  | .lessonRemove wings => (true, s.lessonRemoveOp d wings c)
  | .memClass o => (true, s.memClassOp d o c)
  | .kvPool o => (true, s.kvPoolOp d o c)
  | .memCopy o x => (true, s.memCopyOp d o x c)
  | .modelLoad o x => (true, s.modelLoadOp d o x c)
  | .modelUnload => (true, s.modelUnloadOp d c)
  | .modelGolden g g2 => (true, s.modelGoldenOp d g g2 c)
  | .modelQuery dst x => (true, s.modelQueryOp d dst x c)
  | .msetInstall o x => (true, s.msetInstallOp d o x c)
  | .msetRemove set => (true, s.msetRemoveOp d set c)
  | .msetQuery dst x => (true, s.msetQueryOp d dst x c)
  | .sessionOpen o => (true, s.sessionOpenOp d o c)
  | .turn o x => (true, s.turnOp d o x c)
  | .abortTurn => s.abortTurnOp d c
  | .pause o => (true, s.pauseOp d o c)
  | .resume => (true, s.resumeOp d c)
  | .sessionEnd => s.sessionEndOp d c
  | .sessionRewind count => (true, s.rewindOp d count c)
  | .sessionQuery dst x => (true, s.sessionQueryOp d dst x c)
  | .undefined _ => (true, s.undefinedOp c)
  | .fwQuery dst x => (true, s.fwQueryOp d dst x c)
  | .fwStage o x => (true, s.fwStageOp d o x c)
  | .fwActivate bank => (true, s.fwActivateOp d bank c)
  | .fwCommit kind => (true, s.fwCommitOp d kind c)
  | .rbkFwStage o x => (true, s.rbkFwStageOp d o x c)
  | .ownerEnroll src x => (true, s.ownerEnrollOp d src x c)
  | .configWrite src x => (true, s.configWriteOp d src x c)
  | .permitInstall src x => (true, s.permitInstallOp d src x c)
  | .permitRevoke => (true, s.permitRevokeOp d c)

/-- Mark a descriptor as delivered. -/
def State.markDelivered (s : State) (c : DescRef) : State :=
  { s with hif := { s.hif with fetched := s.hif.fetched.map (fun f => if f.desc.ring = c.ring ∧ f.desc.index = c.index then { f with delivered := true } else f) } }

/-- Offer a descriptor: true when it has been applied. -/
def State.tryOp (s : State) (build : Bool) (d : Desc) (op : DescOp) (c : DescRef) : Bool × State :=
  if s.stateWaits build op || s.orderWaits d op || s.securityWaits d op then (false, s) else (s.markDelivered c).applyOp d op c

/-- A descriptor waits no longer. -/
def State.unstall (s : State) (e : Desc × DescOp) : State := { s with hif := { s.hif with stalled := s.hif.stalled.erase e } }

/-- Offer a waiting descriptor again. -/
def State.retry (build : Bool) (s : State) (e : Desc × DescOp) : State :=
  match s.fetchedAt e.1.ring.toNat e.1.index.toNat with
  | none => s.unstall e
  | some f =>
    let (ok, s) := s.tryOp build e.1 e.2 f.desc
    if ok then s.unstall e else s

/-- Offer every waiting descriptor, oldest first, as often as one may free another. -/
def State.pumpN (build : Bool) : Nat → State → State
  | 0, s => s
  | n + 1, s => State.pumpN build n (s.hif.stalled.foldl (State.retry build) s)

/-- Offer the waiting descriptors. -/
def State.pump (s : State) : State := State.pumpN false s.hif.stalled.length s

/-- Offer the waiting descriptors at a Roster build, those of the Roster engine too. -/
def State.pumpBuild (s : State) : State := State.pumpN true s.hif.stalled.length s

/-- Deliver a command's descriptor: it is applied or waits. In Midnight and Dawn no descriptor is taken. -/
def State.deliverOp (s : State) (d : Desc) (op : DescOp) : State :=
  if s.pwr.state = .midnight ∨ s.pwr.state = .dawn then s
  else
    let (c, s) := s.claim d op
    match c with
    | none => s
    | some c =>
      let (ok, s) := s.tryOp false d op c
      if ok then s.pump else { s with hif := { s.hif with stalled := s.hif.stalled ++ [(d, op)] } }

/-! ### ROSTER_BUILD (R252-R264) -/

/-- The Dusk timeout ends every ACTIVE turn with ABORTED: those in the step in flight when it ends, the others now or when their ring has room. The event
names their number (R252, R380). -/
def State.duskEnds (s : State) : State :=
  if s.pwr.endAll then
    let n := s.activeSessions.length
    ((({ s with pwr := { s.pwr with endAll := false } }).endPinned (fun _ => true) 0x40)).event 0x34 0 n 0 0
  else s

/-- The start of a build: damaged sessions end, and so do the turns whose end waited. -/
def State.rosterReady (s : State) : State :=
  ({ s.startBurst with srv := { s.srv with reread := [] } }).loseBadSessions.loseBadHeads.settleWaiting

/-- The build after the Roster engine's operations: a Dusk timeout ends the turns, the next Roster is built, and what waits otherwise is offered again. -/
def State.rosterRest (s : State) (x : Ext) : State := ((s.duskEnds.buildRoster x).pump).endBursts

/-- ROSTER_BUILD: the engine's operations are applied and the next Roster is built. -/
def State.rosterBuild (s : State) (x : Ext) : State :=
  if !s.canBuild then s else s.rosterReady.pumpBuild.rosterRest x

end Sys2Proof.Machine
end

