-- ==== Sys2Proof/Machine/HostIf.lean ====
section
/-! DEFINITION. The host interface's own steps: the poll of the Hall Monitor (R315-R319), message moderation (R337), the heartbeat (R342), the setting of
HIF_CTRL.ENABLE (R491), Bus Master Enable and the power states of the function (R308, R309). -/

namespace Sys2Proof.Machine

open Sys2Proof

/-! ### HM_POLL (R315-R318) -/

/-- Put a submission ring in ERROR (R317). -/
def State.ringError (s : State) (r status detail : Nat) : State :=
  ((s.setSub r { s.subRing r with error := true }).bump Off.hifRingErrors 1).event 0x0A status r detail 0

/-- The submission rings there are, in ascending number; ring 0 always is. -/
def State.subRings (s : State) : List Nat :=
  0 :: (s.hif.subs.filter (fun e => e.2.live && decide (e.1 ≠ 0))).map (·.1)

/-- Read a ring's producer index (R317). -/
def State.readProd (s : State) (r : Nat) : State :=
  let x := s.subRing r
  if x.error then s
  else
    let p := Memory.readLE s.mem.host (s.doorbell (0x1000 + 8 * r)) 8
    let s := s.setSub r { x with prod := p }
    if p < x.cons ∨ p - x.cons > 2 ^ x.log2 then s.ringError r 0x11 p else s

/-- Step 2 of a poll for summary counter `g`. -/
def State.pollGroup (s : State) (p : PollIn) (g : Nat) : State :=
  let v := Memory.readLE s.mem.host (s.doorbell (8 * g)) 8
  if v = Sparse.get (fun _ => 0) s.hif.summary g then s
  else if p.failGroups.contains g then s.bump Off.hmPollErrors 1
  else
    let s := { s with hif := { s.hif with summary := Sparse.set (fun _ => 0) s.hif.summary g v } }
    (s.subRings.filter (fun r => decide (r / 64 = g))).foldl (fun s r => s.readProd r) s

/-- Fetch up to `n` descriptors of ring `r`: how many, the completion rings whose consumer index this poll has read again, and the state. -/
def State.fetchRing (r : Nat) : Nat → State → List Nat → Nat × List Nat × State
  | 0, s, again => (0, again, s)
  | n + 1, s, again =>
    let x := s.subRing r
    if x.error ∨ x.prod ≤ x.cons then (0, again, s)
    else
      let short := decide ((s.outRing x.cq).room < 1)
      let (ok, s) := s.complRoom x.cq (!again.contains x.cq)
      let again := if short then x.cq :: again else again
      if !ok then (0, again, s)
      else
        let bs := s.descAt r
        let (m, again, s) := State.fetchRing r n (s.take r bs (hfield bs 8 8) (hfield bs 0 1)) again
        (m + 1, again, s)

/-- Step 3 of a poll for ring `r`: its descriptors, then its consumer index in the shadow area. The first ring fetched from is kept. -/
def State.pollRing (s : State) (p : PollIn) (r : Nat) (first : Option Nat) (again : List Nat) : Option Nat × List Nat × State :=
  let x := s.subRing r
  if x.error ∨ x.prod ≤ x.cons then (first, again, s)
  else if p.failRings.contains r then (some (first.getD r), again, s.ringError r 0x30 x.cons)
  else
    let (n, again, s) := State.fetchRing r (s.regField Off.hmPoll 12 7) s again
    if n = 0 then (first, again, s) else (some (first.getD r), again, s.putShadow r)

/-- Step 3 of a poll: ascending from one above the ring that began the last one, wrapping. -/
def State.pollRings (s : State) (p : PollIn) : State :=
  let rs := s.subRings
  let order := rs.filter (fun r => decide (s.hif.firstRing < r)) ++ rs.filter (fun r => decide (r ≤ s.hif.firstRing))
  let (first, _, s) := order.foldl (fun (a : Option Nat × List Nat × State) r => a.2.2.pollRing p r a.1 a.2.1) (none, [], s)
  { s with hif := { s.hif with firstRing := first.getD s.hif.firstRing } }

/-- Write what the event ring holds back, as it has room (R340, R491). -/
def State.flushEvents (s : State) : State :=
  if s.hif.evReady && !s.hif.d3 then
    let s := State.putHeld 64 s
    if s.hif.heldEvents.isEmpty then s.putLost else s
  else s

/-- HM_POLL: the host's bytes are in memory, and the link is as wide, whether or not the module polls. -/
def State.hmPoll (s : State) (p : PollIn) : State :=
  let s := { s with mem := { s.mem with host := p.host.foldl (fun m c => Memory.write m c.1 c.2) s.mem.host }, hif := { s.hif with l0p := p.l0p } }
  if !(s.enabled && s.canIssue) then s
  else
    let s := s.bump Off.hmPolls 1
    let s := if p.failSummary then s.bump Off.hmPollErrors 1 else (List.range 16).foldl (fun s g => s.pollGroup p g) s
    let s := (s.pollRings p).flushEvents
    (if s.pwr.state = .twilight then ({ s with srv := { s.srv with reread := [] } }).settleWaiting else s).pump

/-! ### MSI-X (R337) -/

/-- Whether the function answers on PCI Express: its dies are powered. -/
def State.hasFunction (s : State) : Bool := !(s.pwr.state == .midnight)

/-- What a read from the bus returned. -/
def State.reply (s : State) (bs : List Byte) (poisoned : Bool) : State := { s with bus := { data := bs, poisoned := poisoned, unsupported := false } }

/-- An access that completes as Unsupported Request (R309). -/
def State.unsupported (s : State) : State := { s with bus := { data := [], poisoned := false, unsupported := true } }

/-- Send the message of ring `q` when its time has come. -/
def State.moderate (s : State) (q : Nat) : State :=
  let r := s.outRing q
  if r.live ∧ r.due s.hif.ticks then (s.setOut q { r with pending := 0, since := none }).msixSend r.vector else s

/-- MSIX_MODERATION_CHECK, every 0.5 µs. -/
def State.moderationCheck (s : State) : State :=
  let s := { s with hif := { s.hif with ticks := s.hif.ticks + 1 } }
  let qs := s.hif.outs.map (·.1)
  qs.foldl (fun s q => s.moderate q) s

/-- A vector's mask bit is cleared: the message that its pending bit holds is sent. -/
def State.unmask (s : State) (v : Nat) : State :=
  let held := marked s.hif.msixPend v
  let s := { s with hif := { s.hif with msixOpen := setMark s.hif.msixOpen v true, msixPend := setMark s.hif.msixPend v false } }
  if !held then s
  else if s.canIssue then { s with hif := { s.hif with sent := v :: s.hif.sent } }
  else { s with hif := { s.hif with waitReqs := s.hif.waitReqs ++ [.msix v] } }

/-- Bytes of BAR4's MSI-X table, and where its pending-bit array stands and ends (R304). -/
def msixTable : Nat := 0x8000
/-- The end of the pending-bit array. -/
def msixEnd : Nat := 0x8100

/-- Byte `a` of BAR4: the table, whose byte 12 of an entry shows the mask in bit 0, and the pending bits; the rest reads 0. -/
def State.bar4Byte (s : State) (a : Nat) : Byte :=
  if a < msixTable then
    let b := (Memory.readLE s.hif.msix a 1)
    BitVec.ofNat 8 (if a % 16 = 12 then b / 2 * 2 + b2n (!marked s.hif.msixOpen (a / 16)) else b)
  else if a < msixEnd then BitVec.ofNat 8 ((List.range 8).map (fun i => b2n (marked s.hif.msixPend (8 * (a - msixTable) + i)) * 2 ^ i)).sum
  else 0

/-- A byte is written to BAR4: only the table holds it, and a mask bit that falls lets its vector's message go. -/
def State.bar4Put (s : State) (a : Nat) (b : Byte) : State :=
  if msixTable ≤ a then s
  else
    let s := { s with hif := { s.hif with msix := Memory.write s.hif.msix a b } }
    if a % 16 ≠ 12 then s
    else if b.getLsbD 0 then { s with hif := { s.hif with msixOpen := setMark s.hif.msixOpen (a / 16) false } }
    else s.unmask (a / 16)

/-- MSIX_VECTOR_UNMASK and every other access to BAR4 (R304, R309). -/
def State.bar4 (s : State) (a : Bar4In) : State :=
  if !s.hasFunction then s
  else if s.hif.d3 then s.unsupported
  else match a with
    | .read off n => s.reply ((List.range n).map (fun i => s.bar4Byte (off.toNat + i))) false
    | .write off bs => bs.zipIdx.foldl (fun s e => s.bar4Put (off.toNat + e.2) e.1) s

/-! ### Bus Master Enable and D3hot (R308, R309) -/

/-- Issue a request that waited; a message whose vector has been masked meanwhile sets its pending bit (R337). -/
def State.issueReq (s : State) (r : HostReq) : State :=
  match r with
  | .write a bs => { s with mem := { s.mem with host := Memory.writeN s.mem.host a bs } }
  | .msix v =>
    if marked s.hif.msixOpen v then { s with hif := { s.hif with sent := v :: s.hif.sent } }
    else { s with hif := { s.hif with msixPend := setMark s.hif.msixPend v true } }
  | .event a e phase => { s with mem := { s.mem with host := Memory.writeN s.mem.host a (eventBytes e s.srv.nowMs phase) } }

/-- Tallies that waited go, oldest first, when requests are allowed and the Rollbook's crossing has realigned (R308, R396). -/
def State.releaseTallies (s : State) : State :=
  let n := s.rlink.waiting.length
  if n = 0 ∨ !s.canIssue ∨ marked s.fab.realign 16 then s
  else ({ s with rlink := { s.rlink with link := s.rlink.link ++ s.rlink.waiting, waiting := [] } }).bump Off.rbkTallySent n

/-- Issue everything that waited, oldest first, when requests are allowed. -/
def State.release (s : State) : State :=
  if !s.canIssue then s
  else
    let s := s.hif.waitReqs.foldl State.issueReq { s with hif := { s.hif with waitReqs := [] } }
    s.releaseTallies.flushEvents

/-- BUS_MASTER_ENABLE_CHANGE. -/
def State.setBme (s : State) (on : Bool) : State :=
  if !s.hasFunction then s else ({ s with hif := { s.hif with bme := on } }).release

/-- D3HOT_ENTRY: nothing is reset. -/
def State.enterD3 (s : State) : State := if !s.hasFunction then s else { s with hif := { s.hif with d3 := true } }

/-- D0_ENTRY. -/
def State.enterD0 (s : State) : State := if !s.hasFunction then s else ({ s with hif := { s.hif with d3 := false } }).release

/-! ### HIF_CTRL.ENABLE and the heartbeat (R342, R491) -/

/-- The attributes of the event or telemetry ring from its register (R337, R345). -/
def State.deviceRing (s : State) (o : Nat) : OutRing :=
  { OutRing.absent with live := true, priv := true, base := s.regField o 12 36 * 4096, log2 := s.regField o 48 5, vector := s.regField o 53 11,
                        modCount := 1, pasidEn := bit (s.regN Off.hifCtrl) 1, pasid := s.regField Off.hifCtrl 2 20 }

/-- ENABLE becomes 1: the first time since the full reset the event ring is the one HIF_EVENT names, and the held records are written. The telemetry ring
takes its attributes and keeps its indices, and so do the areas and rings 0 (R345). -/
def State.hifEnable (s : State) : State :=
  let s := s.setReg Off.hifCtrl (s.reg Off.hifCtrl ||| 1#64)
  let now := [Off.hifDoorbellBase, Off.hifShadowBase, Off.hifRing0, Off.hifCq0].foldl (fun m o => Sparse.set regReset m o (s.reg o)) ([] : Sparse Reg)
  let t := s.deviceRing Off.hifTelemetry
  let s := { s with hif := { s.hif with tel := { t with prod := s.hif.tel.prod, next := s.hif.tel.next, cons := s.hif.tel.cons }, latched := now } }
  let s := if s.hif.evReady then s else { s with hif := { s.hif with evReady := true, ev := s.deviceRing Off.hifEvent } }
  s.flushEvents

/-- HIF_ENABLE. -/
def State.hifEnableCmd (s : State) : State := if !s.hasFunction ∨ s.enabled then s else s.hifEnable

/-- Whether a Caretaker runs in a state that writes heartbeats; no request is issued before ENABLE was first set after the full reset (R344). -/
def State.beats (s : State) : Bool :=
  s.hif.evReady && s.sec.booted && decide (s.sec.bank ≠ 3) &&
  !(s.pwr.state == .midnight || s.pwr.state == .dawn) && decide (s.regField Off.hifHeartbeat 3 45 ≠ 0) && s.canIssue

/-- HEARTBEAT_WRITE. -/
def State.heartbeat (s : State) : State :=
  if !s.beats then s
  else
    let n := (s.hif.beats + 1) % 2 ^ 32
    ({ s with hif := { s.hif with beats := n } }).hostWrite (8 * s.regField Off.hifHeartbeat 3 45) (leBytes 8 (n + s.pwr.state.code * 2 ^ 32))

end Sys2Proof.Machine
end

