-- ==== Sys2Proof/Machine/Memories.lean ====
section
/-! DEFINITION. The memories as the bus, the scrubbers and the budget window see them: BAR2 (R176, R184, R305), the Library scrubber (R184, R185), the HBM
scrubber (R201), and the class budgets of a stack (R205). -/

namespace Sys2Proof.Machine

open Sys2Proof

/-! ### BAR2 -/

/-- Whether BAR2 serves an access (R305): 1-8 bytes within one aligned 8-byte word, or 16-64 bytes aligned to the largest power of two that divides their
number (log entry 97). -/
def bar2Ok (off n : Nat) : Bool :=
  (decide (1 ≤ n ∧ n ≤ 8) && decide (off % 8 + n ≤ 8)) || (decide (16 ≤ n ∧ n ≤ 64) && decide (off % Nat.gcd n 64 = 0))

/-- The Wing that a BAR2 offset reaches (R176). -/
def bar2Wing (off : BitVec 32) : Wing := ⟨off.toNat / 2 ^ 30, by have := off.isLt; omega⟩

/-- BAR2_READ: beyond scratch it returns 0, and an uncorrectable sector poisons the completion (R184). -/
def State.bar2Read (s : State) (off : BitVec 32) (n : Nat) : State :=
  if !s.hasFunction then s
  else if s.hif.d3 then s.unsupported
  else if !bar2Ok off.toNat n then s.reply (List.replicate n 0xFF#8) false
  else
    let w := bar2Wing off
    let o := off.toNat % 2 ^ 30
    if s.scratchEnd w < o + n then s.reply (List.replicate n 0) false
    else
      let (bs, bad, s) := s.libReadFo w o n
      s.reply bs bad

/-- BAR2_WRITE: beyond scratch it is ignored. -/
def State.bar2Write (s : State) (off : BitVec 32) (bs : List Byte) : State :=
  if !s.hasFunction then s
  else if s.hif.d3 then s.unsupported
  else
    let w := bar2Wing off
    let o := off.toNat % 2 ^ 30
    if !bar2Ok off.toNat bs.length || decide (s.scratchEnd w < o + bs.length) then s.reply [] false else (s.libWriteFo w o bs).reply [] false

/-! ### The Library scrubber (R184, R185) -/

/-- The scrubber's read of a scratch sector at Library offset `o`. -/
def State.scrubScratch (s : State) (w : Wing) (o : Nat) : State :=
  let x := libKey w o / 32
  let bad := marked s.mem.libBad x
  let cor := marked s.mem.libCorr x && !bad
  let s := s.noteLib w o 32
  if bad then s.event 0x06 0 w.val (libAddr w.val o) 0
  else if cor then { s with mem := { s.mem with libCorr := setMark s.mem.libCorr x false } }
  else s

/-- The scrubber's read of a sector of the cache part: only a valid sector of a line holds data. -/
def State.scrubCache (s : State) (w : Wing) (o : Nat) : State :=
  let rel := (o - s.scratchEnd w) / 32
  let x := rel / 512
  let i := rel % 512 / 32
  let j := rel % 32
  let k := libKey w o / 32
  match Sparse.get (fun _ => none) (s.cacheSet w x).ways i with
  | none => s
  | some l =>
    if !bit l.valid.toNat j then s
    else if marked s.mem.libBad k then s.cacheRefetch w x i j
    else if marked s.mem.libCorr k then { s.bump (Off.libCorrected w) 1 with mem := { s.mem with libCorr := setMark s.mem.libCorr k false } }
    else s

/-- LIB_SCRUB_READ: the next sector of every bank of the Wing, from sector 0 after reset upward and round again (R185 names no order: DESIGN CHOICE, log entry 132). -/
def State.libScrub (s : State) (w : Wing) : State :=
  if !bit (s.regN (Off.libScrub w)) 0 ∨ !s.hasFunction then s
  else
    let n := Sparse.get (fun _ => 0) s.mem.libScrub w.val
    let s := (List.range 256).foldl (fun s b =>
      let o := 32 * (256 * n + b)
      if o < s.scratchEnd w then s.scrubScratch w o else s.scrubCache w o) s
    { s with mem := { s.mem with libScrub := Sparse.set (fun _ => 0) s.mem.libScrub w.val ((n + 1) % 131072) } }

/-! ### The HBM scrubber and the budget window (R201, R205) -/

/-- The sector number of sector `n` of a stack's pseudo-channel (R193, R194). -/
def State.scrubSector (s : State) (k : Fin 32) (pc n : Nat) : Nat :=
  let y := 512 * n + 64 * (k.val % 8) + pc
  let pw := k.val / 8
  let inter := bit (s.regN Off.memInterleave) (32 * y / 2 ^ 35 % 16)
  let w := if inter then (pw + 4 - 32 * y % 2 ^ 35 / 4096 % 4) % 4 else pw
  w * 2 ^ 34 + y

/-- HBM_SCRUB_READ: a corrected sector is rewritten, an uncorrectable one reported and left as stored. -/
def State.hbmScrub (s : State) (k : Fin 32) (pc : Nat) : State :=
  let t := s.stack k
  if !bit (s.regN (Off.memScrub k)) 0 ∨ !t.trained ∨ t.selfRefresh ∨ !s.clocked then s
  else
    let n := Sparse.get (fun _ => 0) t.scrub pc
    let x := s.scrubSector k pc n
    let (bad, s) := s.readSector 2 x
    let s := s.modStack k (fun t => { t with scrub := Sparse.set (fun _ => 0) t.scrub pc ((n + 1) % 2 ^ 25), scrubAge := 0 })
    if bad then s.event 0x06 0 (0x100 + k.val) (32 * x) 0
    else { s with mem := { s.mem with hbmCorr := setMark s.mem.hbmCorr x false } }

/-- The T1 bytes of the next unit of the request in progress: a page to demote, or where one is promoted to. -/
def State.unitRange (s : State) : Nat × Nat :=
  match s.mem.moves with
  | r :: _ => if r.started then (if r.resume then (r.dests.headD 0, (s.page (r.units.headD 0)).size) else ((s.page (r.units.headD 0)).addr, (s.page (r.units.headD 0)).size)) else (0, 0)
  | [] => (0, 0)

/-- The T1 bytes of the chunk to repair next. -/
def State.repairRange (s : State) : Nat × Nat :=
  match s.nextRepair with
  | some (r, c) => (match s.repairOf r with
    | some (i, base, _, _) => (match i.piece c with | some p => (base + p.2.1, p.2.2.1) | none => (0, 0))
    | none => (0, 0))
  | none => (0, 0)

/-- Whether the scrub reads of a stack are due in the window that ends: one interval of 2^LOG2 cycles has passed since the last (R201). -/
def State.scrubDue (s : State) (k : Fin 32) : Bool :=
  bit (s.regN (Off.memScrub k)) 0 && (s.stack k).trained && decide (16 * ((s.stack k).scrubAge + 1) ≥ 2 ^ s.regField (Off.memScrub k) 1 4)

/-- Whether accesses of class 2 wait at stack `k`: of a tier move, a repair, a copy, a change of protection class, a MOV_COPY of CLASS 0b10, or the scrubber (R204). -/
def State.class2Waits (s : State) (k : Fin 32) : Bool :=
  (s.stacksOf s.unitRange.1 s.unitRange.2).contains k.val ||
  (s.stacksOf s.repairRange.1 s.repairRange.2).contains k.val ||
  s.mem.copies.any (fun c => c.waitsAt.contains k.val) ||
  s.mem.classes.any (fun c => (s.stacksOf (c.first * 2 ^ 21) (c.count * 2 ^ 21)).contains k.val) ||
  (List.finRange 32).any (fun r => ((s.room r).mov0 ++ (s.room r).mov1).any (fun t =>
    decide (t.cls = 2) && t.segs.any (fun g => decide (g.dev < hbmSize) && (s.stacksOf g.dev g.len).contains k.val))) ||
  s.scrubDue k

/-- MEM_BUDGET_WINDOW: a window of 16 always-on cycles ends, and with it those that ended within commands since the last one: each in which class 2 issued nothing while its
accesses wait counts (R205, log entry 89). -/
def State.budgetWindow (s : State) (k : Fin 32) : State :=
  let n := (s.stack k).ended + b2n (decide ((s.stack k).issued2 = 0))
  let s := if n > 0 && s.class2Waits k then s.bump (Off.memMoveStarved k) n else s
  (s.nextWindow k).modStack k (fun t => { t with scrubAge := t.scrubAge + 1, ended := 0 })

end Sys2Proof.Machine
end

