-- ==== Sys2Proof/Machine/Power.lean ====
section
/-! DEFINITION. Supplies, resets and module states (R344, R376-R386, R398, R399, R473-R477), the power controller (R391, R392), droop (R390) and the crossings
(R396, R397). -/

namespace Sys2Proof.Machine

open Sys2Proof

/-! ### Resets (R344, R384, R398, R399) -/

/-- The sensors that the standby supply powers: in Midnight the others are unavailable, so that none of them reads beyond a threshold (R482, R483). -/
def standbySensors {α : Type} (m : ModState) (l : Sparse α) : Sparse α := if m = .midnight then l.filter (fun e => decide (65 < e.1)) else l

/-- Everything a full reset resets: what is left are the commands that wait, memory outside the module, the flash and its counters, the always-on domain and
the Rollbook. A record of the transition may follow. -/
def State.wipe (s : State) (m : ModState) (cause : Nat) : State :=
  ({ State.reset with
    pending := s.pending
    mem := { MemSys.reset with host := s.mem.host, peer := s.mem.peer }
    hif := HostIf.reset
    sec := { Security.reset with flash := s.sec.flash, counters := s.sec.counters, romHash := s.sec.romHash, draws := s.sec.draws }
    pwr := { Power.reset with state := m, cause := cause, mainOk := s.pwr.mainOk, standbyOk := s.pwr.standbyOk, perst := s.pwr.perst,
                              thermtrip := s.pwr.thermtrip, slotAddr := s.pwr.slotAddr, leadMs := s.pwr.leadMs,
                              sensors := standbySensors m s.pwr.sensors, wet := s.pwr.wet, beyond := standbySensors m s.pwr.beyond }
    rbk := s.rbk
    rlink := { RbkLink.reset with seen := s.rbk.logNext } }).senseDies

/-- Code of a reset source in PWR_RESET_CAUSE. -/
def resetCause : ResetSource → Nat
  | .perst => 1
  | .hotReset => 2
  | .linkDown => 3

/-- FULL_RESET: in Midnight only the level of PERST# is noted. -/
def State.fullReset (s : State) (r : ResetSource) : State :=
  let s := if r = .perst then { s with pwr := { s.pwr with perst := true } } else s
  if s.pwr.state = .midnight then s else (s.wipe s.pwr.state (resetCause r)).enter .dawn 1

/-- Leave Midnight when both supplies are within range, the standby supply for 10 ms (R475), and PERST# is deasserted: a Dawn that begins as a full reset does (R377, R384, R479). -/
def State.leaveMidnight (s : State) : State :=
  if s.pwr.state = .midnight ∧ s.pwr.mainOk ∧ s.pwr.standbyOk ∧ 10 ≤ s.pwr.leadMs ∧ !s.pwr.perst then
    ({ s.wipe .midnight s.pwr.cause with pwr := { (s.wipe .midnight s.pwr.cause).pwr with thermtrip := false } }).enter .dawn 0
  else s

/-- Enter Midnight: every die loses its contents (R384). The record of the transition is lost with them. -/
def State.toMidnight (s : State) (cause : Nat) : State := if s.pwr.state = .midnight then s else s.wipe .midnight cause

/-- MAIN_INPUT_VALID. -/
def State.mainValid (s : State) : State := ({ s with pwr := { s.pwr with mainOk := true } }).leaveMidnight

/-- MAIN_INPUT_LOSS. -/
def State.mainLoss (s : State) : State := ({ s with pwr := { s.pwr with mainOk := false } }).toMidnight 4

/-- STANDBY_LOSS: the Rollbook journals, and the next departure from Midnight reports cause 0 (R442, R475). -/
def State.standbyLoss (s : State) : State :=
  if !s.pwr.standbyOk then s
  else
    let s := s.modRbk (fun r => { r with energyJournal := r.energy })
    let u := s.wipe .midnight 0
    { u with pwr := { u.pwr with standbyOk := false, leadMs := 0, sensors := [], wet := false, beyond := [], smbalert := false, thermtrip := false } }

/-- STANDBY_POWER_ON: everything on the module is reset, nothing is kept, and the Rollbook restarts (R398, R447). -/
def State.standbyOn (s : State) : State :=
  if s.pwr.standbyOk then s
  else { s.wipe .midnight 0 with pwr := { Power.reset with state := .midnight, mainOk := s.pwr.mainOk, perst := s.pwr.perst, slotAddr := s.pwr.slotAddr, leadMs := 0 } }.modRbk (fun r => r.note 0x01 [0])

/-- MS_TICK: SRV_NOW_MS advances by the carried count (R393). In Midnight the same clock times the standby supply: once it has been within range for 10 ms it keeps the module
there no longer (R475). -/
def State.msTick (s : State) (n : Nat) : State :=
  if s.pwr.state ≠ .midnight then { s with srv := { s.srv with nowMs := (s.srv.nowMs + n) % 2 ^ 64 } }
  else if s.pwr.standbyOk then ({ s with pwr := { s.pwr with leadMs := min 10 (s.pwr.leadMs + n) } }).leaveMidnight
  else s

/-- THERMAL_TRIP: Midnight with THERMTRIP# asserted (R392, R479). -/
def State.thermalTrip (s : State) : State :=
  if s.pwr.state = .midnight then s
  else { s.wipe .midnight 5 with pwr := { (s.wipe .midnight 5).pwr with thermtrip := true } }

/-- PERST_DEASSERT. -/
def State.perstOff (s : State) : State := ({ s with pwr := { s.pwr with perst := false } }).leaveMidnight

/-! ### Dusk and Night (R379-R382) -/

/-- The conditions of a complete drain (R379). -/
def State.isDrained (s : State) : Bool :=
  s.liveSessions.all (fun k => decide ((s.sess k).state ≠ 2 ∧ (s.sess k).state ≠ 3 ∧ (s.sess k).state ≠ 5)) &&
  !s.srv.inFlight && s.srv.flush.isEmpty && s.mem.moves.isEmpty &&
  s.mdl.slots.all (fun e => !(e.2.state == .loading) && !(e.2.state == .repairing)) &&
  s.mdl.vers.all (fun e => !(e.2.state == .loading)) && s.nextRepair.isNone && decide (s.commits = [])

/-- PWR_STATE.DRAINED: 1 while the conditions of R379 hold, once a Caretaker runs; out of reset it reads 0 (R403, log entry 136). -/
def State.showsDrained (s : State) : Bool := !(s.pwr.state == .dawn) && s.isDrained

/-- What a write of PWR_CTRL.TARGET does (R377, R378). -/
def State.setTarget (s : State) (v : Nat) : State :=
  if v = 3 ∨ v = 5 ∨ (v = 2 ∧ s.pwr.state = .morning) then
    let s := s.setReg Off.pwrCtrl (BitVec.ofNat 64 v)
    let st := s.pwr.state
    if v = 3 ∧ (st = .dusk ∨ st = .night ∨ (st = .morning ∧ s.pwr.ready)) then s.toDay
    else if v = 5 ∧ st = .day then
      let s := s.enter .dusk 2
      { s with pwr := { s.pwr with duskMs := s.srv.nowMs, duskDone := false, endAll := false } }
    else s
  else s

/-- DUSK_DRAIN_COMPLETE: Classrooms to Holiday, stacks to self-refresh, Wing clocks stopped (R381). -/
def State.drainDone (s : State) : State :=
  if s.pwr.state ≠ .dusk ∨ !s.isDrained then s
  else
    let s := (List.finRange 32).foldl (fun s k => (s.modRoom k (fun r => { r with power := .holiday })).modStack k (fun t => { t with selfRefresh := true })) s
    s.enter .night 3

/-- DUSK_TIMEOUT: the turns end at the next Roster build (R380). -/
def State.duskTimeout (s : State) : State :=
  let ms := s.regField Off.pwrDusk 0 32
  if s.pwr.state ≠ .dusk ∨ ms = 0 ∨ s.srv.nowMs < s.pwr.duskMs + ms ∨ s.pwr.duskDone ∨ s.isDrained then s
  else { s with pwr := { s.pwr with duskDone := true, endAll := true } }

/-! ### Classrooms (R385, R390) -/

/-- Whether a Classroom may change its power state: no step is in flight in its Wing. -/
def State.restful (s : State) (w : Wing) : Bool := !s.srv.inFlight && (s.seq w).phase == .idle

/-- RECESS_ENTRY after `us` microseconds of idleness. -/
def State.recess (s : State) (u : Cr) (us : Nat) : State :=
  let lim := s.regField Off.pwrClass 0 16
  if (s.room u.idx).power = .inClass ∧ s.restful u.w ∧ lim ≠ 0 ∧ lim ≤ us then s.modRoom u.idx (fun r => { r with power := .recess }) else s

/-- HOLIDAY_ENTRY after `ms` milliseconds of idleness. -/
def State.holiday (s : State) (u : Cr) (ms : Nat) : State :=
  let lim := s.regField Off.pwrClass 16 16
  if s.restful u.w ∧ lim ≠ 0 ∧ lim ≤ ms then s.modRoom u.idx (fun r => { r with power := .holiday }) else s

/-- DROOP_TRIP: the Wing's clock runs at half rate. -/
def State.droopTrip (s : State) (u : Cr) : State :=
  if !s.clocked then s
  else
    let s := (s.bump Off.pwrDroopTrips 1).modRoom u.idx (fun r => { r with droop := true })
    s.setWing u.w { s.wing u.w with stretched := true }

/-- PWR_DROOP_CYCLESw. -/
def droopCycles (w : Wing) : Nat := Off.pwrDroopCycles0 + 8 * w.val

/-- DROOP_RELEASE after `total` stretched cycles, the last `clear` of them with every sensor clear. -/
def State.droopRelease (s : State) (w : Wing) (total clear : Nat) : State :=
  if !(s.wing w).stretched ∨ clear < s.regField Off.pwrDroop 0 16 then s
  else
    let s := s.bump (droopCycles w) total
    let s := (List.finRange 8).foldl (fun s c => s.modRoom (roomIndex w c) (fun r => { r with droop := false })) s
    s.setWing w { s.wing w with stretched := false }

/-! ### The power controller (R391, R392) -/

/-- Report a change of the cap step or of CAP. -/
def State.capChanged (s : State) (cause : Nat) (down : Bool) : State :=
  (s.bump (if down then Off.pwrStepsDown else Off.pwrStepsUp) 1).event 0x31 0 s.pwr.step s.pwr.cap cause

/-- A step down: the clock first, then the bandwidth. -/
def Power.down (p : Power) : Power :=
  if p.step < 4 then { p with step := p.step + 1, overUs := 0 }
  else if p.cap > 16 then { p with cap := p.cap - 16, overUs := 0 }
  else { p with overUs := 0 }

/-- A step up: the bandwidth first, then the clock. -/
def Power.up (p : Power) (top : Nat) : Power :=
  if p.cap < 64 then { p with cap := p.cap + 16, underUs := 0 }
  else if p.step > top then { p with step := p.step - 1, underUs := 0 }
  else { p with underUs := 0 }

/-- The three branches of R391. -/
def State.control (s : State) (p : Nat) (hot : Bool) : State :=
  let lim := s.regField Off.pwrLimit 0 11
  let hyst := s.regField Off.pwrLimit 12 8
  let top := s.regField Off.pwrLimit 20 3
  let upMs := s.regField Off.pwrLimit 32 16
  let q := s.pwr
  let moved := fun (a : Power) => decide (a.step ≠ q.step ∨ a.cap ≠ q.cap)
  if p > 1900 then
    let a := { q with step := 4, cap := 16, overUs := 0, underUs := 0 }
    let s := ({ s with pwr := a }).bump Off.pwrEmergencies 1
    let s := s.event 0x32 0 p 0 0
    if moved a then s.capChanged 1 true else s
  else if p > lim ∨ hot then
    let a := { q with underUs := 0, overUs := q.overUs + 10 }
    let a := if a.overUs ≥ 500 then a.down else a
    let s := { s with pwr := a }
    if moved a then s.capChanged (if p > lim then 1 else 2) true else s
  else
    let a := { q with overUs := 0, underUs := if p + hyst < lim then q.underUs + 10 else 0 }
    let a := if a.underUs ≥ upMs * 1000 then a.up top else a
    let s := { s with pwr := a }
    if moved a then s.capChanged 3 false else s

/-- The last line of R391: TOP forces the step down at once. -/
def State.holdTop (s : State) : State :=
  let top := s.regField Off.pwrLimit 20 3
  if s.pwr.step < top then ({ s with pwr := { s.pwr with step := top } }).capChanged 4 true else s

/-- THERMAL_LIMIT, once per die until every die has fallen 5 °C below the limit (R392). -/
def State.thermal (s : State) (ts : List Nat) : State :=
  let lim := s.regField Off.pwrThermal 0 8
  let s := if ts.all (fun t => decide (t + 5 ≤ lim)) then { s with pwr := { s.pwr with hot := [] } } else s
  ts.zipIdx.foldl (fun s e =>
    if lim ≤ e.1 ∧ !s.pwr.hot.contains e.2 then ({ s with pwr := { s.pwr with hot := e.2 :: s.pwr.hot } }).event 0x33 0 e.2 e.1 0 else s) s

/-- POWER_SAMPLE: the controller acts on every stack alike. -/
def State.powerSample (s : State) (i : PowerIn) : State :=
  if !s.hasFunction then s
  else
    let ts := [i.t0.toNat, i.t1.toNat, i.t2.toNat, i.t3.toNat, i.t4.toNat]
    let s := { s with pwr := { s.pwr with lastW := i.watts, draws := (i.watts :: s.pwr.draws).take 10000, temps := ts } }
    let s := if i.watts > s.regField Off.pwrLimit 0 11 then s.bump Off.pwrOverUs 10 else s
    let s := s.thermal ts
    let hot := ts.any (fun t => decide (s.regField Off.pwrThermal 0 8 ≤ t))
    let s := (s.control i.watts hot).holdTop
    (List.finRange 32).foldl (fun s k => s.modStack k (fun t => { t with cap := s.pwr.cap })) s

/-! ### Crossings (R395-R397) -/

/-- Whether port `n`'s crossing is in joint mode. -/
def State.joint (s : State) (n : Nat) : Bool := bit (s.regN Off.pwrCdcMode) n

/-- The LIVE contexts bound to a port. -/
def State.portCtxs (s : State) (n : Nat) : List Nat :=
  (s.fab.ctxs.filter (fun e => decide (e.2.state = 1) && decide (e.2.port = n))).map (·.1)

/-- PORT_LINK_DOWN: the port resets, its crossing realigns, and in joint mode its contexts become LOST at once. -/
def State.portDown (s : State) (n : Nat) : State :=
  if !marked s.fab.up n then s
  else
    let s := s.linkDown n
    let s := { s with fab := { s.fab with realign := setMark s.fab.realign n true } }
    if s.joint n then (s.portCtxs n).foldl (fun s k => s.peerLost k) s else s

/-- The end of a crossing's realignment: the entries discarded are counted and named, and what waited for the crossing goes. -/
def State.resynced (s : State) (n dropped joint : Nat) : State :=
  let s := { s with fab := { s.fab with realign := setMark s.fab.realign n false } }
  (if dropped = 0 then s else s.bump Off.pwrCdcDrops dropped).event 0x35 0 n dropped joint

/-- CDC_REALIGN: the crossing carries again. For a port the entries this module had sent and that were discarded are given; the Rollbook's crossing, named as
port 16, has lost every message in flight (R396). -/
def State.realigned (s : State) (port : Option (Fin 16)) (dropped : Nat) : State :=
  if !s.hasFunction then s
  else match port with
    | some p => (s.resynced p.val dropped (b2n (s.joint p.val))).wakePort p.val
    | none => (({ s with rlink := { s.rlink with lost := 0 } }).resynced 16 s.rlink.lost 0).releaseTallies

end Sys2Proof.Machine
end

