-- ==== Sys2Proof/Machine/Faults.lean ====
section
/-! DEFINITION. Persistent faults (R462, R463): their conditions and what the module does on one. -/

namespace Sys2Proof.Machine

open Sys2Proof

/-! ### The fault itself (R463) -/

/-- ERR_STATUS keeps the first fault. -/
def State.noteFault (s : State) (cause unit : Nat) : State :=
  if s.regField Off.errStatus 0 4 = 0 then s.setReg Off.errStatus (BitVec.ofNat 64 (cause + unit * 16)) else s

/-- A Sequencer whose step is ended from outside. -/
def Sequencer.stop (q : Sequencer) : Sequencer :=
  { q with phase := .idle, held := false, holds := [], jump := none, frames := [], wait := none, waitT := none, replayRef := none, voted := false, sent := [] }

/-- A Classroom whose queued operations are dropped. -/
def Classroom.stop (r : Classroom) : Classroom :=
  { r with loads := 0, feeds := [], pipe := [], drain := none, mov0 := [], mov1 := [], movWait := [],
           ex := { r.ex with queue := [], waiting := [], waitLoad := none, cbLoad := none, selReads := [], next := [] } }

/-- The Wings stop with what they were doing. -/
def State.stopWings (s : State) : State :=
  let s := (List.finRange 4).foldl (fun s w => s.modSeq w Sequencer.stop) s
  let s := (List.finRange 32).foldl (fun s k => s.modRoom k Classroom.stop) s
  { s with srv := { s.srv with votes := [none, none, none, none], toWing := [none, none, none, none], starts := [none, none, none, none] } }

/-- Whether a persistent fault is acted on: in Morning, Day, Dusk and Night. -/
def State.faultable (s : State) : Bool :=
  s.pwr.state == .morning || s.pwr.state == .day || s.pwr.state == .dusk || s.pwr.state == .night

/-- A persistent fault: recorded; in Twilight, where nothing is left to end, that is all. Else the step in flight ends without commit, every ACTIVE turn with INTERNAL, the unit is named and the module enters Twilight, where what
waited is delivered. -/
def State.persistentFault (s : State) (cause unit : Nat) : State :=
  if !s.faultable then (if s.pwr.state = .twilight then s.noteFault cause unit else s)
  else
    let s := s.noteFault cause unit
    let s := if s.srv.inFlight then (s.bump Off.srvStepsFailed 1).endStep (some 0x7F) else s
    let s := ({ s.dropNext.stopWings with srv := { s.dropNext.stopWings.srv with reread := [] } }).endPinned (fun _ => true) 0x7F
    (s.event 0x01 0x7F unit 0 0).toTwilight.pump

/-- Act on a fault that a command has found. -/
def State.actFault (s : State) : State :=
  match s.err.due with
  | none => s
  | some (c, u) => ({ s with err := { s.err with due := none } }).persistentFault c u

/-- The end of a command that may have found a fault or freed something a descriptor waits for: a waiting descriptor may find one too. The
bursts of the stream rings it wrote end (R336). -/
def State.finish (s : State) : State := s.actFault.pump.actFault.endBursts

/-! ### Conditions (R453, R462) -/

/-- LINK_CREDIT_AUDIT: the sender's credits and the receiver's count, as the cut finds them, against the flits the sender has sent. -/
def State.creditAudit (s : State) (a : Audit) : State := if s.auditHolds a then s.setAudited a else (s.setAudited a).persistentFault 5 (linkUnit a.link)

/-- FLIT_RESEND: the `n`-th consecutive resend of a flit. -/
def State.flitResend (s : State) (l : Fin 8) (n : Nat) : State :=
  let s := s.bump Off.errLinkRetries 1
  if n ≥ 16 then s.persistentFault 1 (linkUnit l) else s

/-- STACK_TRAINING_LOSS. -/
def State.trainingLoss (s : State) (k : Fin 32) : State :=
  if !(s.stack k).trained then s else (s.modStack k (fun t => { t with trained := false })).persistentFault 2 (0x100 + k.val)

/-- The lowest Wing that has not ended the step, or not begun it. -/
def State.lateWing (s : State) : Option Wing := (List.finRange 4).find? (fun w => !((s.seq w).phase == .idle) || (s.srv.starts.getD w.val none).isSome)

/-- STEP_WATCHDOG: the step has run for the ms that ERR_WATCHDOG gave when it started. -/
def State.watchdog (s : State) : State :=
  let ms := s.srv.watchdog
  if ms = 0 ∨ s.srv.nowMs < s.srv.startMs + ms then s
  else match s.lateWing with
    | some w => s.persistentFault 4 (0x300 + w.val)
    | none => s

/-- DIE_TO_DIE_LINK_DOWN for `us` microseconds. -/
def State.linkStaysDown (s : State) (l : Fin 8) (us : Nat) : State := if us ≥ 10 then s.persistentFault 1 (linkUnit l) else s

end Sys2Proof.Machine
end

