-- ==== Sys2Proof/Machine/RegRead.lean ====
section
/-! DEFINITION. What a BAR0 read returns (R8-R11, R469): a stored register, the staged copy of a CM register, or, for a register that reports hardware
status, its value computed from the state. -/

namespace Sys2Proof.Machine

open Sys2Proof

/-! ### Classroom status (R62, R120) -/

/-- The code of a plane's mode. -/
def PlaneMode.code : PlaneMode → Nat
  | .dense => 0
  | .paired => 1
  | .plane => 2

/-- Plane count as ARR_STATUS shows it: 0 outside Plane mode. -/
def Plane.shownP (p : Plane) : Nat := if p.mode = .plane then p.p else 0

/-- Whether a FEED operation is busy. -/
def State.feeding (s : State) (k : Fin 32) : Bool :=
  let q := s.seq (wingOf k)
  (s.room k).swapping || (!(q.phase == .idle) && decide (q.t < Sparse.get (fun _ => 0) (s.room k).busy 0))

/-- ARR_STATUS. -/
def State.arrStatus (s : State) (k : Fin 32) : Nat :=
  let r := s.room k
  b2n r.frontId + r.front.mode.code * 2 + r.front.shownP * 2 ^ 3 + r.back.mode.code * 2 ^ 7 + r.back.shownP * 2 ^ 9 +
  b2n (decide (r.loads > 0)) * 2 ^ 13 + b2n (s.feeding k) * 2 ^ 14

/-- EXP_STATUS. READING stays 1 for an item whose header and bytes have been fetched and that waits for a decode buffer, until its expand phase or the next Reader phase starts: no
command marks the end of a Reader phase (R120; DESIGN CHOICE, log entry 130). -/
def Expander.status (e : Expander) : Nat :=
  e.queue.length + e.full.length * 2 ^ 4 + b2n (e.queue.any (fun i => i.phase == .reading)) * 2 ^ 6 +
  b2n (e.queue.any (fun i => i.phase == .expanding)) * 2 ^ 7 + sumN 16 (fun k => b2n (e.slot k).lens.isNone * 2 ^ (16 + k))

/-- EXP_CB_GEN0 and EXP_CB_GEN1: the generations of eight slots from `k0`. -/
def Expander.gens (e : Expander) (k0 : Nat) : Nat := sumN 8 (fun k => (e.slot (k0 + k)).gen % 256 * 2 ^ (8 * k))

/-- EXP_CB_USE. -/
def Expander.useMap (e : Expander) : Nat := sumN 16 (fun k => e.uses k * 2 ^ (4 * k))

/-- A status register of Classroom `k`, by its offset in the block. -/
def State.roomStatus (s : State) (k : Fin 32) (o : Nat) : Option Nat :=
  if o = 0x100 then some (s.arrStatus k)
  else if o = 0x300 then some (s.ex k).status
  else if o = 0x308 then some ((s.ex k).gens 0)
  else if o = 0x310 then some ((s.ex k).gens 8)
  else if o = 0x318 then some (s.ex k).useMap
  else none

/-! ### Wing status (R156) -/

/-- SEQ_STATUS.STATE. -/
def Sequencer.stateCode (q : Sequencer) : Nat :=
  match q.phase with
  | .idle => 0
  | .starting => 1
  | .running => if q.held then 3 else 2
  | .checkWait => 4
  | .commitWait => 5

/-- The HOLDING bit of a cause. -/
def causeBit : HoldCause → Nat
  | .dataLate => 0
  | .expanderLate => 1
  | .bellWait => 2
  | .codebookBusy => 3
  | .narrowStarved => 4

/-- SEQ_STATUS. -/
def Sequencer.status (q : Sequencer) : Nat :=
  q.stateCode + b2n q.epoch * 2 ^ 3 + q.pass % 4 * 2 ^ 4 + depthOf q.frames * 2 ^ 6 + (loopsOf q.frames).length * 2 ^ 10 + b2n q.rosterBuf * 2 ^ 15 +
  sumN 5 (fun b => b2n (q.holds.any (fun h => decide (causeBit h.cause = b))) * 2 ^ (16 + b))

/-- A status register of Wing `w`, by its offset in the block. -/
def State.wingStatus (s : State) (w : Wing) (o : Nat) : Option Nat :=
  if o = 0 then some (s.seq w).status else if o = 0x28 then some ((s.seq w).count % 2 ^ 32) else none

/-! ### Module status -/

/-- GLB_COMMIT_STATUS: BAD is stored, PENDING names the groups (R401, R403). -/
def State.commitStatus (s : State) : Nat := s.regField Off.glbCommitStatus 8 1 * 2 ^ 8 + sumN 8 (fun g => b2n (marked s.commits g) * 2 ^ g)

/-- HIF_LINK. -/
def State.hifLink (s : State) : Nat :=
  s.hif.linkSpeed % 8 + s.hif.linkWidth % 32 * 2 ^ 3 + b2n s.hif.flit * 2 ^ 8 + s.hif.l0p % 16 * 2 ^ 9

/-- HM_STATUS. -/
def State.hmStatus (s : State) : Nat :=
  let runs := s.enabled && s.canIssue
  b2n runs + b2n (runs && s.pwr.state == .night) * 2 + (s.hif.subs.filter (fun e => e.2.error)).length * 4

/-- PWR_CLASS_STATE. -/
def State.classState (s : State) : Nat :=
  (List.finRange 32).foldl (fun a k =>
    a + (match (s.room k).power with | .inClass => 0 | .recess => 1 | .holiday => 2) * 2 ^ (2 * k.val)) 0

/-- PWR_DRAW: the mean of the samples of the last 100 ms, rounded down. -/
def State.pwrDraw (s : State) : Nat := s.pwr.lastW % 4096 + s.pwr.draws.sum / max 1 s.pwr.draws.length % 4096 * 2 ^ 16

/-- PWR_TEMP. -/
def State.pwrTemp (s : State) : Nat := s.pwr.temps.zipIdx.foldl (fun a e => a + e.1 % 256 * 2 ^ (8 * e.2)) 0

/-- A status register of the PWR block, by its offset in the block (R403). -/
def State.pwrStatus (s : State) (o : Nat) : Option Nat :=
  if o = 0 then some (s.pwr.state.code + b2n s.pwr.ready * 2 ^ 3 + b2n s.showsDrained * 2 ^ 4)
  else if o = 0x28 then some s.classState
  else if o = 0x38 then some (s.pwr.step + s.pwr.cap * 2 ^ 3)
  else if o = 0x40 then some s.pwrDraw
  else if o = 0x50 then some s.pwrTemp
  else if o = 0x60 then some s.pwr.cause
  else none

/-- SEC_STATUS (R433). -/
def State.secStatus (s : State) : Nat :=
  let c := s.sec
  c.bank + b2n (c.ownerSet && c.owner.isSome) * 2 ^ 2 + b2n c.identity.isSome * 2 ^ 3 + b2n c.unmetered * 2 ^ 4 + b2n c.untestedTrain * 2 ^ 5 +
  b2n c.untestedRbk * 2 ^ 6 + b2n c.permit.isSome * 2 ^ 7 + b2n c.requireMetering * 2 ^ 8 + b2n c.requireTested * 2 ^ 9 +
  c.rejectA * 2 ^ 12 + c.rejectB * 2 ^ 16

/-- SEC_VERSIONS (R433). -/
def State.secVersions (s : State) : Nat :=
  let svn := fun (h : List Byte) => if h = [] then 0 else imageSvn h
  rangeBits' (ifaceRange s.sec.careHeader 1 1) + s.sec.train % 256 * 2 ^ 16 + s.sec.tally % 256 * 2 ^ 24 + svn s.sec.careHeader * 2 ^ 32 +
  svn s.sec.trainHeader * 2 ^ 48
where
  /-- A version range as the register holds it. -/
  rangeBits' (r : Option (Nat × Nat)) : Nat := match r with | some x => x.1 % 256 + x.2 % 256 * 256 | none => 0

/-- Whether the live permit allows fabric injection (R372, R429). -/
def State.injectOk (s : State) : Bool := match s.sec.permit with | some p => bit p.grants 0 | none => false

/-- SEC_PERMIT (R433). -/
def State.secPermit (s : State) : Nat :=
  match s.sec.permit with
  | some p => p.serial % 2 ^ 32 + p.grants % 2 * 2 ^ 32
  | none => 0

/-- A status register of the SEC block, by its offset in the block. -/
def State.secView (s : State) (o : Nat) : Option Nat :=
  if o = 0 then some s.secStatus
  else if o = 8 then some s.secVersions
  else if o = 0x10 then some (s.counter 0 % 65536 + s.counter 1 % 65536 * 2 ^ 16 + s.sec.rbkSvn % 65536 * 2 ^ 32)
  else if o = 0x18 then some s.secPermit
  else none

/-- A status register of the RBK block, by its offset in the block (R449). RBK_TALLY_SEQ is the last SEQ sent plus one: a message that waits is not sent (R445). -/
def State.rbkView (s : State) (o : Nat) : Option Nat :=
  if o = 0x20 then some (b2n s.rlink.busy + b2n s.rlink.present * 2 + s.rlink.status % 256 * 2 ^ 8 + s.rlink.resp.length % 65536 * 2 ^ 16)
  else if o = 0x30 then some ((s.rlink.seq + 2 ^ 32 - s.rlink.waiting.length % 2 ^ 32) % 2 ^ 32)
  else if 0x400 ≤ o ∧ o < 0x800 then some (hfield s.rlink.resp (o - 0x400) 8)
  else none

/-- A register of the FAB block that does not hold its own value, by its offset in the block (R349, R372, R374). The MAC address comes from the
identity data in flash, whose layout the spec does not give: free (log entry 9). -/
def State.fabView (s : State) (o : Nat) : Option Nat :=
  let c := s.ctx (s.regField Off.fabInjSel 0 12)
  if o = 0x88 then some (if s.injectOk then c.inj0 else 0)
  else if o = 0x90 then some (if s.injectOk then c.inj1 else 0)
  else if o = 0x98 then some (b2n s.injectOk)
  else if 0x1000 ≤ o ∧ o < 0x1400 ∧ o % 0x40 = 0 then
    let n := (o - 0x1000) / 0x40
    some (b2n (marked s.fab.up n) + s.portMode * 2 + b2n (s.pfcOn && marked s.fab.paused n) * 2 ^ 3)
  else if 0x1000 ≤ o ∧ o < 0x1400 ∧ o % 0x40 = 8 then some (portMac ((o - 0x1000) / 0x40))
  else none

/-- ASM_STATUS, and the words of a group record that hold NUMBER and LAST_STATUS (R361, R374). -/
def State.asmView (s : State) (o : Nat) : Option Nat :=
  if o = 0 then
    some (sumN 16 (fun g => b2n (s.groupOn g) * 2 ^ g + b2n (!(s.group g).colls.isEmpty) * 2 ^ (16 + g)))
  else if 0x1000 ≤ o ∧ o < 0x2000 ∧ o % 256 = 16 then
    let g := (o - 0x1000) / 256
    some (field (s.regN (Off.asmGroup g 2)) 0 32 + (s.group g).number % 2 ^ 32 * 2 ^ 32)
  else if 0x1000 ≤ o ∧ o < 0x2000 ∧ o % 256 = 24 then some ((s.group ((o - 0x1000) / 256)).last % 256)
  else none

/-- MEM_STATUS of stack `k` (R220). -/
def State.memStatus (s : State) (k : Fin 32) : Nat :=
  b2n (s.stack k).trained + b2n (s.stack k).selfRefresh * 2 + (s.stack k).cap * 4

/-- SRV_SESSIONS (R281). -/
def State.srvSessions (s : State) : Nat :=
  let l := s.liveSessions
  let p := l.filter (fun k => decide ((s.sess k).state = 3 ∨ (s.sess k).state = 4 ∨ (s.sess k).state = 5))
  l.length + s.activeSessions.length * 2 ^ 17 + p.length * 2 ^ 34

/-- SRV_MDL_REPAIR (R300). -/
def State.mdlRepair (s : State) : Nat :=
  let pending := (s.mdl.slots.map (fun e => e.2.poisoned.length)).sum + (s.mdl.vers.map (fun e => e.2.poisoned.length)).sum
  match s.nextRepair with
  | some (.slot k, _) => pending + 2 ^ 32 + k * 2 ^ 33 + 0xFFF * 2 ^ 39
  | some (.version v, _) => pending + 2 ^ 32 + v * 2 ^ 39
  | none => pending + 0xFFF * 2 ^ 39

/-- SRV_MSET_COUNTS (R300). -/
def State.msetCounts (s : State) : Nat :=
  let n := fun (t : VerState) => (s.mdl.vers.filter (fun e => e.2.state == t)).length
  let used := (s.mdl.vers.filter (fun e => !(e.2.state == .empty))).length
  n .current + n .retiring * 2 ^ 13 + (4096 - used) * 2 ^ 26

/-- A status register of the SRV block, by its offset in the block (R245, R281, R300). -/
def State.srvView (s : State) (o : Nat) : Option Nat :=
  if o = 0x40 then some s.srv.nowMs
  else if o = 0x48 then some s.srvSessions
  else if o = 0x50 then some s.srv.step
  else if 0x620 ≤ o ∧ o < 0x640 then some (s.freeSlots ((o - 0x620) / 8))
  else if o = 0x800 then
    some ((s.mdl.slots.map (fun e => if e.2.state = .resident ∨ e.2.state = .repairing then 2 ^ e.1 else 0)).sum)
  else if o = 0x808 then some s.mdlRepair
  else if o = 0x810 then some s.msetCounts
  else none

/-- Classroom of a BAR0 offset in a Classroom block. -/
def roomAt (o : Nat) : Fin 32 :=
  ⟨(8 * ((o - 0x400000) / 0x100000) + (o % 0x100000 / 0x10000 - 1)) % 32, Nat.mod_lt _ (by omega)⟩

/-- Wing of a BAR0 offset in a Wing's blocks. -/
def wingAt (o : Nat) : Wing := ⟨(o - 0x400000) / 0x100000 % 4, Nat.mod_lt _ (by omega)⟩

/-- The computed value of a status register; none where the register holds its own value. -/
def State.statusAt (s : State) (o : Nat) : Option Nat :=
  if o < 0x10000 then if o = Off.glbCommitStatus then some s.commitStatus else none
  else if o < 0x20000 then if o = Off.hifLink then some s.hifLink else none
  else if o < 0x30000 then if o = Off.hmStatus then some s.hmStatus else none
  else if o < 0x40000 then none
  else if o < 0x50000 then s.pwrStatus (o - 0x40000)
  else if o < 0x60000 then s.secView (o - 0x50000)
  else if o < 0x70000 then s.rbkView (o - 0x60000)
  else if o < 0x80000 then none
  else if o < 0xC0000 then s.fabView (o - 0x80000)
  else if o < 0x100000 then s.asmView (o - 0xC0000)
  else if o < 0x120000 then
    if o % 0x1000 = 0 then some (s.memStatus ⟨(o - 0x100000) / 0x1000 % 32, Nat.mod_lt _ (by omega)⟩) else none
  else if o < 0x200000 then none
  else if o < 0x210000 then s.srvView (o - 0x200000)
  else if o < 0x400000 then none
  else if o % 0x100000 < 0x10000 then s.wingStatus (wingAt o) (o % 0x100000)
  else s.roomStatus (roomAt o) (o % 0x10000)

/-! ### Reads (R9-R12, R305) -/

/-- The staged copy of a CM register (R11, R12): as at reset until a write lands in it. -/
def State.stagedReg (s : State) (o : Nat) : Reg := Sparse.get regReset s.staged o

/-- What a 64-bit read of the register at `o` returns; 0 where there is none. -/
def State.readReg (s : State) (o : Nat) : Nat :=
  match regInfo o with
  | none => 0
  | some i =>
    match i.access with
    | .wo => 0
    | .cm _ => (s.stagedReg o).toNat
    | _ => (s.statusAt o).getD (s.regN o)

/-- Whether `o` is a Classroom's SLT_DBG_DATA, whose read reaches the Slate (R187). -/
def isDbgData (o : Nat) : Bool :=
  decide (0x400000 ≤ o ∧ o < 0x800000 ∧ 0x10000 ≤ o % 0x100000 ∧ o % 0x100000 < 0x90000 ∧ o % 0x10000 = 0x440)

/-- The Classroom of an offset, as a command names one. -/
def crAt (o : Nat) : Cr := ⟨wingAt o, roomOf (roomAt o)⟩

/-- A 64-bit read with its effect: an RC register is cleared (R11), SLT_DBG_DATA reads the word. -/
def State.readThrough (s : State) (o : Nat) : Nat × State :=
  match regInfo o with
  | none => (0, s)
  | some i =>
    if i.access = .rc then (s.regN o, s.setReg o 0)
    else if isDbgData o then
      let s := s.dbgRead (crAt o) 0
      (leNat s.bus.data, s)
    else (s.readReg o, s)

/-- Whether an access of `n` bytes at `off` touches a register. -/
def touchesReg (off n : Nat) : Bool :=
  (List.range ((off + n - 1) / 8 + 1 - off / 8)).any (fun i => (regInfo (8 * (off / 8 + i))).isSome)

/-- The accesses R9 allows to the register an access of `n` bytes at `off` begins in. -/
def accessOk (off n : Nat) : Bool :=
  match regInfo (off / 8 * 8) with
  | none => false
  | some i =>
    let wide := match i.access with | .rc => true | .wo => true | .cm _ => true | _ => false
    (decide (n = 8) && decide (off % 8 = 0)) || (decide (n = 4) && decide (off % 4 = 0) && !wide)

/-- Whether BAR0 answers at all: not in Midnight, and not in D3hot (R309). -/
def State.bar0On (s : State) : Bool := s.hasFunction && !s.hif.d3

/-- A read of 8 bytes, or of the 4 that are asked for (R9, R11). -/
def State.regBytes (s : State) (off n : Nat) : List Byte × State :=
  let (v, s) := s.readThrough (off / 8 * 8)
  (((leBytes 8 v).drop (off % 8)).take n, s)

/-- An access that R9 does not allow (R10, R305): counted where it touches a register; a read of this kind returns 0. -/
def State.badAccess (s : State) (off n : Nat) (read : Bool) : State :=
  let s := if touchesReg off n then s.bump Off.errRegAccess 1 else s
  if read then s.reply (List.replicate n 0) false else s

/-- A BAR0 read: an allowed one is answered, with its effect. -/
def State.readAt (s : State) (off n : Nat) : State :=
  if accessOk off n then let (bs, s) := s.regBytes off n; s.reply bs false else s.badAccess off n true

/-- REGISTER_ACCESS_ERROR: an access of `n` bytes; a read that R9 allows after all is answered. -/
def State.accessError (s : State) (off n : Nat) (read : Bool) : State :=
  if !s.bar0On then s.unsupported
  else if read then s.readAt off n
  else if accessOk off n then s
  else s.badAccess off n false

/-- RC_COUNTER_READ: a BAR0 read of 8 bytes, or of 4. -/
def State.regRead (s : State) (off : Nat) (wide : Bool) : State :=
  if !s.bar0On then s.unsupported else s.readAt off (if wide then 8 else 4)

end Sys2Proof.Machine
end

