-- ==== Sys2Proof/Machine/RegWrite.lean ====
section
/-! DEFINITION. BAR0 writes (R8-R13, R305) with what the written registers do, the commit groups (R400, R401) and the telemetry sample (R341). -/

namespace Sys2Proof.Machine

open Sys2Proof

/-! ### Commit groups (R12, R13, R400, R401) -/

/-- Land a write in the staged copy of a CM register; a field out of its range is not staged. -/
def State.stage (s : State) (o : Nat) (v : Nat) : State :=
  let fs := match regInfo o with | some i => i.fields | none => []
  { s with staged := Sparse.set regReset s.staged o (BitVec.ofNat 64 (writeFields fs (s.stagedReg o).toNat v)) }

/-- A write to a CM register: held while its group has a commit pending. -/
def State.cmWrite (s : State) (g o v : Nat) : State :=
  if marked s.commits g then { s with heldWrites := s.heldWrites ++ [(o, BitVec.ofNat 64 v)] } else s.stage o v

/-- GLB_COMMIT: the group's commit is pending, or BAD for an unknown ID. -/
def State.glbCommit (s : State) (v : Nat) : State :=
  if v % 256 < 8 then { s with commits := setMark s.commits (v % 256) true }
  else s.setReg Off.glbCommitStatus (BitVec.ofNat 64 0x100)

/-- The register of a commit group (R400). -/
def groupReg (g : Nat) : Nat :=
  match g with
  | 0 => Off.pwrLimit
  | 1 => Off.pwrCdcMode
  | 2 => 0x120000
  | 3 => Off.fabPortCfg
  | _ => 0x400100 + (g - 4) % 4 * 0x100000

/-- Whether a Wing has ended its step and has no Mover transfer outstanding (R175, R195). -/
def State.wingQuiet (s : State) (w : Wing) : Bool :=
  (s.seq w).phase == .idle && (s.srv.starts.getD w.val none).isNone &&
  (List.finRange 8).all (fun c =>
    let r := s.room (roomIndex w c)
    r.mov0.isEmpty && r.mov1.isEmpty && r.movWait.isEmpty)

/-- Whether a group is at its safe point when COMMIT_APPLIED comes (R400). That of PWR is the controller's sample, which applies it. The tier-move engine moves
a unit within one command, so between commands it is idle (R195, R401). -/
def State.safePoint (s : State) (g : Nat) : Bool :=
  match g with
  | 0 => false
  | 1 => (List.range 16).all (fun n => !marked s.fab.realign n)
  | 2 => (List.finRange 4).all (fun w => s.wingQuiet w)
  | 3 => !bit (s.regN Off.fabCtrl) 0
  | _ => s.wingQuiet ⟨(g - 4) % 4, Nat.mod_lt _ (by omega)⟩

/-- The regions whose interleave bit changes (R194, R195): their 32 GiB regions of HBM. -/
def regionsOf (changed : Nat) : List Nat := (List.range 64).filter (fun q => bit changed (q % 16))

/-- A new MEM_INTERLEAVE: caches invalidated, the changed regions' contents undefined (R195). -/
def State.applyInterleave (s : State) (old new : Nat) : State :=
  let s := (List.finRange 4).foldl (fun s w => s.cacheClear w) s
  let changed := old ^^^ new
  let gone := fun (a : Nat) => (regionsOf changed).contains (a / 2 ^ 35)
  let eras := (regionsOf changed).foldl (fun m q => Sparse.set (fun _ => 0) m q (Sparse.get (fun _ => 0) m q + 1)) s.mem.eras
  { s with mem := { s.mem with hbm := s.mem.hbm.filter (fun e => !gone e.1), eras := eras } }

/-- The ports retrain in a new mode: each resets with its crossing (R398, R401). -/
def State.retrain (s : State) : State := (List.range 16).foldl (fun s n => s.portDown n) s

/-- What applying a group does beside its register. -/
def State.applyGroup (s : State) (g old new : Nat) : State :=
  match g with
  | 0 => s
  | 1 => s
  | 2 => s.applyInterleave (old % 65536) (new % 65536)
  | 3 => s.retrain
  | _ => s.applySplit ⟨(g - 4) % 4, Nat.mod_lt _ (by omega)⟩ (old % 32) (new % 32)

/-- The writes held for a group land in its staged copy, oldest first (R13). -/
def State.landHeld (s : State) (g : Nat) : State :=
  let mine := s.heldWrites.filter (fun e => decide (e.1 = groupReg g))
  let s := { s with heldWrites := s.heldWrites.filter (fun e => !decide (e.1 = groupReg g)) }
  mine.foldl (fun s e => s.stage e.1 e.2.toNat) s

/-- A pending commit takes effect: the staged copy, what it leads to, the held writes and the event (R401). -/
def State.applyCommit (s : State) (g : Nat) : State :=
  let o := groupReg g
  let old := s.regN o
  let s := (s.setReg o (s.stagedReg o)).applyGroup g old (s.stagedReg o).toNat
  let s := ({ s with commits := setMark s.commits g false }).landHeld g
  s.event 0x36 0 g 0 0

/-- COMMIT_APPLIED: at the safe point the staged copy takes effect, the bit clears, the event names the group, and what waited for the commit goes on. -/
def State.commitApplied (s : State) (g : Nat) : State := if !marked s.commits g ∨ !s.safePoint g then s else (s.applyCommit g).finish

/-- POWER_SAMPLE: a pending PWR commit is applied first (R400, log entry 124), then the controller acts. -/
def State.powerTick (s : State) (i : PowerIn) : State :=
  if !s.hasFunction then s
  else if marked s.commits 0 then ((s.applyCommit 0).powerSample i).finish else s.powerSample i

/-! ### Writes with an effect of their own -/

/-- The bytes of a table its address register names (R281). -/
def State.tableBytes (s : State) (o : Nat) : Nat :=
  let n := 2 ^ s.tableLog2 o
  if o = Off.srvSessionTable then 256 * n
  else if o = Off.srvPrefixBuckets then 4 * n
  else if o = Off.srvPrefixNodes then 128 * n
  else if o = Off.srvPrefixExt then s.nodeCount * n
  else 768 * 4096

/-- A table-address register: unchanged while a session is live, or when the table would leave PROTECTED HBM or lie in a resident image, which no Front Office operation
writes (R286, log entry 115). -/
def State.tableWrite (s : State) (o : Nat) (v : Reg) : State :=
  let t := s.setReg o v
  if s.anySession || !t.allProtected (t.tableAddr o) (t.tableBytes o) || t.meetsImage (t.tableAddr o) (t.tableBytes o) then s else t

/-- HIF_CTRL. -/
def State.ctrlWrite (s : State) (v : Reg) : State :=
  if v.getLsbD 0 && !s.enabled then (s.setReg Off.hifCtrl v).hifEnable else s.setReg Off.hifCtrl v

/-- FAB_CTRL: packets that waited for ENABLE, or for the end of a pause that is honoured no longer, go; with ENABLE 0 a port sends nothing. -/
def State.fabCtrlWrite (s : State) (v : Reg) : State := (List.range 16).foldl State.wakePort (s.setReg Off.fabCtrl v)

/-- FAB_CTX_CMD.CMD: 0 is no command (R353). -/
def State.ctxCommand (s : State) (v : Nat) : State :=
  match v % 4 with
  | 1 => s.ctxWriteCmd
  | 2 => s.ctxReadCmd
  | 3 => s.ctxFreeCmd
  | _ => s

/-- FAB_INJ_CFG0 and FAB_INJ_CFG1: of the context FAB_INJ_SEL names, ignored without a permit (R372). -/
def State.injWrite (s : State) (o v : Nat) : State :=
  let k := s.regField Off.fabInjSel 0 12
  if !s.injectOk then s
  else s.modCtx k (fun c => if o = Off.fabInjCfg0 then { c with inj0 := v } else { c with inj1 := v })

/-- The writable bits of word `j` of a group record (R361). -/
def groupMask (j : Nat) : Nat :=
  if j = 0 then 0xFFFFFFFF003F3F1E
  else if j = 1 then 2 ^ 64 - 1
  else if j = 2 then 2 ^ 30 - 1
  else if 4 ≤ j ∧ j ≤ 24 then 2 ^ 64 - 1
  else if j = 25 then 2 ^ 32 - 1
  else 0

/-- A group record's word: while ENABLE is 1 a write changes ENABLE only; setting it checks the record. -/
def State.groupWrite (s : State) (o v : Nat) : State :=
  let g := (o - 0xC1000) / 256
  let j := (o - 0xC1000) % 256 / 8
  if s.groupOn g then (if j = 0 ∧ v % 2 = 0 then s.groupDisable g else s)
  else
    let s := s.setReg o (BitVec.ofNat 64 (v &&& groupMask j))
    if j = 0 ∧ v % 2 = 1 then s.groupEnable g else s

/-- Registers of HIF that a write leaves alone while ENABLE is 1 (R345). -/
def hifLocked (o : Nat) : Bool :=
  decide (o = Off.hifDoorbellBase ∨ o = Off.hifShadowBase ∨ o = Off.hifRing0 ∨ o = Off.hifCq0 ∨ o = Off.hifEvent ∨ o = Off.hifTelemetry)

/-- An RW register takes `v`, its bits already merged with what the access does not reach; `low` tells whether the access reaches bits [31:0]. -/
def State.rwWrite (s : State) (fs : List WField) (o v : Nat) (low : Bool) : State :=
  let w := BitVec.ofNat 64 (writeFields fs (s.regN o) v)
  if o = Off.hifCtrl then s.ctrlWrite w
  else if hifLocked o && s.enabled then s
  else if o = Off.pwrThermal then (s.setReg o w).senseDies
  else if o = Off.pwrCtrl then (if low then (s.setTarget (v % 8)).finish else s)
  else if o = Off.rbkCmd then (if s.rlink.busy then s else if low then (s.setReg o w).rbkStart else s)
  else if o = Off.fabCtrl then s.fabCtrlWrite w
  else if o = Off.fabCtxCmd then (if low then s.ctxCommand v else s)
  else if o = Off.fabInjCfg0 ∨ o = Off.fabInjCfg1 then s.injWrite o v
  else if 0xC1000 ≤ o ∧ o < 0xC2000 then s.groupWrite o v
  else if 0x200000 ≤ o ∧ o ≤ 0x200020 then s.tableWrite o w
  else s.setReg o w

/-- A write of `n` bytes, 4 or 8, to SLT_DBG_DATA: those bytes of the word (R187). -/
def State.dbgWriteBytes (s : State) (off n v : Nat) : State :=
  let u := crAt off
  (s.slateWrite u.idx 8 (s.dbgAddr u.idx + off % 8) (leBytes n v)).dbgTimeout u.idx false

/-- The 64-bit value a write leaves in front of the register: the half a 32-bit access does not reach keeps its value. -/
def mergeHalf (wide : Bool) (off old v : Nat) : Nat :=
  if wide then v % 2 ^ 64 else setField old (8 * (off % 8)) 32 v

/-- A write the register accepts. -/
def State.regStore (s : State) (i : RegInfo) (off : Nat) (wide : Bool) (v : Nat) : State :=
  let o := off / 8 * 8
  match i.access with
  | .ro => s
  | .rc => s
  | .wo => s.glbCommit v
  | .w1c => if bit (mergeHalf wide off 0 v) 8 then s.setReg o 0 else s
  | .cm g => s.cmWrite g o v
  | .rw => if isDbgData o then s.dbgWriteBytes off (if wide then 8 else 4) v
           else s.rwWrite i.fields o (mergeHalf wide off (s.readReg o) v) (decide (wide ∨ off % 8 = 0))

/-- REGISTER_WRITE. -/
def State.regWrite (s : State) (off : Nat) (wide : Bool) (v : Nat) : State :=
  if !s.bar0On then s.unsupported
  else
    let n := if wide then 8 else 4
    if !accessOk off n then s.badAccess off n false
    else match regInfo (off / 8 * 8) with
      | none => s
      | some i => s.regStore i off wide v

/-! ### Commands that are register accesses -/

/-- A command that is a BAR0 access: unsupported while BAR0 does not answer (R309). -/
def State.viaBar0 (s : State) (f : State → State) : State := if s.bar0On then f s else s.unsupported

/-! ### Telemetry (R341) -/

/-- Entry `j` of the telemetry list: its register's offset. -/
def State.telOffset (s : State) (j : Nat) : Nat := 8 * s.regField (Off.hifTelemetryList (j / 2)) (if j % 2 = 0 then 3 else 35) 21

/-- Read the first `n` registers of the list from entry `j`. -/
def State.telRead : Nat → Nat → State → List Nat × State
  | 0, _, s => ([], s)
  | n + 1, j, s =>
    let (v, s) := s.readThrough (s.telOffset j)
    let (vs, s) := State.telRead n (j + 1) s
    (v :: vs, s)

/-- The telemetry ring, its consumer index read again when the last one leaves too little room. -/
def State.telRing (s : State) (n : Nat) : OutRing :=
  if s.hif.tel.room < n ∧ s.canIssue then { s.hif.tel with cons := Memory.readLE s.mem.host (s.doorbell 0xB008) 8 } else s.hif.tel

/-- A sample's bytes: the header entry, then eight values to an entry. -/
def telBytes (sample nowMs n : Nat) (vs : List Nat) (phase : Nat) : List Byte :=
  leBytes 8 sample ++ leBytes 8 nowMs ++ leBytes 1 n ++ List.replicate 39 0 ++ leBytes 8 (phase * 2 ^ 63) ++
  vs.flatMap (leBytes 8) ++ List.replicate (64 * ceilDiv n 8 - 8 * vs.length) 0

/-- Write entry `i` of a ring of 64-byte entries. -/
def State.putTel (s : State) (r : OutRing) (i : Nat) (bs : List Byte) : State := s.hostWrite (r.base + 64 * (i % 2 ^ r.log2)) bs

/-- TELEMETRY_SAMPLE: skipped, and nothing read, when there is too little room or in D3hot. The header entry is written last. -/
def State.telemetry (s : State) : State :=
  let n := s.regField Off.hifTelemetryCtrl 16 7
  let k := 1 + ceilDiv n 8
  let r := s.telRing k
  if s.regField Off.hifTelemetryCtrl 0 16 = 0 ∨ !s.hasFunction then s
  else if !r.live ∨ s.hif.d3 ∨ r.room < k then s.bump Off.hifTelemetryLost 1
  else
    let (vs, s) := State.telRead n 0 s
    let bs := telBytes s.hif.samples s.srv.nowMs n vs (phaseBit r.log2 r.next)
    let s := (List.range (k - 1)).foldl (fun s j => s.putTel r (r.next + 1 + j) ((bs.drop (64 * (j + 1))).take 64)) s
    let s := s.putTel r r.next (bs.take 64)
    let r := { r with next := r.next + k, prod := r.prod + k }
    let s := { s with hif := { s.hif with tel := r, samples := s.hif.samples + 1 } }
    (s.hostWrite (s.shadow 0xA008) (leBytes 8 r.prod)).msixSend r.vector

end Sys2Proof.Machine
end

