-- ==== Sys2Proof/Machine/ExecArray.lean ====
section
/-! DEFINITION. The meanings of the commands of the Array, the quantizer and the Expander (02_ternary_array.md, 03_precision_and_margins.md, 04_tiles_and_expander.md). A command that does not apply in a state leaves
it as it is. -/

namespace Sys2Proof.Machine

open Sys2Proof

/-- FEED (R40). -/
def execFeed (u : Cr) (o : FeedOp) (s : State) : Host.Outcome State Fault Refusal := .next (s.feedCmd u o)

/-- SWAP_AFTER_LOAD (R36). -/
def execSwapAfterLoad (u : Cr) (waited : Nat) (s : State) : Host.Outcome State Fault Refusal := .next (s.swapAfterLoad u waited)

/-- PLANE_PARITY_CHECK (R61). -/
def execPlaneParityCheck (u : Cr) (s : State) : Host.Outcome State Fault Refusal := .next (s.parityCheck u.idx)

/-- QUANT (R66). -/
def execQuant (u : Cr) (o : QuantOp) (s : State) : Host.Outcome State Fault Refusal := .next (s.quantCmd u o)

/-- EXP_TILE (R106). -/
def execExpTile (u : Cr) (o : ExpTileOp) (s : State) : Host.Outcome State Fault Refusal := .next (s.expItem u (.expTile o))

/-- EXP_PLANES (R112). -/
def execExpPlanes (u : Cr) (o : ExpPlanesOp) (s : State) : Host.Outcome State Fault Refusal := .next (s.expItem u (.expPlanes o))

/-- EXP_ACT (R115). -/
def execExpAct (u : Cr) (o : ExpActOp) (s : State) : Host.Outcome State Fault Refusal := .next (s.expItem u (.expAct o))

/-- EXP_BF16 (R116). -/
def execExpBf16 (u : Cr) (o : ExpBf16Op) (s : State) : Host.Outcome State Fault Refusal := .next (s.expItem u (.expBf16 o))

/-- EXP_LOAD (R110). -/
def execExpLoad (u : Cr) (o : ExpLoadOp) (s : State) : Host.Outcome State Fault Refusal := .next (s.expLoad u o)

/-- EXP_CBLOAD (R104). -/
def execExpCbload (u : Cr) (o : ExpCbloadOp) (s : State) : Host.Outcome State Fault Refusal := .next (s.expCbload u o)

/-- CODEBOOK_READ (R102). -/
def execCodebookRead (u : Cr) (s : State) : Host.Outcome State Fault Refusal := .next (s.codebookServe u)

/-- LOC_PACK (R115). -/
def execLocPack (u : Cr) (o : LocPackOp) (s : State) : Host.Outcome State Fault Refusal := .next (s.locPack u o)

/-- EXP_QUEUE_ENTRY_FREE (R107). -/
def execExpQueueEntryFree (u : Cr) (s : State) : Host.Outcome State Fault Refusal := .next (s.expEntryFree u)

/-- EXP_READER_PHASE_START (R108). -/
def execExpReaderPhaseStart (u : Cr) (s : State) : Host.Outcome State Fault Refusal := .next (s.readerStart u)

/-- EXP_EXPAND_PHASE_START (R108). -/
def execExpExpandPhaseStart (u : Cr) (s : State) : Host.Outcome State Fault Refusal := .next (s.expandStart u)

/-- EXP_ITEM_COMPLETE (R108). -/
def execExpItemComplete (e : CrAt) (s : State) : Host.Outcome State Fault Refusal := .next ((s.runTo e.cr.w e.cycle.toNat).itemComplete e.cr)

/-- EXP_ITEM_DUE (R109). -/
def execExpItemDue (u : Cr) (s : State) : Host.Outcome State Fault Refusal := .next (s.itemDue u)

/-- BACK_PLANE_LOAD_COMPLETE (R34). -/
def execBackPlaneLoadComplete (e : CrAt) (s : State) : Host.Outcome State Fault Refusal := .next ((s.runTo e.cr.w e.cycle.toNat).loadComplete e.cr)

end Sys2Proof.Machine
end

