-- ==== Sys2Proof/Machine/ExecDesc.lean ====
section
/-! DEFINITION. The meanings of the commands of descriptors (11_host_interface.md, 14_boot_firmware_security.md). A command that does not apply in a state leaves
it as it is. -/

namespace Sys2Proof.Machine

open Sys2Proof

/-- Whether an opcode is one of R326 or R423. -/
def definedOpcode (opcode : BitVec 8) : Bool :=
  match readOperands opcode.toNat 0 with
  | .undefined _ => false
  | _ => true

/-- NOP (R326). -/
def execNop (d : Desc) (s : State) : Host.Outcome State Fault Refusal := .next ((s.deliverOp d .nop).finish)

/-- RING_CREATE (R327). -/
def execRingCreate (d : Desc) (o : RingCreateOp) (s : State) : Host.Outcome State Fault Refusal := .next ((s.deliverOp d (.ringCreate o)).finish)

/-- RING_DESTROY (R327). -/
def execRingDestroy (d : Desc) (kind : BitVec 2) (s : State) : Host.Outcome State Fault Refusal := .next ((s.deliverOp d (.ringDestroy kind)).finish)

/-- RING_RESET (R328). -/
def execRingReset (d : Desc) (s : State) : Host.Outcome State Fault Refusal := .next ((s.deliverOp d .ringReset).finish)

/-- HOST_WINDOW (R329). -/
def execHostWindow (d : Desc) (o : HostWindowOp) (s : State) : Host.Outcome State Fault Refusal := .next ((s.deliverOp d (.hostWindow o)).finish)

/-- TENANT_QUOTA (R329). -/
def execTenantQuota (d : Desc) (o : QuotaOp) (s : State) : Host.Outcome State Fault Refusal := .next ((s.deliverOp d (.tenantQuota o)).finish)

/-- TENANT_RULES (R250). -/
def execTenantRules (d : Desc) (weight : BitVec 8) (s : State) : Host.Outcome State Fault Refusal := .next ((s.deliverOp d (.tenantRules weight)).finish)

/-- STOPSET_WRITE (R249). -/
def execStopsetWrite (d : Desc) (src : BitVec 48) (x : Ext) (s : State) : Host.Outcome State Fault Refusal := .next ((s.deliverOp d (.stopsetWrite src x)).finish)

/-- LESSON_INSTALL (R330). -/
def execLessonInstall (d : Desc) (o : LessonInstallOp) (x : Ext) (s : State) : Host.Outcome State Fault Refusal := .next ((s.deliverOp d (.lessonInstall o x)).finish)

/-- LESSON_REMOVE (R330). -/
def execLessonRemove (d : Desc) (wings : BitVec 4) (s : State) : Host.Outcome State Fault Refusal := .next ((s.deliverOp d (.lessonRemove wings)).finish)

/-- MEM_CLASS (R331). -/
def execMemClass (d : Desc) (o : MemClassOp) (s : State) : Host.Outcome State Fault Refusal := .next ((s.deliverOp d (.memClass o)).finish)

/-- KV_POOL (R332). -/
def execKvPool (d : Desc) (o : KvPoolOp) (s : State) : Host.Outcome State Fault Refusal := .next ((s.deliverOp d (.kvPool o)).finish)

/-- MEM_COPY (R333). -/
def execMemCopy (d : Desc) (o : MemCopyOp) (x : Ext) (s : State) : Host.Outcome State Fault Refusal := .next ((s.deliverOp d (.memCopy o x)).finish)

/-- MODEL_LOAD (R289). -/
def execModelLoad (d : Desc) (o : ModelLoadOp) (x : Ext) (s : State) : Host.Outcome State Fault Refusal := .next ((s.deliverOp d (.modelLoad o x)).finish)

/-- MODEL_UNLOAD (R288). -/
def execModelUnload (d : Desc) (s : State) : Host.Outcome State Fault Refusal := .next ((s.deliverOp d .modelUnload).finish)

/-- MODEL_GOLDEN (R288). -/
def execModelGolden (d : Desc) (golden golden2 : BitVec 48) (s : State) : Host.Outcome State Fault Refusal := .next ((s.deliverOp d (.modelGolden golden golden2)).finish)

/-- MODEL_QUERY (R288). -/
def execModelQuery (d : Desc) (q : QueryIn) (s : State) : Host.Outcome State Fault Refusal := .next ((s.deliverOp d (.modelQuery q.dst q.x)).finish)

/-- MSET_INSTALL (R293). -/
def execMsetInstall (d : Desc) (o : MsetInstallOp) (x : Ext) (s : State) : Host.Outcome State Fault Refusal := .next ((s.deliverOp d (.msetInstall o x)).finish)

/-- MSET_REMOVE (R293). -/
def execMsetRemove (d : Desc) (set : BitVec 16) (s : State) : Host.Outcome State Fault Refusal := .next ((s.deliverOp d (.msetRemove set)).finish)

/-- MSET_QUERY (R293). -/
def execMsetQuery (d : Desc) (q : QueryIn) (s : State) : Host.Outcome State Fault Refusal := .next ((s.deliverOp d (.msetQuery q.dst q.x)).finish)

/-- SESSION_OPEN (R251). -/
def execSessionOpen (d : Desc) (o : SessionOpenOp) (s : State) : Host.Outcome State Fault Refusal := .next ((s.deliverOp d (.sessionOpen o)).finish)

/-- TURN (R251). -/
def execTurn (d : Desc) (o : TurnOp) (x : Ext) (s : State) : Host.Outcome State Fault Refusal := .next ((s.deliverOp d (.turn o x)).finish)

/-- ABORT_TURN (R252). -/
def execAbortTurn (d : Desc) (s : State) : Host.Outcome State Fault Refusal := .next ((s.deliverOp d .abortTurn).finish)

/-- PAUSE (R270). -/
def execPause (d : Desc) (o : PauseOp) (s : State) : Host.Outcome State Fault Refusal := .next ((s.deliverOp d (.pause o)).finish)

/-- RESUME (R271). -/
def execResume (d : Desc) (s : State) : Host.Outcome State Fault Refusal := .next ((s.deliverOp d .resume).finish)

/-- SESSION_END (R251). -/
def execSessionEnd (d : Desc) (s : State) : Host.Outcome State Fault Refusal := .next ((s.deliverOp d .sessionEnd).finish)

/-- SESSION_REWIND (R335). -/
def execSessionRewind (d : Desc) (count : BitVec 32) (s : State) : Host.Outcome State Fault Refusal := .next ((s.deliverOp d (.sessionRewind count)).finish)

/-- SESSION_QUERY (R326). -/
def execSessionQuery (d : Desc) (q : QueryIn) (s : State) : Host.Outcome State Fault Refusal := .next ((s.deliverOp d (.sessionQuery q.dst q.x)).finish)

/-- UNDEFINED_OPCODE (R326). An opcode that is defined is no such descriptor. -/
def execUndefinedOpcode (d : Desc) (opcode : BitVec 8) (s : State) : Host.Outcome State Fault Refusal := .next (if definedOpcode opcode then s else (s.deliverOp d (.undefined opcode)).finish)

/-- FW_QUERY (R423). -/
def execFwQuery (d : Desc) (q : QueryIn) (s : State) : Host.Outcome State Fault Refusal := .next ((s.deliverOp d (.fwQuery q.dst q.x)).finish)

/-- FW_STAGE (R425). -/
def execFwStage (d : Desc) (o : StageOp) (x : Ext) (s : State) : Host.Outcome State Fault Refusal := .next ((s.deliverOp d (.fwStage o x)).finish)

/-- FW_ACTIVATE (R423). -/
def execFwActivate (d : Desc) (bank : Bool) (s : State) : Host.Outcome State Fault Refusal := .next ((s.deliverOp d (.fwActivate bank)).finish)

/-- FW_COMMIT (R426). -/
def execFwCommit (d : Desc) (kind : BitVec 8) (s : State) : Host.Outcome State Fault Refusal := .next ((s.deliverOp d (.fwCommit kind)).finish)

/-- RBK_FW_STAGE (R427). -/
def execRbkFwStage (d : Desc) (o : StageOp) (x : Ext) (s : State) : Host.Outcome State Fault Refusal := .next ((s.deliverOp d (.rbkFwStage o x)).finish)

/-- OWNER_ENROLL (R428). -/
def execOwnerEnroll (d : Desc) (src : BitVec 48) (x : Ext) (s : State) : Host.Outcome State Fault Refusal := .next ((s.deliverOp d (.ownerEnroll src x)).finish)

/-- CONFIG_WRITE (R428). -/
def execConfigWrite (d : Desc) (src : BitVec 48) (x : Ext) (s : State) : Host.Outcome State Fault Refusal := .next ((s.deliverOp d (.configWrite src x)).finish)

/-- PERMIT_INSTALL (R429). -/
def execPermitInstall (d : Desc) (src : BitVec 48) (x : Ext) (s : State) : Host.Outcome State Fault Refusal := .next ((s.deliverOp d (.permitInstall src x)).finish)

/-- PERMIT_REVOKE (R429). -/
def execPermitRevoke (d : Desc) (s : State) : Host.Outcome State Fault Refusal := .next ((s.deliverOp d .permitRevoke).finish)

/-- PERMIT_EXPIRY (R429). -/
def execPermitExpiry (s : State) : Host.Outcome State Fault Refusal := .next (s.permitExpire)

end Sys2Proof.Machine
end

