-- ==== Sys2Proof/Machine/ExecFabric.lean ====
section
/-! DEFINITION. The meanings of the commands of the Corridor fabric and Assembly (12_corridor_fabric.md). A command that does not apply in a state leaves
it as it is. -/

namespace Sys2Proof.Machine

open Sys2Proof

/-- CORRIDOR_WRITE (R354). -/
def execCorridorWrite (p : Packet) (s : State) : Host.Outcome State Fault Refusal := .next ((s.corridorData p 0).finish)

/-- CORRIDOR_READ_REQ (R354). -/
def execCorridorReadReq (p : Packet) (s : State) : Host.Outcome State Fault Refusal := .next ((s.corridorData p 1).finish)

/-- CORRIDOR_READ_RESP (R354). -/
def execCorridorReadResp (p : Packet) (s : State) : Host.Outcome State Fault Refusal := .next ((s.corridorData p 2).finish)

/-- CORRIDOR_ASM (R367). -/
def execCorridorAsm (p : Packet) (s : State) : Host.Outcome State Fault Refusal := .next ((s.corridorData p 3).finish)

/-- CORRIDOR_ACK (R356). -/
def execCorridorAck (p : Packet) (s : State) : Host.Outcome State Fault Refusal := .next (s.corridorAckPkt p)

/-- CORRIDOR_NAK (R357). -/
def execCorridorNak (p : Packet) (s : State) : Host.Outcome State Fault Refusal := .next (s.corridorNakPkt p)

/-- FOREIGN_FRAME (R349). -/
def execForeignFrame (port : Fin 16) (s : State) : Host.Outcome State Fault Refusal := .next (s.foreignFrameIn port.val)

/-- ACK_TIMER (R356). -/
def execAckTimer (ctx : BitVec 12) (s : State) : Host.Outcome State Fault Refusal := .next (s.ackTimerTick ctx.toNat)

/-- RTO_EXPIRY (R357). -/
def execRtoExpiry (ctx : BitVec 12) (s : State) : Host.Outcome State Fault Refusal := .next (s.rtoExpire ctx.toNat)

/-- RATE_UPDATE (R359). -/
def execRateUpdate (ctx : BitVec 12) (s : State) : Host.Outcome State Fault Refusal := .next (s.rateTick ctx.toNat)

/-- INJECT_DELAY_EXPIRY (R372). -/
def execInjectDelayExpiry (ctx : BitVec 12) (s : State) : Host.Outcome State Fault Refusal := .next (s.delayEnd ctx.toNat)

/-- PFC_PAUSE_RECEIVED (R348). -/
def execPfcPauseReceived (port : Fin 16) (on : Bool) (s : State) : Host.Outcome State Fault Refusal := .next (s.pfcPause port.val on)

/-- PORT_LINK_DOWN (R373). -/
def execPortLinkDown (port : Fin 16) (s : State) : Host.Outcome State Fault Refusal := .next (s.portDown port.val)

/-- PORT_LINK_UP (R373). -/
def execPortLinkUp (port : Fin 16) (s : State) : Host.Outcome State Fault Refusal := .next (s.linkUp port.val)

/-- CDC_REALIGN (R396). -/
def execCdcRealign (port : Option (Fin 16)) (dropped : Nat) (s : State) : Host.Outcome State Fault Refusal := .next (s.realigned port dropped)

/-- CTX_WRITE (R353). -/
def execCtxWrite (s : State) : Host.Outcome State Fault Refusal := .next (s.viaBar0 State.ctxWriteCmd)

/-- CTX_READ (R353). -/
def execCtxRead (s : State) : Host.Outcome State Fault Refusal := .next (s.viaBar0 State.ctxReadCmd)

/-- CTX_FREE (R353). -/
def execCtxFree (s : State) : Host.Outcome State Fault Refusal := .next (s.viaBar0 State.ctxFreeCmd)

/-- ASM_GROUP_ENABLE (R361). -/
def execAsmGroupEnable (g : Fin 16) (s : State) : Host.Outcome State Fault Refusal := .next (s.viaBar0 (fun s => s.groupEnable g.val))

/-- ASM_GROUP_DISABLE (R367). -/
def execAsmGroupDisable (g : Fin 16) (s : State) : Host.Outcome State Fault Refusal := .next (s.viaBar0 (fun s => s.groupDisable g.val))

/-- BARRIER (R368). -/
def execBarrier (g : Fin 16) (s : State) : Host.Outcome State Fault Refusal := .next (s.startReq g.val 0)

/-- SUM_I32 (R369). -/
def execSumI32 (g : Fin 16) (s : State) : Host.Outcome State Fault Refusal := .next (s.startReq g.val 1)

/-- SUM_F32 (R369). -/
def execSumF32 (g : Fin 16) (s : State) : Host.Outcome State Fault Refusal := .next (s.startReq g.val 2)

/-- SUM_BF16 (R369). -/
def execSumBf16 (g : Fin 16) (s : State) : Host.Outcome State Fault Refusal := .next (s.startReq g.val 3)

/-- TOPK (R370). -/
def execTopk (g : Fin 16) (s : State) : Host.Outcome State Fault Refusal := .next (s.startReq g.val 4)

/-- BCAST (R370). -/
def execBcast (g : Fin 16) (s : State) : Host.Outcome State Fault Refusal := .next (s.startReq g.val 5)

/-- ASM_COMPLETE (R364). -/
def execAsmComplete (g : Fin 16) (s : State) : Host.Outcome State Fault Refusal := .next (s.asmCompleteCmd g.val)

end Sys2Proof.Machine
end

