-- ==== Sys2Proof/Machine/ExecHost.lean ====
section
/-! DEFINITION. The meanings of the commands of the host interface (11_host_interface.md). A command that does not apply in a state leaves
it as it is. -/

namespace Sys2Proof.Machine

open Sys2Proof

/-- HM_POLL (R315). -/
def execHmPoll (p : PollIn) (s : State) : Host.Outcome State Fault Refusal := .next ((s.hmPoll p).finish)

/-- MSIX_MODERATION_CHECK (R337). -/
def execMsixModerationCheck (s : State) : Host.Outcome State Fault Refusal := .next (s.moderationCheck)

/-- TELEMETRY_SAMPLE (R341). -/
def execTelemetrySample (s : State) : Host.Outcome State Fault Refusal := .next (s.telemetry)

/-- HEARTBEAT_WRITE (R342). -/
def execHeartbeatWrite (s : State) : Host.Outcome State Fault Refusal := .next (s.heartbeat)

/-- HIF_ENABLE (R491). -/
def execHifEnable (s : State) : Host.Outcome State Fault Refusal := .next (s.viaBar0 State.hifEnableCmd)

/-- BUS_MASTER_ENABLE_CHANGE (R308). -/
def execBusMasterEnableChange (on : Bool) (s : State) : Host.Outcome State Fault Refusal := .next ((s.setBme on).finish)

/-- D3HOT_ENTRY (R309). -/
def execD3hotEntry (s : State) : Host.Outcome State Fault Refusal := .next (s.enterD3)

/-- D0_ENTRY (R309). -/
def execD0Entry (s : State) : Host.Outcome State Fault Refusal := .next (s.enterD0.finish)

/-- FULL_RESET (R344). -/
def execFullReset (r : ResetSource) (s : State) : Host.Outcome State Fault Refusal := .next (s.fullReset r)

/-- MSIX_VECTOR_UNMASK (R337), and every other access to BAR4 (R304). -/
def execMsixVectorUnmask (a : Bar4In) (s : State) : Host.Outcome State Fault Refusal := .next (s.bar4 a)

end Sys2Proof.Machine
end

