-- ==== Sys2Proof/Machine/ExecMemory.lean ====
section
/-! DEFINITION. The meanings of the commands of HBM and the tier-move engine (07_memory_tiers.md). A command that does not apply in a state leaves
it as it is. -/

namespace Sys2Proof.Machine

open Sys2Proof

/-- HBM_SCRUB_READ (R201). -/
def execHbmScrubRead (stack : Fin 32) (pc : Fin 64) (s : State) : Host.Outcome State Fault Refusal := .next ((s.hbmScrub stack pc.val).finish)

/-- MEM_BUDGET_WINDOW (R205). -/
def execMemBudgetWindow (stack : Fin 32) (s : State) : Host.Outcome State Fault Refusal := .next (s.budgetWindow stack)

/-- TIER_MOVE_REQUEST (R213). -/
def execTierMoveRequest (s : State) : Host.Outcome State Fault Refusal := .next (s.moveBegin.finish)

/-- TIER_MOVE_UNIT_DONE (R213). -/
def execTierMoveUnitDone (x : Ext) (s : State) : Host.Outcome State Fault Refusal := .next ((s.moveUnit x).finish)

/-- CLASS_CHANGE_DONE (R197). -/
def execClassChangeDone (s : State) : Host.Outcome State Fault Refusal := .next (s.classChangeDone.finish)

/-- MEM_COPY_DONE (R333). -/
def execMemCopyDone (s : State) : Host.Outcome State Fault Refusal := .next (s.memCopyDone.finish)

end Sys2Proof.Machine
end

