-- ==== Sys2Proof/Machine/ExecPower.lean ====
section
/-! DEFINITION. The meanings of the commands of supplies, module states, power and the module's faults (13_power_clocks_resets.md, 14_boot_firmware_security.md, 16_ledgers_and_faults.md, 18_electrical_mechanical.md). A command that does not apply in a state leaves
it as it is. -/

namespace Sys2Proof.Machine

open Sys2Proof

/-- MAIN_INPUT_VALID (R377). -/
def execMainInputValid (s : State) : Host.Outcome State Fault Refusal := .next (s.mainValid)

/-- MAIN_INPUT_LOSS (R377). -/
def execMainInputLoss (s : State) : Host.Outcome State Fault Refusal := .next (s.mainLoss)

/-- STANDBY_LOSS (R475). -/
def execStandbyLoss (s : State) : Host.Outcome State Fault Refusal := .next (s.standbyLoss)

/-- STANDBY_POWER_ON (R398). -/
def execStandbyPowerOn (s : State) : Host.Outcome State Fault Refusal := .next (s.standbyOn)

/-- PERST_DEASSERT (R377). -/
def execPerstDeassert (s : State) : Host.Outcome State Fault Refusal := .next (s.perstOff)

/-- THERMAL_TRIP (R392). Any die's temperature trips the module alike. -/
def execThermalTrip (_die : Fin 5) (s : State) : Host.Outcome State Fault Refusal := .next (s.thermalTrip)

/-- DAWN_BOOT (R415). -/
def execDawnBoot (b : BootIn) (s : State) : Host.Outcome State Fault Refusal := .next (s.dawnBoot b.seed b.link)

/-- MORNING_BRINGUP (R418). -/
def execMorningBringup (m : MorningIn) (s : State) : Host.Outcome State Fault Refusal := .next ((s.morningBringup m).finish)

/-- ROLLBOOK_INFO_TIMEOUT (R418). -/
def execRollbookInfoTimeout (s : State) : Host.Outcome State Fault Refusal := .next (s.infoTimeout.finish)

/-- READY_SET (R378). -/
def execReadySet (s : State) : Host.Outcome State Fault Refusal := .next (s.readySet.finish)

/-- TARGET_DAY (R377). -/
def execTargetDay (s : State) : Host.Outcome State Fault Refusal := .next (s.viaBar0 (fun s => (s.setTarget 3).finish))

/-- TARGET_NIGHT (R379). -/
def execTargetNight (s : State) : Host.Outcome State Fault Refusal := .next (s.viaBar0 (fun s => (s.setTarget 5).finish))

/-- DUSK_DRAIN_COMPLETE (R381). -/
def execDuskDrainComplete (s : State) : Host.Outcome State Fault Refusal := .next (s.drainDone.finish)

/-- DUSK_TIMEOUT (R380). -/
def execDuskTimeout (s : State) : Host.Outcome State Fault Refusal := .next (s.duskTimeout)

/-- RECESS_ENTRY (R385). -/
def execRecessEntry (u : Cr) (us : Nat) (s : State) : Host.Outcome State Fault Refusal := .next (s.recess u us)

/-- HOLIDAY_ENTRY (R385). -/
def execHolidayEntry (u : Cr) (ms : Nat) (s : State) : Host.Outcome State Fault Refusal := .next (s.holiday u ms)

/-- POWER_SAMPLE (R391). -/
def execPowerSample (p : PowerIn) (s : State) : Host.Outcome State Fault Refusal := .next (s.powerTick p)

/-- DROOP_TRIP (R390). -/
def execDroopTrip (u : Cr) (s : State) : Host.Outcome State Fault Refusal := .next (s.droopTrip u)

/-- DROOP_RELEASE (R390). -/
def execDroopRelease (w : Wing) (total clear : Nat) (s : State) : Host.Outcome State Fault Refusal := .next (s.droopRelease w total clear)

/-- LINK_CREDIT_AUDIT (R453). -/
def execLinkCreditAudit (a : Audit) (s : State) : Host.Outcome State Fault Refusal := .next ((s.creditAudit a).finish)

/-- FLIT_RESEND (R453). -/
def execFlitResend (link : Fin 8) (n : Nat) (s : State) : Host.Outcome State Fault Refusal := .next ((s.flitResend link n).finish)

/-- STACK_TRAINING_LOSS (R462). -/
def execStackTrainingLoss (stack : Fin 32) (s : State) : Host.Outcome State Fault Refusal := .next ((s.trainingLoss stack).finish)

/-- STEP_WATCHDOG (R462). -/
def execStepWatchdog (s : State) : Host.Outcome State Fault Refusal := .next (s.watchdog.finish)

/-- DIE_TO_DIE_LINK_DOWN (R462). -/
def execDieToDieLinkDown (link : Fin 8) (us : Nat) (s : State) : Host.Outcome State Fault Refusal := .next ((s.linkStaysDown link us).finish)

end Sys2Proof.Machine
end

