-- ==== Sys2Proof/Machine/ExecRegs.lean ====
section
/-! DEFINITION. The meanings of the commands of BAR0 registers and commit groups (00_scope.md, 13_power_clocks_resets.md). A command that does not apply in a state leaves
it as it is. -/

namespace Sys2Proof.Machine

open Sys2Proof

/-- REGISTER_WRITE (R11). Other registers than those with a row of their own act as R11 and their chapters give; a write that names one of those acts as its row. -/
def execRegisterWrite (off : BitVec 24) (wide : Bool) (value : BitVec 64) (s : State) : Host.Outcome State Fault Refusal := .next (s.regWrite off.toNat wide value.toNat)

/-- REGISTER_ACCESS_ERROR (R10). -/
def execRegisterAccessError (off : BitVec 24) (bytes : Nat) (read : Bool) (s : State) : Host.Outcome State Fault Refusal := .next (s.accessError off.toNat bytes read)

/-- RC_COUNTER_READ (R11); reads of other registers are answered as R9 and R11 give. -/
def execRcCounterRead (r : CounterRead) (s : State) : Host.Outcome State Fault Refusal := .next (s.regRead r.off.toNat r.wide)

/-- GLB_COMMIT (R401). -/
def execGlbCommit (value : BitVec 64) (s : State) : Host.Outcome State Fault Refusal := .next (s.viaBar0 (fun s => s.glbCommit value.toNat))

/-- COMMIT_APPLIED (R401). -/
def execCommitApplied (group : BitVec 3) (s : State) : Host.Outcome State Fault Refusal := .next (s.commitApplied group.toNat)

end Sys2Proof.Machine
end

