-- ==== Sys2Proof/Machine/ExecSecure.lean ====
section
/-! DEFINITION. The meanings of the commands of attestation, sensors and the Rollbook (14_boot_firmware_security.md, 15_rollbook.md, 18_electrical_mechanical.md). A command that does not apply in a state leaves
it as it is. -/

namespace Sys2Proof.Machine

open Sys2Proof

/-- SPDM_GET_VERSION (R430). -/
def execSpdmGetVersion (t : Transport) (s : State) : Host.Outcome State Fault Refusal := .next (s.spdmVersion t)

/-- SPDM_GET_CAPABILITIES (R430). -/
def execSpdmGetCapabilities (t : Transport) (s : State) : Host.Outcome State Fault Refusal := .next (s.spdmCapabilities t)

/-- SPDM_NEGOTIATE_ALGORITHMS (R430). -/
def execSpdmNegotiateAlgorithms (t : Transport) (p256 sha256 : Bool) (s : State) : Host.Outcome State Fault Refusal := .next (s.spdmAlgorithms t p256 sha256)

/-- SPDM_GET_DIGESTS (R430). -/
def execSpdmGetDigests (t : Transport) (s : State) : Host.Outcome State Fault Refusal := .next (s.spdmDigests t)

/-- SPDM_GET_CERTIFICATE (R430). -/
def execSpdmGetCertificate (t : Transport) (slot : BitVec 8) (offset length : BitVec 16) (s : State) : Host.Outcome State Fault Refusal := .next (s.spdmCertificate t slot offset length)

/-- SPDM_CHALLENGE (R430). -/
def execSpdmChallenge (t : Transport) (slot : BitVec 8) (nonce : BitVec 256) (s : State) : Host.Outcome State Fault Refusal := .next (s.spdmChallenge t slot nonce)

/-- SPDM_GET_MEASUREMENTS (R431). -/
def execSpdmGetMeasurements (t : Transport) (index : BitVec 8) (signed : Bool) (slot : BitVec 8) (nonce : BitVec 256) (s : State) : Host.Outcome State Fault Refusal := .next (s.spdmMeasurements t index signed slot nonce)

/-- SPDM_UNSUPPORTED (R430). -/
def execSpdmUnsupported (t : Transport) (_code : BitVec 8) (s : State) : Host.Outcome State Fault Refusal := .next (s.spdmOther t)

/-- PLDM_GET_SENSOR_READING (R481). -/
def execPldmGetSensorReading (q : SensorQuery) (s : State) : Host.Outcome State Fault Refusal := .next (s.pldmReading q)

/-- PLDM_BASE_COMMAND (R481). -/
def execPldmBaseCommand (m : SidebandIn) (s : State) : Host.Outcome State Fault Refusal := .next (s.pldmBase m)

/-- MCTP_UNSUPPORTED_TYPE (R481). -/
def execMctpUnsupportedType (m : SidebandIn) (s : State) : Host.Outcome State Fault Refusal := .next (s.mctpOther m)

/-- SENSOR_THRESHOLD_CHANGE (R479). -/
def execSensorThresholdChange (r : Reading) (s : State) : Host.Outcome State Fault Refusal := .next (s.sensorChange r)

/-- TALLY_MESSAGE (R439). -/
def execTallyMessage (m : List Byte) (s : State) : Host.Outcome State Fault Refusal := .next (s.tallyMessage m)

/-- ENERGY_SAMPLE (R441). -/
def execEnergySample (mv ma : Nat) (s : State) : Host.Outcome State Fault Refusal := .next (s.energySample mv ma)

/-- ENERGY_JOURNAL (R442). -/
def execEnergyJournal (s : State) : Host.Outcome State Fault Refusal := .next (s.energyJournal)

/-- RBK_REPORT (R445). -/
def execRbkReport (s : State) : Host.Outcome State Fault Refusal := .next (s.rbkReport)

/-- RBK_READ_LOG (R444). -/
def execRbkReadLog (s : State) : Host.Outcome State Fault Refusal := .next (s.rbkReadLog)

/-- RBK_GET_CERT (R444). -/
def execRbkGetCert (s : State) : Host.Outcome State Fault Refusal := .next (s.rbkGetCert)

/-- RBK_INFO (R444). -/
def execRbkInfo (s : State) : Host.Outcome State Fault Refusal := .next (s.rbkInfo)

/-- RBK_CMD_TIMEOUT (R444). -/
def execRbkCmdTimeout (s : State) : Host.Outcome State Fault Refusal := .next (s.rbkTimeout)

/-- RBK_FW_APPLY (R447). -/
def execRbkFwApply (a : RbkApply) (s : State) : Host.Outcome State Fault Refusal := .next ((s.rbkFwApply a).finish)

/-- RBK_WATCHDOG (R447). -/
def execRbkWatchdog (lostMs : Nat) (s : State) : Host.Outcome State Fault Refusal := .next (s.rbkWatchdog lostMs)

/-- HEADER_CONNECT (R443). -/
def execHeaderConnect (s : State) : Host.Outcome State Fault Refusal := .next (s.headerConnect)

/-- RBK_RESEAL (R443). -/
def execRbkReseal (signed : Bool) (s : State) : Host.Outcome State Fault Refusal := .next (s.rbkReseal signed)

/-- RBK_CALIBRATION (R442). -/
def execRbkCalibration (record : List Byte) (signed : Bool) (s : State) : Host.Outcome State Fault Refusal := .next (s.rbkCalibrate record signed)

/-- RBK_LOG_POLL (R448). -/
def execRbkLogPoll (answered : Bool) (s : State) : Host.Outcome State Fault Refusal := .next (s.rbkLogPoll answered)

end Sys2Proof.Machine
end

