-- ==== Sys2Proof/Machine/ExecServe.lean ====
section
/-! DEFINITION. The meanings of the commands of serving between and around steps (08_attention_and_kv.md, 09_serving.md, 10_models_and_margin_sets.md). A command that does not apply in a state leaves
it as it is. -/

namespace Sys2Proof.Machine

open Sys2Proof

/-- TRAY_FLUSH (R239). -/
def execTrayFlush (s : State) : Host.Outcome State Fault Refusal := .next (s.trayFlush.finish)

/-- ROSTER_BUILD (R254). -/
def execRosterBuild (x : Ext) (s : State) : Host.Outcome State Fault Refusal := .next ((s.rosterBuild x).finish)

/-- STEP_START (R256). -/
def execStepStart (us : Nat) (s : State) : Host.Outcome State Fault Refusal := .next ((s.stepStart us).finish)

/-- MS_TICK (R393). -/
def execMsTick (n : Nat) (s : State) : Host.Outcome State Fault Refusal := .next (s.msTick n)

/-- PAUSE_EXPIRY_CHECK (R272). -/
def execPauseExpiryCheck (s : State) : Host.Outcome State Fault Refusal := .next (s.pauseExpiry.finish)

/-- CHUNK_REPAIR (R298). -/
def execChunkRepair (x : Ext) (s : State) : Host.Outcome State Fault Refusal := .next ((s.chunkRepair x).finish)

/-- BUCKET_REBUILD (R460). -/
def execBucketRebuild (s : State) : Host.Outcome State Fault Refusal := .next (s.rebuildBucket.finish)

end Sys2Proof.Machine
end

