-- ==== Sys2Proof/Machine/ExecTimetable.lean ====
section
/-! DEFINITION. The meanings of the commands of the Timetable and the Movers (05_timetable.md). A command that does not apply in a state leaves
it as it is. -/

namespace Sys2Proof.Machine

open Sys2Proof

/-- A ring of Bell `n` by Wing `w`'s lesson: counted in every Wing, and a request starts in each group whose START_BELL it is (R147, R364). -/
def State.ringBell (s : State) (w : Wing) (n : Nat) : State :=
  if s.itemHeld w (.ring n) then s else (s.bellRing w n).startRings w n (s.takeItem w (.ring n)).1

/-- WING_STEP_START (R127). -/
def execWingStepStart (w : Wing) (r : StartRec) (s : State) : Host.Outcome State Fault Refusal := .next (s.wingStart w r)

/-- PERIOD_WORD_DISPATCH (R129). -/
def execPeriodWordDispatch (p : DispatchIn) (s : State) : Host.Outcome State Fault Refusal := .next (s.dispatchWord p.w p.waits)

/-- LOOP (R140). -/
def execLoop (w : Wing) (o : LoopOp) (s : State) : Host.Outcome State Fault Refusal := .next (s.loopOp w o)

/-- CALL (R142). -/
def execCall (w : Wing) (o : CallOp) (s : State) : Host.Outcome State Fault Refusal := .next (s.callOp w o)

/-- BELL_RING (R147). A ring of START_BELL also starts a request of each group it names (R364). -/
def execBellRing (w : Wing) (n : BitVec 6) (s : State) : Host.Outcome State Fault Refusal := .next (State.ringBell s w n.toNat)

/-- BELL_WAIT (R147). -/
def execBellWait (w : Wing) (n : BitVec 6) (target : BitVec 16) (s : State) : Host.Outcome State Fault Refusal := .next (s.bellWaitOp w n.toNat target.toNat)

/-- BELL_TIMEOUT (R149). -/
def execBellTimeout (w : Wing) (s : State) : Host.Outcome State Fault Refusal := .next (s.bellTimeout w)

/-- HOLD_REQUEST (R143). -/
def execHoldRequest (w : Wing) (cause : HoldCause) (room : Option Room) (s : State) : Host.Outcome State Fault Refusal := .next (s.holdRequest w cause room)

/-- TIMETABLE_RESUME (R144). -/
def execTimetableResume (w : Wing) (h : HeldCycles) (s : State) : Host.Outcome State Fault Refusal := .next (s.resume w h)

/-- REPLAY_POINT (R151). -/
def execReplayPoint (w : Wing) (s : State) : Host.Outcome State Fault Refusal := .next (s.replayPoint w)

/-- CHECK_POINT_WORD (R150). -/
def execCheckPointWord (w : Wing) (s : State) : Host.Outcome State Fault Refusal := .next (s.checkWord w)

/-- CHECK_VOTE (R78). -/
def execCheckVote (w : Wing) (s : State) : Host.Outcome State Fault Refusal := .next (s.checkVoteCmd w)

/-- CHECK_POINT_VERDICT (R76). -/
def execCheckPointVerdict (s : State) : Host.Outcome State Fault Refusal := .next (s.checkVerdict.finish)

/-- VERDICT_RECEIVED (R78). -/
def execVerdictReceived (w : Wing) (s : State) : Host.Outcome State Fault Refusal := .next (s.verdictReceived w)

/-- COMMIT_POINT_WORD (R154). -/
def execCommitPointWord (w : Wing) (s : State) : Host.Outcome State Fault Refusal := .next (s.commitWord w)

/-- COMMIT_DECISION (R154). -/
def execCommitDecision (s : State) : Host.Outcome State Fault Refusal := .next (s.commitDecision.finish)

/-- MOV_COPY (R134). -/
def execMovCopy (m : MoverId) (o : MovCopyOp) (s : State) : Host.Outcome State Fault Refusal := .next (s.moverOp m (.movCopy o))

/-- MOV_ITEM (R134). -/
def execMovItem (m : MoverId) (o : MovItemOp) (s : State) : Host.Outcome State Fault Refusal := .next (s.moverOp m (.movItem o))

/-- MOV_PAGE (R226). -/
def execMovPage (m : MoverId) (o : MovPageOp) (s : State) : Host.Outcome State Fault Refusal := .next (s.moverOp m (.movPage o))

/-- MOVER_TRANSFER_LAND (R136). -/
def execMoverTransferLand (m : MoverId) (l : Landing) (s : State) : Host.Outcome State Fault Refusal :=
  .next (((s.runTo m.w l.cycle.toNat).moverLand m l.index.toNat l.pairs.toNat).finish)

/-- MOVER_DUE_CHECK (R136). -/
def execMoverDueCheck (m : MoverId) (i : BitVec 4) (s : State) : Host.Outcome State Fault Refusal := .next (s.moverDue m i.toNat)

end Sys2Proof.Machine
end

