-- ==== Sys2Proof/Machine/ExecVector.lean ====
section
/-! DEFINITION. The meanings of the commands of the Slate, the Vector unit, the Reduce unit and the Library (06_slate_scoreboard_library.md, 08_attention_and_kv.md). A command that does not apply in a state leaves
it as it is. -/

namespace Sys2Proof.Machine

open Sys2Proof

/-- SLT_FILL (R166). -/
def execSltFill (u : Cr) (o : SltFillOp) (s : State) : Host.Outcome State Fault Refusal := .next (s.sltFill u o)

/-- SLT_COPY (R167). -/
def execSltCopy (u : Cr) (o : SltCopyOp) (s : State) : Host.Outcome State Fault Refusal := .next (s.sltCopy u o)

/-- VEC_DRAIN (R171). -/
def execVecDrain (u : Cr) (o : VecDrainOp) (s : State) : Host.Outcome State Fault Refusal := .next (s.vecDrain u o)

/-- SCALE_COLS (R173). -/
def execScaleCols (u : Cr) (o : VecApplyOp) (s : State) : Host.Outcome State Fault Refusal := .next (s.scaleCols u o)

/-- SCALE_ROWS (R173). -/
def execScaleRows (u : Cr) (o : VecApplyOp) (s : State) : Host.Outcome State Fault Refusal := .next (s.scaleRows u o)

/-- ADD_ROWS (R173). -/
def execAddRows (u : Cr) (o : VecApplyOp) (s : State) : Host.Outcome State Fault Refusal := .next (s.addRows u o)

/-- SUMSQ (R173). -/
def execSumsq (u : Cr) (o : VecApplyOp) (s : State) : Host.Outcome State Fault Refusal := .next (s.sumsq u o)

/-- NORM_ROWS (R173). -/
def execNormRows (u : Cr) (o : VecApplyOp) (s : State) : Host.Outcome State Fault Refusal := .next (s.normRows u o)

/-- SILU_MUL (R173). -/
def execSiluMul (u : Cr) (o : VecApplyOp) (s : State) : Host.Outcome State Fault Refusal := .next (s.siluMul u o)

/-- ROTATE (R236). -/
def execRotate (u : Cr) (o : VecApplyOp) (s : State) : Host.Outcome State Fault Refusal := .next (s.rotate u o)

/-- SOFTMAX_BLOCK (R231). -/
def execSoftmaxBlock (u : Cr) (o : VecApplyOp) (s : State) : Host.Outcome State Fault Refusal := .next (s.softmaxBlock u o)

/-- SOFTMAX_END (R234). -/
def execSoftmaxEnd (u : Cr) (o : VecApplyOp) (s : State) : Host.Outcome State Fault Refusal := .next (s.softmaxEnd u o)

/-- MARGIN_H (R83). -/
def execMarginH (u : Cr) (o : VecApplyOp) (s : State) : Host.Outcome State Fault Refusal := .next (s.marginH u o)

/-- MARGIN_ADD (R85). -/
def execMarginAdd (u : Cr) (o : VecApplyOp) (s : State) : Host.Outcome State Fault Refusal := .next (s.marginAdd u o)

/-- RED_TOPK (R237). -/
def execRedTopk (u : Cr) (o : RedTopkOp) (s : State) : Host.Outcome State Fault Refusal := .next (s.redTopk u o)

/-- RED_MAXSUM (R273). -/
def execRedMaxsum (u : Cr) (o : RedMaxsumOp) (s : State) : Host.Outcome State Fault Refusal := .next (s.redMaxsum u o)

/-- NARROW_STARVED (R163). -/
def execNarrowStarved (u : Cr) (port : Fin 3) (s : State) : Host.Outcome State Fault Refusal := .next (s.narrowStarved u port)

/-- SLT_DBG_DATA_READ (R187). -/
def execSltDbgDataRead (r : DbgRead) (s : State) : Host.Outcome State Fault Refusal := .next (s.viaBar0 (fun s => s.dbgRead r.u r.waited))

/-- SLT_DBG_DATA_WRITE (R187). -/
def execSltDbgDataWrite (u : Cr) (v : DbgWrite) (s : State) : Host.Outcome State Fault Refusal := .next (s.viaBar0 (fun s => s.dbgWrite u v.value v.waited))

/-- SLT_DBG_TIMEOUT (R187). -/
def execSltDbgTimeout (u : Cr) (read : Bool) (s : State) : Host.Outcome State Fault Refusal := .next (s.viaBar0 (fun s => s.dbgLate u read))

/-- LIB_SCRUB_READ (R185). -/
def execLibScrubRead (w : Wing) (s : State) : Host.Outcome State Fault Refusal := .next (s.libScrub w)

/-- BAR2_READ (R176). -/
def execBar2Read (off : BitVec 32) (bytes : Nat) (s : State) : Host.Outcome State Fault Refusal := .next (s.bar2Read off bytes)

/-- BAR2_WRITE (R176). -/
def execBar2Write (off : BitVec 32) (data : List Byte) (s : State) : Host.Outcome State Fault Refusal := .next (s.bar2Write off data)

end Sys2Proof.Machine
end

