-- ==== Sys2Proof/Machine/Dispatch.lean ====
section
/-! DEFINITION. What each command does: one arm per constructor, one meaning per arm. -/

namespace Sys2Proof.Machine

open Sys2Proof

/-- The command's effect on everything but the queue. -/
def exec (i : Instr) (s : State) : Host.Outcome State Fault Refusal :=
  match i with
  | .registerWrite off wide value => Sys2Proof.Machine.execRegisterWrite off wide value s
  | .registerAccessError off bytes read => Sys2Proof.Machine.execRegisterAccessError off bytes read s
  | .rcCounterRead r => Sys2Proof.Machine.execRcCounterRead r s
  | .glbCommit value => Sys2Proof.Machine.execGlbCommit value s
  | .commitApplied group => Sys2Proof.Machine.execCommitApplied group s
  | .feed u o => Sys2Proof.Machine.execFeed u o s
  | .swapAfterLoad u waited => Sys2Proof.Machine.execSwapAfterLoad u waited s
  | .planeParityCheck u => Sys2Proof.Machine.execPlaneParityCheck u s
  | .quant u o => Sys2Proof.Machine.execQuant u o s
  | .expTile u o => Sys2Proof.Machine.execExpTile u o s
  | .expPlanes u o => Sys2Proof.Machine.execExpPlanes u o s
  | .expAct u o => Sys2Proof.Machine.execExpAct u o s
  | .expBf16 u o => Sys2Proof.Machine.execExpBf16 u o s
  | .expLoad u o => Sys2Proof.Machine.execExpLoad u o s
  | .expCbload u o => Sys2Proof.Machine.execExpCbload u o s
  | .codebookRead u => Sys2Proof.Machine.execCodebookRead u s
  | .locPack u o => Sys2Proof.Machine.execLocPack u o s
  | .expQueueEntryFree u => Sys2Proof.Machine.execExpQueueEntryFree u s
  | .expReaderPhaseStart u => Sys2Proof.Machine.execExpReaderPhaseStart u s
  | .expExpandPhaseStart u => Sys2Proof.Machine.execExpExpandPhaseStart u s
  | .expItemComplete u => Sys2Proof.Machine.execExpItemComplete u s
  | .expItemDue u => Sys2Proof.Machine.execExpItemDue u s
  | .backPlaneLoadComplete u => Sys2Proof.Machine.execBackPlaneLoadComplete u s
  | .wingStepStart w r => Sys2Proof.Machine.execWingStepStart w r s
  | .periodWordDispatch p => Sys2Proof.Machine.execPeriodWordDispatch p s
  | .loop w o => Sys2Proof.Machine.execLoop w o s
  | .call w o => Sys2Proof.Machine.execCall w o s
  | .bellRing w n => Sys2Proof.Machine.execBellRing w n s
  | .bellWait w n target => Sys2Proof.Machine.execBellWait w n target s
  | .bellTimeout w => Sys2Proof.Machine.execBellTimeout w s
  | .holdRequest w cause room => Sys2Proof.Machine.execHoldRequest w cause room s
  | .timetableResume w h => Sys2Proof.Machine.execTimetableResume w h s
  | .replayPoint w => Sys2Proof.Machine.execReplayPoint w s
  | .checkPointWord w => Sys2Proof.Machine.execCheckPointWord w s
  | .checkVote w => Sys2Proof.Machine.execCheckVote w s
  | .checkPointVerdict => Sys2Proof.Machine.execCheckPointVerdict s
  | .verdictReceived w => Sys2Proof.Machine.execVerdictReceived w s
  | .commitPointWord w => Sys2Proof.Machine.execCommitPointWord w s
  | .commitDecision => Sys2Proof.Machine.execCommitDecision s
  | .movCopy m o => Sys2Proof.Machine.execMovCopy m o s
  | .movItem m o => Sys2Proof.Machine.execMovItem m o s
  | .movPage m o => Sys2Proof.Machine.execMovPage m o s
  | .moverTransferLand m k => Sys2Proof.Machine.execMoverTransferLand m k s
  | .moverDueCheck m k => Sys2Proof.Machine.execMoverDueCheck m k s
  | .sltFill u o => Sys2Proof.Machine.execSltFill u o s
  | .sltCopy u o => Sys2Proof.Machine.execSltCopy u o s
  | .vecDrain u o => Sys2Proof.Machine.execVecDrain u o s
  | .scaleCols u o => Sys2Proof.Machine.execScaleCols u o s
  | .scaleRows u o => Sys2Proof.Machine.execScaleRows u o s
  | .addRows u o => Sys2Proof.Machine.execAddRows u o s
  | .sumsq u o => Sys2Proof.Machine.execSumsq u o s
  | .normRows u o => Sys2Proof.Machine.execNormRows u o s
  | .siluMul u o => Sys2Proof.Machine.execSiluMul u o s
  | .rotate u o => Sys2Proof.Machine.execRotate u o s
  | .softmaxBlock u o => Sys2Proof.Machine.execSoftmaxBlock u o s
  | .softmaxEnd u o => Sys2Proof.Machine.execSoftmaxEnd u o s
  | .marginH u o => Sys2Proof.Machine.execMarginH u o s
  | .marginAdd u o => Sys2Proof.Machine.execMarginAdd u o s
  | .redTopk u o => Sys2Proof.Machine.execRedTopk u o s
  | .redMaxsum u o => Sys2Proof.Machine.execRedMaxsum u o s
  | .narrowStarved u port => Sys2Proof.Machine.execNarrowStarved u port s
  | .sltDbgDataRead r => Sys2Proof.Machine.execSltDbgDataRead r s
  | .sltDbgDataWrite u v => Sys2Proof.Machine.execSltDbgDataWrite u v s
  | .sltDbgTimeout u read => Sys2Proof.Machine.execSltDbgTimeout u read s
  | .libScrubRead w => Sys2Proof.Machine.execLibScrubRead w s
  | .bar2Read off bytes => Sys2Proof.Machine.execBar2Read off bytes s
  | .bar2Write off data => Sys2Proof.Machine.execBar2Write off data s
  | .hbmScrubRead stack pc => Sys2Proof.Machine.execHbmScrubRead stack pc s
  | .memBudgetWindow stack => Sys2Proof.Machine.execMemBudgetWindow stack s
  | .tierMoveRequest => Sys2Proof.Machine.execTierMoveRequest s
  | .tierMoveUnitDone x => Sys2Proof.Machine.execTierMoveUnitDone x s
  | .trayFlush => Sys2Proof.Machine.execTrayFlush s
  | .rosterBuild x => Sys2Proof.Machine.execRosterBuild x s
  | .stepStart us => Sys2Proof.Machine.execStepStart us s
  | .msTick n => Sys2Proof.Machine.execMsTick n s
  | .pauseExpiryCheck => Sys2Proof.Machine.execPauseExpiryCheck s
  | .chunkRepair x => Sys2Proof.Machine.execChunkRepair x s
  | .nop d => Sys2Proof.Machine.execNop d s
  | .ringCreate d o => Sys2Proof.Machine.execRingCreate d o s
  | .ringDestroy d kind => Sys2Proof.Machine.execRingDestroy d kind s
  | .ringReset d => Sys2Proof.Machine.execRingReset d s
  | .hostWindow d o => Sys2Proof.Machine.execHostWindow d o s
  | .tenantQuota d o => Sys2Proof.Machine.execTenantQuota d o s
  | .tenantRules d weight => Sys2Proof.Machine.execTenantRules d weight s
  | .stopsetWrite d src x => Sys2Proof.Machine.execStopsetWrite d src x s
  | .lessonInstall d o x => Sys2Proof.Machine.execLessonInstall d o x s
  | .lessonRemove d wings => Sys2Proof.Machine.execLessonRemove d wings s
  | .memClass d o => Sys2Proof.Machine.execMemClass d o s
  | .kvPool d o => Sys2Proof.Machine.execKvPool d o s
  | .memCopy d o x => Sys2Proof.Machine.execMemCopy d o x s
  | .modelLoad d o x => Sys2Proof.Machine.execModelLoad d o x s
  | .modelUnload d => Sys2Proof.Machine.execModelUnload d s
  | .modelGolden d golden golden2 => Sys2Proof.Machine.execModelGolden d golden golden2 s
  | .modelQuery d q => Sys2Proof.Machine.execModelQuery d q s
  | .msetInstall d o x => Sys2Proof.Machine.execMsetInstall d o x s
  | .msetRemove d set => Sys2Proof.Machine.execMsetRemove d set s
  | .msetQuery d q => Sys2Proof.Machine.execMsetQuery d q s
  | .sessionOpen d o => Sys2Proof.Machine.execSessionOpen d o s
  | .turn d o x => Sys2Proof.Machine.execTurn d o x s
  | .abortTurn d => Sys2Proof.Machine.execAbortTurn d s
  | .pause d o => Sys2Proof.Machine.execPause d o s
  | .resume d => Sys2Proof.Machine.execResume d s
  | .sessionEnd d => Sys2Proof.Machine.execSessionEnd d s
  | .sessionRewind d count => Sys2Proof.Machine.execSessionRewind d count s
  | .sessionQuery d q => Sys2Proof.Machine.execSessionQuery d q s
  | .undefinedOpcode d opcode => Sys2Proof.Machine.execUndefinedOpcode d opcode s
  | .fwQuery d q => Sys2Proof.Machine.execFwQuery d q s
  | .fwStage d o x => Sys2Proof.Machine.execFwStage d o x s
  | .fwActivate d bank => Sys2Proof.Machine.execFwActivate d bank s
  | .fwCommit d kind => Sys2Proof.Machine.execFwCommit d kind s
  | .rbkFwStage d o x => Sys2Proof.Machine.execRbkFwStage d o x s
  | .ownerEnroll d src x => Sys2Proof.Machine.execOwnerEnroll d src x s
  | .configWrite d src x => Sys2Proof.Machine.execConfigWrite d src x s
  | .permitInstall d src x => Sys2Proof.Machine.execPermitInstall d src x s
  | .permitRevoke d => Sys2Proof.Machine.execPermitRevoke d s
  | .permitExpiry => Sys2Proof.Machine.execPermitExpiry s
  | .hmPoll p => Sys2Proof.Machine.execHmPoll p s
  | .msixModerationCheck => Sys2Proof.Machine.execMsixModerationCheck s
  | .telemetrySample => Sys2Proof.Machine.execTelemetrySample s
  | .heartbeatWrite => Sys2Proof.Machine.execHeartbeatWrite s
  | .hifEnable => Sys2Proof.Machine.execHifEnable s
  | .busMasterEnableChange on => Sys2Proof.Machine.execBusMasterEnableChange on s
  | .d3hotEntry => Sys2Proof.Machine.execD3hotEntry s
  | .d0Entry => Sys2Proof.Machine.execD0Entry s
  | .fullReset r => Sys2Proof.Machine.execFullReset r s
  | .corridorWrite p => Sys2Proof.Machine.execCorridorWrite p s
  | .corridorReadReq p => Sys2Proof.Machine.execCorridorReadReq p s
  | .corridorReadResp p => Sys2Proof.Machine.execCorridorReadResp p s
  | .corridorAsm p => Sys2Proof.Machine.execCorridorAsm p s
  | .corridorAck p => Sys2Proof.Machine.execCorridorAck p s
  | .corridorNak p => Sys2Proof.Machine.execCorridorNak p s
  | .foreignFrame port => Sys2Proof.Machine.execForeignFrame port s
  | .ackTimer ctx => Sys2Proof.Machine.execAckTimer ctx s
  | .rtoExpiry ctx => Sys2Proof.Machine.execRtoExpiry ctx s
  | .rateUpdate ctx => Sys2Proof.Machine.execRateUpdate ctx s
  | .injectDelayExpiry ctx => Sys2Proof.Machine.execInjectDelayExpiry ctx s
  | .pfcPauseReceived port on => Sys2Proof.Machine.execPfcPauseReceived port on s
  | .portLinkDown port => Sys2Proof.Machine.execPortLinkDown port s
  | .portLinkUp port => Sys2Proof.Machine.execPortLinkUp port s
  | .cdcRealign port dropped => Sys2Proof.Machine.execCdcRealign port dropped s
  | .ctxWrite => Sys2Proof.Machine.execCtxWrite s
  | .ctxRead => Sys2Proof.Machine.execCtxRead s
  | .ctxFree => Sys2Proof.Machine.execCtxFree s
  | .asmGroupEnable g => Sys2Proof.Machine.execAsmGroupEnable g s
  | .asmGroupDisable g => Sys2Proof.Machine.execAsmGroupDisable g s
  | .barrier g => Sys2Proof.Machine.execBarrier g s
  | .sumI32 g => Sys2Proof.Machine.execSumI32 g s
  | .sumF32 g => Sys2Proof.Machine.execSumF32 g s
  | .sumBf16 g => Sys2Proof.Machine.execSumBf16 g s
  | .topk g => Sys2Proof.Machine.execTopk g s
  | .bcast g => Sys2Proof.Machine.execBcast g s
  | .asmComplete g => Sys2Proof.Machine.execAsmComplete g s
  | .mainInputValid => Sys2Proof.Machine.execMainInputValid s
  | .mainInputLoss => Sys2Proof.Machine.execMainInputLoss s
  | .standbyLoss => Sys2Proof.Machine.execStandbyLoss s
  | .thermalTrip die => Sys2Proof.Machine.execThermalTrip die s
  | .dawnBoot b => Sys2Proof.Machine.execDawnBoot b s
  | .morningBringup m => Sys2Proof.Machine.execMorningBringup m s
  | .rollbookInfoTimeout => Sys2Proof.Machine.execRollbookInfoTimeout s
  | .readySet => Sys2Proof.Machine.execReadySet s
  | .targetDay => Sys2Proof.Machine.execTargetDay s
  | .targetNight => Sys2Proof.Machine.execTargetNight s
  | .duskDrainComplete => Sys2Proof.Machine.execDuskDrainComplete s
  | .duskTimeout => Sys2Proof.Machine.execDuskTimeout s
  | .recessEntry u us => Sys2Proof.Machine.execRecessEntry u us s
  | .holidayEntry u ms => Sys2Proof.Machine.execHolidayEntry u ms s
  | .powerSample p => Sys2Proof.Machine.execPowerSample p s
  | .droopTrip u => Sys2Proof.Machine.execDroopTrip u s
  | .droopRelease w total clear => Sys2Proof.Machine.execDroopRelease w total clear s
  | .spdmGetVersion t => Sys2Proof.Machine.execSpdmGetVersion t s
  | .spdmGetCapabilities t => Sys2Proof.Machine.execSpdmGetCapabilities t s
  | .spdmNegotiateAlgorithms t p256 sha256 => Sys2Proof.Machine.execSpdmNegotiateAlgorithms t p256 sha256 s
  | .spdmGetDigests t => Sys2Proof.Machine.execSpdmGetDigests t s
  | .spdmGetCertificate t slot offset length => Sys2Proof.Machine.execSpdmGetCertificate t slot offset length s
  | .spdmChallenge t slot nonce => Sys2Proof.Machine.execSpdmChallenge t slot nonce s
  | .spdmGetMeasurements t index signed slot nonce => Sys2Proof.Machine.execSpdmGetMeasurements t index signed slot nonce s
  | .spdmUnsupported t code => Sys2Proof.Machine.execSpdmUnsupported t code s
  | .pldmGetSensorReading q => Sys2Proof.Machine.execPldmGetSensorReading q s
  | .pldmBaseCommand m => Sys2Proof.Machine.execPldmBaseCommand m s
  | .mctpUnsupportedType m => Sys2Proof.Machine.execMctpUnsupportedType m s
  | .sensorThresholdChange r => Sys2Proof.Machine.execSensorThresholdChange r s
  | .tallyMessage m => Sys2Proof.Machine.execTallyMessage m s
  | .energySample mv ma => Sys2Proof.Machine.execEnergySample mv ma s
  | .energyJournal => Sys2Proof.Machine.execEnergyJournal s
  | .rbkReport => Sys2Proof.Machine.execRbkReport s
  | .rbkReadLog => Sys2Proof.Machine.execRbkReadLog s
  | .rbkGetCert => Sys2Proof.Machine.execRbkGetCert s
  | .rbkInfo => Sys2Proof.Machine.execRbkInfo s
  | .rbkCmdTimeout => Sys2Proof.Machine.execRbkCmdTimeout s
  | .rbkFwApply a => Sys2Proof.Machine.execRbkFwApply a s
  | .rbkWatchdog lostMs => Sys2Proof.Machine.execRbkWatchdog lostMs s
  | .headerConnect => Sys2Proof.Machine.execHeaderConnect s
  | .rbkReseal signed => Sys2Proof.Machine.execRbkReseal signed s
  | .rbkCalibration record signed => Sys2Proof.Machine.execRbkCalibration record signed s
  | .rbkLogPoll answered => Sys2Proof.Machine.execRbkLogPoll answered s
  | .linkCreditAudit a => Sys2Proof.Machine.execLinkCreditAudit a s
  | .flitResend link n => Sys2Proof.Machine.execFlitResend link n s
  | .stackTrainingLoss stack => Sys2Proof.Machine.execStackTrainingLoss stack s
  | .stepWatchdog => Sys2Proof.Machine.execStepWatchdog s
  | .bucketRebuild => Sys2Proof.Machine.execBucketRebuild s
  | .standbyPowerOn => Sys2Proof.Machine.execStandbyPowerOn s
  | .perstDeassert => Sys2Proof.Machine.execPerstDeassert s
  | .dieToDieLinkDown link us => Sys2Proof.Machine.execDieToDieLinkDown link us s
  | .msixVectorUnmask a => Sys2Proof.Machine.execMsixVectorUnmask a s
  | .classChangeDone => Sys2Proof.Machine.execClassChangeDone s
  | .memCopyDone => Sys2Proof.Machine.execMemCopyDone s

end Sys2Proof.Machine
end

