-- ==== Sys2Proof/Safety.lean ====
section
/-! DEFINITION. What claims about a run are stated in: a step that goes on, the invariants of the state, and the frames of what a command leaves. -/

namespace Sys2Proof

open Sys2Proof.Machine

/-- The step at `s` answers a next state. -/
def Steps (s t : State) : Prop := step s = .next t

/-- Every byte memory stands in its canonical form. -/
def MemoriesWf (s : State) : Prop :=
  Memory.wf s.mem.lib ∧ Memory.wf s.mem.host ∧ Memory.wf s.mem.peer ∧ Memory.wf s.sec.flash ∧ Memory.wf s.hif.msix ∧
  Sparse.wf s.mem.hbmUnlisted s.mem.hbm ∧ ∀ k : Fin 32, Memory.wf (s.room k).slate

/-- The registers stand in their canonical form. -/
def RegsWf (s : State) : Prop := Sparse.wf regReset s.regs

/-- Nothing waits that the end of a command would take up: no persistent fault stands and no descriptor waits. -/
def Quiet (s : State) : Prop := s.err.due = none ∧ s.hif.stalled = []

/-- `t` is `s` but for what records and messages to the host change: host memory, the output rings, the events held or lost, the messages sent, and the two
counters of lost events and sent messages. -/
structure Noise (s t : State) : Prop where
  rest : { t with regs := s.regs, hif := s.hif, mem := { t.mem with host := s.mem.host } } = s
  regs : ∀ o, o ≠ Off.hifEventsLost → o ≠ Off.hifMsixSent → t.reg o = s.reg o
  hif : { t.hif with
      outs := s.hif.outs, ev := s.hif.ev, heldEvents := s.hif.heldEvents, lostEvents := s.hif.lostEvents, evSeq := s.hif.evSeq
      msixPend := s.hif.msixPend, sent := s.hif.sent, waitReqs := s.hif.waitReqs, burst := s.hif.burst } = s.hif

/-- `t` is `s` but for registers, Classroom `k`, the Sequencer of its Wing and the marks of Classrooms that met an error. -/
structure UnitFrame (k : Fin 32) (s t : State) : Prop where
  rooms : ∀ j, j ≠ k → t.room j = s.room j
  wings : ∀ w, w ≠ wingOf k → t.wing w = s.wing w
  cache : (t.wing (wingOf k)).cache = (s.wing (wingOf k)).cache
  rest : { t with regs := s.regs, rooms := s.rooms, wings := s.wings, srv := { t.srv with errRooms := s.srv.errRooms } } = s

/-- Nothing stops the dispatch of operation `o` to local unit `unit` of Classroom `u`: its fields are in range and no operation keeps the unit busy (R132, R137). -/
def Accepts (s : State) (u : Cr) (unit : Nat) (o : SlotOp) : Prop := (s.dispatch u unit o).1.isSome = true

/-- The index of token `tk` among the tokens of an operation that names TOKEN and NTOK, if it is one of them (R171). -/
def tokenIndex (token ntok : BitVec 9) (tk : Nat) : Option Nat :=
  let i := (tk + 512 - token.toNat) % 512
  if i ≤ ntok.toNat then some i else none

/-- A Scoreboard, as its signed values, after the updates of a FEED in their order: written, or with ACC added with saturation to s32 (R41, R56). -/
def sbFold (acc : Bool) (ups : List (Nat × Nat × Int)) (f : Nat → Nat → Int) : Nat → Nat → Int :=
  ups.foldl (fun f e c tk => if c = e.1 ∧ tk = e.2.1 then (if acc then satS32 (f c tk + e.2.2) else (BitVec.ofInt 32 e.2.2).toInt) else f c tk) f

/-- The updates of vector `i` of a FEED against plane `p`, read from the Slate of `r` (R32, R33, R40). -/
def feedVector (r : Classroom) (p : Plane) (o : FeedOp) (i : Nat) : List (Nat × Nat × Int) :=
  p.updates (fun j => feedElem ((r.slateBytes (512 * o.slate.toNat + p.vecBytes * i) p.vecBytes).getD j 0)) o.token.toNat i (groupsOf o.groups)

/-- The updates of all vectors of a FEED. -/
def feedUpdates (r : Classroom) (p : Plane) (o : FeedOp) : List (Nat × Nat × Int) :=
  (List.range (o.count.toNat + 1)).flatMap (feedVector r p o)

/-- The updates of a FEED dispatched in cycle `d` that the Scoreboard takes before cycle `T`: those of the vectors read four cycles, in Plane mode five, before (R53). -/
def feedUpdatesBefore (r : Classroom) (p : Plane) (o : FeedOp) (d T : Nat) : List (Nat × Nat × Int) :=
  ((List.range (o.count.toNat + 1)).filter (fun i => decide (d + i + (if p.mode = .plane then 5 else 4) < T))).flatMap (feedVector r p o)

/-- Nothing is on its way in the Array of a Classroom: no FEED reads or waits for a swap, no results travel, and no drain reads. -/
def arrayQuiet (r : Classroom) : Prop := r.feeds = [] ∧ r.pipe = [] ∧ r.drain = none

/-- Nothing is on its way in the Arrays of a Wing, and no back-plane load waits for a swap to be judged: its Timetable may pass any number of cycles and only the counter moves. -/
def wingQuiet (s : State) (w : Wing) : Prop := ∀ c : Room, arrayQuiet (s.room (roomIndex w c)) ∧ (s.ex (roomIndex w c)).next = []

/-- Whether the swap of a FEED dispatched in this state meets a load in progress or about to begin (R36, R110). -/
def swapMustWait (s : State) (u : Cr) (o : FeedOp) : Prop :=
  0 < (s.room u.idx).loads ∨ (s.loadAhead u (s.opCycle u 0 (.feed o))).isSome = true

/-- The front plane once a FEED that swaps, or does not, has exchanged the planes. -/
def frontFor (r : Classroom) (swap : Bool) : Plane := if swap then r.back else r.front

/-- What a codebook load's read of its image does to the Expander (R102): the generation rises by one, modulo 256; a valid image whose CHECK agrees fills the slot; a failed CHECK
empties it and is an error counted in EXP_CHECK; lengths that are not valid empty it and are a lesson fault of the load's word. No other slot changes. -/
def CodebookFilled (s t : State) (u : Cr) (o : ExpCbloadOp) (ref : WordRef) (unit : Nat) : Prop :=
  ((t.ex u.idx).slot o.slot.toNat).gen = (((s.ex u.idx).slot o.slot.toNat).gen + 1) % 256 ∧
  (∀ j, j ≠ o.slot.toNat → (t.ex u.idx).slot j = (s.ex u.idx).slot j) ∧
  let bs := (s.room u.idx).slateBytes (32 * o.src.toNat) 128
  (crc16 (bs.take 124) = hfield bs 124 2 → cbValid (cbLens bs) = true →
    ((t.ex u.idx).slot o.slot.toNat).lens = some (cbLens bs) ∧ ((t.ex u.idx).slot o.slot.toNat).failed = false) ∧
  (crc16 (bs.take 124) ≠ hfield bs 124 2 →
    ((t.ex u.idx).slot o.slot.toNat).lens = none ∧ ((t.ex u.idx).slot o.slot.toNat).failed = true ∧
    t.reg (Off.expCheck u.idx) = s.reg (Off.expCheck u.idx) + 1 ∧ (t.seq u.w).error = true) ∧
  (crc16 (bs.take 124) = hfield bs 124 2 → cbValid (cbLens bs) = false →
    ((t.ex u.idx).slot o.slot.toNat).lens = none ∧ ((t.ex u.idx).slot o.slot.toNat).failed = true ∧
    t.reg (Off.expFaults u.idx) = s.reg (Off.expFaults u.idx) + 1 ∧
    t.reg (Off.seqFaults u.w) = s.reg (Off.seqFaults u.w) + 1 ∧ (t.seq u.w).faults = (s.seq u.w).faults ++ [0x11] ∧
    t.reg (Off.seqFaultInfo u.w) = BitVec.ofNat 64 (faultInfo ref 0x11 unit))

/-- The scale of the first block of a QUANT, and whether it is recomputed: the one the lesson wrote into the Slate on a step's first pass, else that of the block's log record (R72). -/
def quantScale (s : State) (u : Cr) (o : QuantOp) (p : QParam) : BF16 × Bool :=
  if (s.seq u.w).pass = 0 then (BitVec.ofNat 16 (leNat ((s.room u.idx).slateBytes (2 * o.scales.toNat) 2)), false)
  else nextScale (s.seq u.w).rescale (widthMax p.width) p.floor (readLog (s.libBytes u.w (8 * o.log.toNat) 8))

/-- The values of the first block of a QUANT: `len + 1` columns of the token ACC_TOKEN (R66). -/
def quantInput (s : State) (u : Cr) (o : QuantOp) : List F32 :=
  (List.range (o.len.toNat + 1)).map (fun i => (s.room u.idx).accAt (o.accCol.toNat + i) (o.accToken.toNat % 512))

/-- The command that dispatches an Expander item. -/
def itemCmd (u : Cr) : SlotOp → Option Instr
  | .expTile o => some (.expTile u o)
  | .expPlanes o => some (.expPlanes u o)
  | .expAct o => some (.expAct u o)
  | .expBf16 o => some (.expBf16 u o)
  | _ => none

/-- A command that drains the Scoreboard with its slot operation, whether it adds to the accumulators, the Slate byte at which its scales stand, and its tokens (R57, R83, R171). -/
def DrainCmd (u : Cr) (c : Instr) (op : SlotOp) (fold : Bool) (base : Nat) (token ntok : BitVec 9) : Prop :=
  (∃ o, c = .vecDrain u o ∧ op = .vecDrain o ∧ fold = o.fold ∧ base = 2 * o.scales.toNat ∧ token = o.token ∧ ntok = o.ntok) ∨
  (∃ o, c = .marginAdd u o ∧ op = .vecApply .marginAdd o ∧ fold = true ∧ base = applyA o ∧ token = o.token ∧ ntok = o.ntok)

/-- The command that dispatches a Mover operation. -/
def moverCmd (m : MoverId) : SlotOp → Option Instr
  | .movCopy o => some (.movCopy m o)
  | .movItem o => some (.movItem m o)
  | .movPage o => some (.movPage m o)
  | _ => none

/-- The bf16 and the binary32 at a Slate byte address of a Classroom. -/
def slateBf16 (r : Classroom) (a : Nat) : F32 := ofBf16 (BitVec.ofNat 16 (r.slateLE a 2))
/-- The binary32 at a Slate byte address. -/
def slateF32 (r : Classroom) (a : Nat) : F32 := BitVec.ofNat 32 (r.slateLE a 4)

/-- The Scoreboard value that the token of index `i` of an operation dispatched in cycle `d` drains in column `c`: each group of 64 columns is read in a cycle of its own (R53, R171). -/
def drained (s : State) (k : Fin 32) (d i c tk : Nat) : Int := (s.drainView k (d + 8 * i + c / 64)).sbAt c tk

/-- The accumulators of the tokens that TOKEN and NTOK name become `f index column token old` in every column; every other accumulator, every other memory of the
Classroom and everything outside it but registers and error marks stay. -/
def AccRows (s t : State) (u : Cr) (token ntok : BitVec 9) (f : Nat → Nat → Nat → F32 → F32) : Prop :=
  (∀ c tk, c < 512 → tk < 512 → (t.room u.idx).accAt c tk =
    match tokenIndex token ntok tk with
    | some i => f i c tk ((s.room u.idx).accAt c tk)
    | none => (s.room u.idx).accAt c tk) ∧
  { t.room u.idx with acc := (s.room u.idx).acc, busy := (s.room u.idx).busy } = s.room u.idx ∧ UnitFrame u.idx s t

/-- The Slate of Classroom `k` holds `bs` from byte `a`, wrapping, and every other byte as before; every other memory of the Classroom and everything outside it but
registers and error marks stay. -/
def SlateBecomes (s t : State) (k : Fin 32) (a : Nat) (bs : List Byte) : Prop :=
  (∀ b, b < slateSize → Memory.read (t.room k).slate b =
    if (b + slateSize - a % slateSize) % slateSize < bs.length then bs.getD ((b + slateSize - a % slateSize) % slateSize) 0
    else Memory.read (s.room k).slate b) ∧
  { t.room k with
    slate := (s.room k).slate, slateBad := (s.room k).slateBad, slateCorr := (s.room k).slateCorr, busy := (s.room k).busy } = s.room k ∧
  UnitFrame k s t

/-- A lesson fault of `status` by the word `ref` is recorded in Wing `w` (R155, R156): counted, named in SEQ_FAULT_INFO and kept for the vote. -/
def FaultNoted (w : Wing) (ref : WordRef) (unit status : Nat) (s t : State) : Prop :=
  t.reg (Off.seqFaults w) = s.reg (Off.seqFaults w) + 1 ∧ t.reg (Off.seqFaultInfo w) = BitVec.ofNat 64 (faultInfo ref status unit) ∧
  (t.seq w).faults = (s.seq w).faults ++ [status]

/-- A register whose write stores its fields and does nothing else: none of those that start something, are locked while the host interface is enabled, or
guard a table, a group or a context. -/
def plainReg (o : Nat) : Bool :=
  !hifLocked o && !isDbgData o && !(decide (0xC1000 ≤ o ∧ o < 0xC2000)) && !(decide (0x200000 ≤ o ∧ o ≤ 0x200020)) &&
  !(List.contains [Off.hifCtrl, Off.pwrThermal, Off.pwrCtrl, Off.rbkCmd, Off.fabCtrl, Off.fabCtxCmd, Off.fabInjCfg0, Off.fabInjCfg1] o)

/-- `s` without the fetched descriptor `d` stands for. -/
def forget (s : State) (d : DescRef) : State :=
  { s with hif := { s.hif with fetched := s.hif.fetched.filter (fun f => !(f.desc.ring == d.ring && f.desc.index == d.index)) } }

/-- The descriptor and operation that a command of descriptors delivers; none for every other command and for an UNDEFINED_OPCODE whose opcode is defined. -/
def descOf : Instr → Option (Desc × DescOp)
  | .nop d => some (d, .nop)
  | .ringCreate d o => some (d, .ringCreate o)
  | .ringDestroy d k => some (d, .ringDestroy k)
  | .ringReset d => some (d, .ringReset)
  | .hostWindow d o => some (d, .hostWindow o)
  | .tenantQuota d o => some (d, .tenantQuota o)
  | .tenantRules d w => some (d, .tenantRules w)
  | .stopsetWrite d a x => some (d, .stopsetWrite a x)
  | .lessonInstall d o x => some (d, .lessonInstall o x)
  | .lessonRemove d w => some (d, .lessonRemove w)
  | .memClass d o => some (d, .memClass o)
  | .kvPool d o => some (d, .kvPool o)
  | .memCopy d o x => some (d, .memCopy o x)
  | .modelLoad d o x => some (d, .modelLoad o x)
  | .modelUnload d => some (d, .modelUnload)
  | .modelGolden d g h => some (d, .modelGolden g h)
  | .modelQuery d q => some (d, .modelQuery q.dst q.x)
  | .msetInstall d o x => some (d, .msetInstall o x)
  | .msetRemove d n => some (d, .msetRemove n)
  | .msetQuery d q => some (d, .msetQuery q.dst q.x)
  | .sessionOpen d o => some (d, .sessionOpen o)
  | .turn d o x => some (d, .turn o x)
  | .abortTurn d => some (d, .abortTurn)
  | .pause d o => some (d, .pause o)
  | .resume d => some (d, .resume)
  | .sessionEnd d => some (d, .sessionEnd)
  | .sessionRewind d n => some (d, .sessionRewind n)
  | .sessionQuery d q => some (d, .sessionQuery q.dst q.x)
  | .undefinedOpcode d k => if definedOpcode k then none else some (d, .undefined k)
  | .fwQuery d q => some (d, .fwQuery q.dst q.x)
  | .fwStage d o x => some (d, .fwStage o x)
  | .fwActivate d b => some (d, .fwActivate b)
  | .fwCommit d k => some (d, .fwCommit k)
  | .rbkFwStage d o x => some (d, .rbkFwStage o x)
  | .ownerEnroll d a x => some (d, .ownerEnroll a x)
  | .configWrite d a x => some (d, .configWrite a x)
  | .permitInstall d a x => some (d, .permitInstall a x)
  | .permitRevoke d => some (d, .permitRevoke)
  | _ => none

/-- The command offers the descriptor that the fetched entry `f` holds, in a state that takes descriptors, and it neither was delivered nor waits. -/
def Offered (s : State) (c : Instr) (d : Desc) (op : DescOp) (f : Fetched) : Prop :=
  descOf c = some (d, op) ∧ s.pwr.state ≠ .midnight ∧ s.pwr.state ≠ .dawn ∧ s.fetchedAt d.ring.toNat d.index.toNat = some f ∧ f.delivered = false ∧
  s.hif.stalled.any (fun e => e.1.ring == d.ring && e.1.index == d.index) = false ∧ fits f d op = true

/-- An offered descriptor that neither the module's state, nor an earlier descriptor of its ring, nor an earlier security operation makes wait. -/
def Applies (s : State) (c : Instr) (d : Desc) (op : DescOp) (f : Fetched) : Prop :=
  Offered s c d op f ∧ s.stateWaits false op = false ∧ s.orderWaits d op = false ∧ s.securityWaits d op = false

/-- The command's operation is permitted and no reserved bit of its descriptor is set: what every operation checks whatever it names (R15, R321, R323, R343). -/
def Permitted (s : State) (d : Desc) (op : DescOp) : Prop := s.denied d op = false ∧ badBits d op = false

/-- The command completes the descriptor of `f` with `status` and the values, after the operation has left `u`; then what waited for it is offered again. -/
def CompletesIn (c : Instr) (s : State) (f : Fetched) (u : State) (status v0 v1 : Nat) : Prop :=
  exec c s = .next ((u.complete f.desc status v0 v1).pump.finish)

/-- A Roster build finds the descriptor of `f` waiting alone and applies it in the state `u`: Rosters are built, and nothing makes it wait any longer (R252). -/
def AppliesAtBuild (s u : State) (d : Desc) (op : DescOp) (f : Fetched) : Prop :=
  s.canBuild = true ∧ s.rosterReady = u ∧ u.hif.stalled = [(d, op)] ∧ u.fetchedAt d.ring.toNat d.index.toNat = some f ∧
  u.stateWaits true op = false ∧ u.orderWaits d op = false

/-- The build completes the descriptor of `f` with `status` and the values, after the operation has left `u`; then it goes on to the next Roster. -/
def CompletesAtBuild (x : Ext) (s : State) (d : Desc) (op : DescOp) (f : Fetched) (u : State) (status v0 v1 : Nat) : Prop :=
  exec (.rosterBuild x) s = .next ((((u.complete f.desc status v0 v1).unstall (d, op)).rosterRest x).finish)

/-- The command's descriptor waits for a Roster build; nothing else happens. -/
def WaitsForBuild (c : Instr) (s : State) (d : Desc) (op : DescOp) : Prop :=
  exec c s = .next { s with hif := { s.hif with stalled := s.hif.stalled ++ [(d, op)] } }.finish

/-- How the state `s` comes to apply an operation of the Roster engine in the state `u`, by the command `c`: by its own command where nothing makes it wait (in Morning), or by the Roster
build that finds it waiting (R252, R378). `after` is what the command does after the operation. -/
def AppliedBy (c : Instr) (s : State) (d : Desc) (op : DescOp) (f : Fetched) (u : State) (after : State → State) : Prop :=
  (Applies s c d op f ∧ u = s ∧ after = fun t => t.pump.finish) ∨
  (∃ x, c = .rosterBuild x ∧ AppliesAtBuild s u d op f ∧ after = fun t => ((t.unstall (d, op)).rosterRest x).finish)

/-- A record of `n` bytes may be written to the device address `dst` for descriptor `d`, and no write of it can fail: it lies in one host window that the tenant may
write, or in HBM without an uncorrectable sector, and in no resident image. -/
def Answerable (s : State) (d : Desc) (dst n : Nat) : Prop :=
  s.meetsImage dst n = false ∧ s.checkAccess (some (s.tenantOf d)) true dst n = 0 ∧
  ((∃ w o, placeOf dst = .window w o ∧ o + n ≤ 2 ^ 32 ∧ s.canIssue = true) ∨ (dst + n ≤ hbmSize ∧ ∀ y, s.sectorBad y = false))

/-- The record `bs` stands at the device address `dst`, and nothing else of the memory that holds it has changed but by the reads `x` of the operation. -/
def Answered (s u : State) (x : Ext) (dst : Nat) (bs : List Byte) : Prop :=
  (∀ w o, placeOf dst = .window w o → Memory.readN u.mem.host (s.hostAddr w o) bs.length = bs ∧
    (∀ a, a < s.hostAddr w o ∨ s.hostAddr w o + bs.length ≤ a → Memory.read u.mem.host a = Memory.read (s.absorb x).mem.host a) ∧ u.mem.hbm = s.mem.hbm) ∧
  (dst + bs.length ≤ hbmSize → u.hbmBytes dst bs.length = bs ∧ (∀ b, b < dst ∨ dst + bs.length ≤ b → u.mem.hbmAt b = s.mem.hbmAt b) ∧
    u.mem.host = (s.absorb x).mem.host)

/-- The command is an SPDM request that reaches a responder over the transport `t`. -/
def spdmCmd (t : Transport) (c : Instr) : Prop :=
  c = .spdmGetVersion t ∨ c = .spdmGetCapabilities t ∨ (∃ p h, c = .spdmNegotiateAlgorithms t p h) ∨ c = .spdmGetDigests t ∨
  (∃ slot off len, c = .spdmGetCertificate t slot off len) ∨ (∃ slot nonce, c = .spdmChallenge t slot nonce) ∨
  (∃ i b slot nonce, c = .spdmGetMeasurements t i b slot nonce) ∨ ∃ code, c = .spdmUnsupported t code

/-- The command of a Corridor data packet of a type: WRITE, READ_REQ, READ_RESP or ASM. -/
def dataCmd (type : Nat) (p : Packet) : Instr :=
  match type with
  | 0 => .corridorWrite p
  | 1 => .corridorReadReq p
  | 2 => .corridorReadResp p
  | _ => .corridorAsm p

/-- The command that starts a request of an OP. -/
def collCmd (op : Nat) (g : Fin 16) : Instr :=
  match op with
  | 0 => .barrier g
  | 1 => .sumI32 g
  | 2 => .sumF32 g
  | 3 => .sumBf16 g
  | 4 => .topk g
  | _ => .bcast g

/-- What every step keeps: memories and registers in canonical form, the flash counters within their 32 bits (R409), and the Rollbook's counts of tokens and step-cycles within their 64
bits (R436). -/
def Sound (s : State) : Prop :=
  MemoriesWf s ∧ RegsWf s ∧ (∀ n, s.counter n < 2 ^ 32) ∧
  ∀ n, Sparse.get (fun _ => 0) s.rbk.input n ≤ countMax ∧ Sparse.get (fun _ => 0) s.rbk.output n ≤ countMax ∧ Sparse.get (fun _ => 0) s.rbk.cycles n ≤ countMax

/-- Nothing of what may only rise has fallen: the flash counters (R409), the Rollbook's counts of tokens and step-cycles (R436), its report and log numbers (R445, R446). -/
def NeverFalls (s t : State) : Prop :=
  (∀ n, s.counter n ≤ t.counter n) ∧
  (∀ n, Sparse.get (fun _ => 0) s.rbk.input n ≤ Sparse.get (fun _ => 0) t.rbk.input n ∧ Sparse.get (fun _ => 0) s.rbk.output n ≤ Sparse.get (fun _ => 0) t.rbk.output n ∧
    Sparse.get (fun _ => 0) s.rbk.cycles n ≤ Sparse.get (fun _ => 0) t.rbk.cycles n) ∧
  s.rbk.reportNo ≤ t.rbk.reportNo ∧ s.rbk.logNext ≤ t.rbk.logNext

end Sys2Proof
end

