-- ==== Sys2Proof/Certificates/Slice0/Obligations.lean ====
section
/-! DEFINITION. The statements for the provers, one `def Obligations.<Name> : Prop` each; OBLIGATIONS.json lists them with their rules. -/

open Sys2Proof Sys2Proof.Machine

/-! ### The block (00_scope.md) -/

/-- A step at a state with `c` at the front of its queue is `exec c` on the state with the queue's rest; every command, well formed or not, answers a next state
in every state, so a step never faults and is never refused. -/
def Obligations.StepRunsFrontCommand : Prop :=
  (∀ (c : Instr) (s : State), step { s with pending := c :: s.pending } = exec c s) ∧ (∀ (c : Instr) (s : State), ∃ t, exec c s = .next t)

/-- The model's choice (log entry 1): with an empty queue a step leaves the state as it is. -/
def Obligations.EmptyQueueIdles : Prop :=
  ∀ s : State, s.pending = [] → step s = .next s

/-! ### Registers (R8-R13, R400, R401) -/

/-- R10: an access of a width or alignment that R9 does not allow has no effect on the register, a read of this kind returns 0, and it is counted in
ERR_REG_ACCESS. A write of a forbidden alignment that arrives as REGISTER_WRITE is counted alike. -/
def Obligations.ForbiddenAccessIsCounted : Prop :=
  (∀ (s : State) (off : BitVec 24) (n : Nat) (read : Bool),
    s.bar0On = true → touchesReg off.toNat n = true → accessOk off.toNat n = false →
    ∃ t, exec (.registerAccessError off n read) s = .next t ∧ t.reg Off.errRegAccess = s.reg Off.errRegAccess + 1 ∧
      (∀ p, p ≠ Off.errRegAccess → t.reg p = s.reg p) ∧ (read = true → t.bus.data = List.replicate n 0) ∧
      { t with regs := s.regs, bus := s.bus } = s) ∧
  (∀ (s : State) (off : BitVec 24) (wide : Bool) (v : BitVec 64),
    s.bar0On = true → touchesReg off.toNat (if wide then 8 else 4) = true → accessOk off.toNat (if wide then 8 else 4) = false →
    ∃ t, exec (.registerWrite off wide v) s = .next t ∧ t.reg Off.errRegAccess = s.reg Off.errRegAccess + 1 ∧
      (∀ p, p ≠ Off.errRegAccess → t.reg p = s.reg p) ∧ { t with regs := s.regs } = s)

/-- What an allowed write does by access code (R11): an RW register that has no effect of its own takes each field whose value is in range, the half a 32-bit write
does not reach keeping what a read shows, and nothing else changes (what that half keeps is the model's choice, log entry 92); RO and RC registers ignore it; a CM register's write lands in the staged copy
while its group has no commit pending, and the register in force stays (R11). -/
def Obligations.RegisterWriteByCode : Prop :=
  ∀ (s : State) (off : BitVec 24) (wide : Bool) (v : BitVec 64) (i : RegInfo),
    s.bar0On = true → accessOk off.toNat (if wide then 8 else 4) = true → regInfo (off.toNat / 8 * 8) = some i →
    (i.access = .rw → plainReg (off.toNat / 8 * 8) = true →
      ∃ t, exec (.registerWrite off wide v) s = .next t ∧
        t.reg (off.toNat / 8 * 8) = BitVec.ofNat 64 (writeFields i.fields (s.regN (off.toNat / 8 * 8))
          (mergeHalf wide off.toNat (s.readReg (off.toNat / 8 * 8)) v.toNat)) ∧
        (∀ p, p ≠ off.toNat / 8 * 8 → t.reg p = s.reg p) ∧ { t with regs := s.regs } = s) ∧
    (i.access = .ro ∨ i.access = .rc → exec (.registerWrite off wide v) s = .next s) ∧
    (∀ g, i.access = .cm g → marked s.commits g = false →
      ∃ t, exec (.registerWrite off wide v) s = .next t ∧
        t.stagedReg off.toNat = BitVec.ofNat 64 (writeFields i.fields (s.stagedReg off.toNat).toNat v.toNat) ∧
        (∀ p, p ≠ off.toNat → t.stagedReg p = s.stagedReg p) ∧ { t with staged := s.staged } = s)

/-- A 64-bit read of an RC register returns its value and clears it to 0 (R11). An allowed read of any other register, of 64 bits or of an aligned half, returns
what stands there and changes nothing (R9, R11; SLT_DBG_DATA, whose read reaches the Slate, aside). -/
def Obligations.RcReadClears : Prop :=
  (∀ (s : State) (off : BitVec 24) (i : RegInfo),
    s.bar0On = true → off.toNat % 8 = 0 → regInfo off.toNat = some i → i.access = .rc →
    ∃ t, exec (.rcCounterRead ⟨off, true⟩) s = .next t ∧ t.bus.data = leBytes 8 (s.regN off.toNat) ∧ t.reg off.toNat = 0 ∧
      (∀ p, p ≠ off.toNat → t.reg p = s.reg p) ∧ { t with regs := s.regs, bus := s.bus } = s) ∧
  (∀ (s : State) (off : BitVec 24) (wide : Bool) (i : RegInfo),
    s.bar0On = true → accessOk off.toNat (if wide then 8 else 4) = true → regInfo (off.toNat / 8 * 8) = some i → i.access ≠ .rc →
    isDbgData (off.toNat / 8 * 8) = false →
    ∃ t, exec (.rcCounterRead ⟨off, wide⟩) s = .next t ∧
      t.bus.data = ((leBytes 8 (s.readReg (off.toNat / 8 * 8))).drop (off.toNat % 8)).take (if wide then 8 else 4) ∧ { t with bus := s.bus } = s)

/-- GLB_COMMIT with a group ID makes that group's commit pending, and no other; an ID that names no group sets GLB_COMMIT_STATUS.BAD alone (R401, R403).

At a pending group's safe point its staged copy takes effect and the pending bit clears; no other commit and no other register but the counters of
lost events and sent messages, and for FAB of peers lost with their ports (R397), change. PWR is applied by POWER_SAMPLE (R400). A write to the group's register while the commit is pending is held, changes nothing else, and lands in the staged copy once the
commit is applied (R13). A group that is not pending, or not at its safe point, stays as it is (R12, R401). -/
def Obligations.CommitGroups : Prop :=
  (∀ (s : State) (v : BitVec 64), s.bar0On = true →
    (v.toNat % 256 < 8 →
      ∃ t, exec (.glbCommit v) s = .next t ∧ marked t.commits (v.toNat % 256) = true ∧
        (∀ g, g ≠ v.toNat % 256 → marked t.commits g = marked s.commits g) ∧ { t with commits := s.commits } = s) ∧
    (8 ≤ v.toNat % 256 →
      ∃ t, exec (.glbCommit v) s = .next t ∧ t.reg Off.glbCommitStatus = 0x100 ∧
        (∀ p, p ≠ Off.glbCommitStatus → t.reg p = s.reg p) ∧ { t with regs := s.regs } = s)) ∧
  (∀ (s : State) (g : BitVec 3),
    (marked s.commits g.toNat = true → s.safePoint g.toNat = true → Quiet s →
      ∃ t, exec (.commitApplied g) s = .next t ∧ t.reg (groupReg g.toNat) = s.stagedReg (groupReg g.toNat) ∧ marked t.commits g.toNat = false ∧
        (∀ h, h ≠ g.toNat → marked t.commits h = marked s.commits h) ∧
        (∀ p, p ≠ groupReg g.toNat → p ≠ Off.hifEventsLost → p ≠ Off.hifMsixSent → (g.toNat = 3 → p ≠ Off.fabPeersLost) → t.reg p = s.reg p) ∧ t.rooms = s.rooms ∧ t.srv = s.srv ∧
        t.sec = s.sec ∧ t.rbk = s.rbk ∧ t.pwr = s.pwr ∧ t.heldWrites = s.heldWrites.filter (fun e => !decide (e.1 = groupReg g.toNat)) ∧
        (∀ i, regInfo (groupReg g.toNat) = some i → t.stagedReg (groupReg g.toNat) =
          (s.heldWrites.filter (fun e => decide (e.1 = groupReg g.toNat))).foldl
            (fun r e => BitVec.ofNat 64 (writeFields i.fields r.toNat e.2.toNat)) (s.stagedReg (groupReg g.toNat))) ∧
        (∀ o, o ≠ groupReg g.toNat → t.stagedReg o = s.stagedReg o)) ∧
    (∀ (off : BitVec 24) (wide : Bool) (v : BitVec 64) (i : RegInfo), s.bar0On = true → accessOk off.toNat (if wide then 8 else 4) = true →
      regInfo (off.toNat / 8 * 8) = some i → i.access = .cm g.toNat → marked s.commits g.toNat = true →
      exec (.registerWrite off wide v) s = .next { s with heldWrites := s.heldWrites ++ [(off.toNat, v)] }) ∧
    (marked s.commits g.toNat = false ∨ s.safePoint g.toNat = false → exec (.commitApplied g) s = .next s))

/-! ### The Array and the Expander (02, 04) -/

/-- FEED: the planes are exchanged first where SWAP is 1, and then every vector's column totals, or in Plane mode its combined values, are written to the
Scoreboard, or with ACC added with saturation (R35, R36, R40-R43, R49, R50, R56): where a period word sent the FEED, the Scoreboard in Timetable cycle T holds those of the vectors read four
cycles earlier, in Plane mode five, and no later one (R53); a FEED that no period word sent runs to its end in its own command (the model's choice, log entry 12). No other memory of the
Classroom and nothing else of the module changes, but its registers and error marks. -/
def Obligations.FeedUpdatesScoreboard : Prop :=
  ∀ (s : State) (u : Cr) (o : FeedOp), Accepts s u 0 (.feed o) → arrayQuiet (s.room u.idx) → (o.swap = true → ¬ swapMustWait s u o) →
    ∃ t, exec (.feed u o) s = .next t ∧ UnitFrame u.idx s t ∧
      { t.room u.idx with
        sb := (s.room u.idx).sb, sbBad := (s.room u.idx).sbBad, sbCorr := (s.room u.idx).sbCorr, busy := (s.room u.idx).busy
        feeds := [], pipe := [] } = (if o.swap then (s.room u.idx).swap else s.room u.idx) ∧
      ((s.takeOp u 0 (.feed o)).1 = none → (t.room u.idx).feeds = [] ∧ (t.room u.idx).pipe = [] ∧ ∀ c tk, c < 512 →
        (t.room u.idx).sbAt c tk = sbFold o.acc (feedUpdates (s.room u.idx) (frontFor (s.room u.idx) o.swap) o) (s.room u.idx).sbAt c tk) ∧
      ((s.takeOp u 0 (.feed o)).1.isSome = true → ∀ T c tk, s.opCycle u 0 (.feed o) ≤ T → c < 512 → (t.drainView u.idx T).sbAt c tk =
        sbFold o.acc (feedUpdatesBefore (s.room u.idx) (frontFor (s.room u.idx) o.swap) o (s.opCycle u 0 (.feed o)) T) (s.room u.idx).sbAt c tk)

/-- A swap meets a load in progress, or one that an EXP_LOAD of the same or an earlier cycle will begin: the FEED is kept, its vectors are read in their cycles, and the planes stay. Two
cycles after its dispatch the swap is judged: a load that has ended by then has held nothing, and one that has not holds the Wing (R36, R37); a FEED that no period word sent has no cycles to
wait for and holds it at once (the model's choice, log entry 12). Once no load is left the planes are exchanged, the Hold request is withdrawn, the cycles of waiting are counted and the FEED's
vectors pass the Array against the plane that is front then (R36-R38). A load ends at BACK_PLANE_LOAD_COMPLETE, in the Timetable cycle it names.

The parity check of the front plane, made only while the Wing has a step in flight: each Bench segment whose stored bit differs from the parity of its bits is counted
in ARR_PARITY and the pass takes an error mark; without one, or with the Wing idle, nothing changes (R61, R75). -/
def Obligations.PlaneSwapAndParity : Prop :=
  ((∀ (s : State) (u : Cr) (o : FeedOp), Accepts s u 0 (.feed o) → arrayQuiet (s.room u.idx) → o.swap = true → swapMustWait s u o →
    ∃ t f, exec (.feed u o) s = .next t ∧ (t.room u.idx).feeds = [f] ∧ f.op = o ∧ f.swap = true ∧ f.d = s.opCycle u 0 (.feed o) ∧
      f.sent = (s.takeOp u 0 (.feed o)).1.isSome ∧ (t.room u.idx).front = (s.room u.idx).front ∧ (t.room u.idx).back = (s.room u.idx).back ∧
      (t.room u.idx).sb = (s.room u.idx).sb ∧ UnitFrame u.idx s t ∧
      (f.sent = true → (t.seq u.w).held = (s.seq u.w).held ∧ t.holding u.w (swapHold u.c) = s.holding u.w (swapHold u.c)) ∧
      (f.sent = false → (t.seq u.w).held = true ∧ t.holding u.w (swapHold u.c) = true)) ∧
  (∀ (s : State) (e : CrAt) (f : FeedRun), (s.room e.cr.idx).swapFeed = some f → (s.seq e.cr.w).held = false → 0 < (s.room e.cr.idx).loads →
    (∀ c : Room, c ≠ e.cr.c → (s.room (roomIndex e.cr.w c)).swapFeed = none) → (s.ex e.cr.idx).next = [] →
    s.holding e.cr.w (swapHold e.cr.c) = false →
    ∃ t, exec (.backPlaneLoadComplete e) s = .next t ∧ (t.room e.cr.idx).loads + 1 = (s.room e.cr.idx).loads ∧
      (t.room e.cr.idx).front = (s.room e.cr.idx).front ∧
      (f.d + 2 ≤ e.cycle.toNat → (t.seq e.cr.w).held = true ∧ (t.seq e.cr.w).holdT = f.d + 2 ∧ t.holding e.cr.w (swapHold e.cr.c) = true) ∧
      (e.cycle.toNat < f.d + 2 → (t.seq e.cr.w).held = false ∧ t.holding e.cr.w (swapHold e.cr.c) = false)) ∧
  (∀ (s : State) (u : Cr) (n : Nat) (f : FeedRun), (s.room u.idx).feeds = [f] → f.swap = true → (s.room u.idx).pipe = [] → (s.room u.idx).drain = none →
    s.swapReady u f = true → f.next ≤ f.op.count.toNat + 1 →
    f.raw = (List.range f.next).map (fun i =>
      (s.room u.idx).slateBytes (512 * f.op.slate.toNat + (s.room u.idx).back.vecBytes * i) (s.room u.idx).back.vecBytes) →
    ∃ t, exec (.swapAfterLoad u n) s = .next t ∧ (t.room u.idx).front = (s.room u.idx).back ∧ (t.room u.idx).back = (s.room u.idx).front ∧
      (t.room u.idx).swapFeed = none ∧ t.reg (Off.arrSwapWaits u.idx) = s.reg (Off.arrSwapWaits u.idx) + BitVec.ofNat 64 n ∧
      t.holding u.w (swapHold u.c) = false ∧ UnitFrame u.idx s t ∧
      (f.sent = false → ∀ c tk, c < 512 → (t.room u.idx).sbAt c tk =
        sbFold f.op.acc (feedUpdates (s.room u.idx) (s.room u.idx).back f.op) (s.room u.idx).sbAt c tk) ∧
      (f.sent = true → ∀ T c tk, f.d ≤ T → c < 512 → (t.drainView u.idx T).sbAt c tk =
        sbFold f.op.acc (feedUpdatesBefore (s.room u.idx) (s.room u.idx).back f.op f.d T) (s.room u.idx).sbAt c tk)) ∧
  (∀ (s : State) (u : Cr) (n : Nat), (s.room u.idx).swapFeed = none ∨ (∃ f, (s.room u.idx).swapFeed = some f ∧ s.swapReady u f = false) →
    exec (.swapAfterLoad u n) s = .next s) ∧
  (∀ (s : State) (e : CrAt), exec (.backPlaneLoadComplete e) s =
    .next ((s.runTo e.cr.w e.cycle.toNat).modRoom e.cr.idx (fun r => { r with loads := r.loads - 1, ex := { r.ex with selReads := r.ex.selReads.drop 1 } })))) ∧
  (∀ (s : State) (u : Cr),
    ((s.seq u.w).phase ≠ .idle → (s.room u.idx).front.mismatches ≠ 0 →
      ∃ t, exec (.planeParityCheck u) s = .next t ∧
        t.reg (Off.arrParity u.idx) = s.reg (Off.arrParity u.idx) + BitVec.ofNat 64 (s.room u.idx).front.mismatches ∧
        (∀ p, p ≠ Off.arrParity u.idx → t.reg p = s.reg p) ∧ (t.seq u.w).error = true ∧ t.rooms = s.rooms ∧ UnitFrame u.idx s t) ∧
    ((s.seq u.w).phase = .idle ∨ (s.room u.idx).front.mismatches = 0 → exec (.planeParityCheck u) s = .next s))

/-- EXP_TILE, EXP_PLANES, EXP_ACT and EXP_BF16 enter the Expander's queue in order while it has a free entry, each with the due cycle the shadow schedule gives it
(R107-R109); with the queue full the item waits and the Wing is held, until EXP_QUEUE_ENTRY_FREE takes the oldest waiting item. -/
def Obligations.ExpanderQueuesItems : Prop :=
  (∀ (s : State) (u : Cr) (op : SlotOp) (c : Instr) (x : WaitOp SlotOp), itemCmd u op = some c → (s.dispatch u 1 op).1 = some x →
    (s.ex u.idx).queue.length < 8 → (s.ex u.idx).waiting = [] →
    ∃ t i, exec c s = .next t ∧ (t.ex u.idx).queue = (s.ex u.idx).queue ++ [i] ∧ i.op = op ∧ i.phase = .queued ∧ i.ref = x.ref ∧
      i.hdr = (s.itemHeader u.idx op).1 ∧ (i.faulted, i.zero, i.r, i.x) =
        ((itemPlan (s.ex u.idx) op i.hdr).1.isSome, (itemPlan (s.ex u.idx) op i.hdr).2) ∧
      i.due = max (max (x.t + 4) ((s.ex u.idx).sr + (s.ex u.idx).sb) + itemBudget op (max i.r i.x)) ((s.ex u.idx).sx + (s.ex u.idx).sb) +
        itemBudget op (max i.r i.x) ∧
      (t.room u.idx).slate = (s.room u.idx).slate ∧ (∀ j, j ≠ u.idx → t.room j = s.room j)) ∧
  (∀ (s : State) (u : Cr) (op : SlotOp) (c : Instr) (x : WaitOp SlotOp), itemCmd u op = some c → (s.dispatch u 1 op).1 = some x →
    8 ≤ (s.ex u.idx).queue.length → (s.ex u.idx).stuck 1 = false →
    ∃ t, exec c s = .next t ∧ (t.ex u.idx).waiting = (s.ex u.idx).waiting ++ [x] ∧ (t.ex u.idx).queue = (s.ex u.idx).queue ∧
      (t.seq u.w).held = true ∧ t.holding u.w (fullHold u.c) = true ∧ UnitFrame u.idx s t) ∧
  (∀ (s : State) (u : Cr) (x : WaitOp SlotOp) (xs : List (WaitOp SlotOp)), (s.ex u.idx).waiting = x :: xs → (s.ex u.idx).queue.length < 8 →
    ∃ t i, exec (.expQueueEntryFree u) s = .next t ∧ (t.ex u.idx).waiting = xs ∧ (t.ex u.idx).queue = (s.ex u.idx).queue ++ [i] ∧ i.op = x.op ∧
      i.phase = .queued ∧ (xs = [] → t.holding u.w (fullHold u.c) = false))

/-- The phases of the Expander (R108): the Reader takes the oldest item not yet read, whose input is then held with it; a read head of the queue is decoded once its decode
buffer is free; when its expand phase ends it leaves the queue, counted in EXP_ITEMS, and its tile stands in a decode buffer, its activation bytes in the Slate.

A completion and a due check happen in a Timetable cycle, to which the Wing's Arrays have run; with nothing on its way in them only the counter moves. An item that reaches its due cycle holds the Wing, unless the items up to it need more decode buffers than can come free: then it is a BAD_ARG lesson fault that names the
item's word, and every queued item is dropped (R109). -/
def Obligations.ExpanderPhasesAndDueCycle : Prop :=
  ((∀ (s : State) (u : Cr) (n : Nat) (i : ExpItem), (s.ex u.idx).queue.findIdx? (fun j => j.phase == .queued) = some n →
    (s.ex u.idx).queue[n]? = some i → i.faulted = false →
    ∃ t, exec (.expReaderPhaseStart u) s = .next t ∧
      (t.ex u.idx).queue = (s.ex u.idx).fetchDone.queue.set n { i with phase := .reading, payload := (s.itemInput u.idx i).1 } ∧
      (t.room u.idx).slate = (s.room u.idx).slate ∧ UnitFrame u.idx s t) ∧
  (∀ (s : State) (u : Cr) (i : ExpItem) (rest : List ExpItem) (d : Sparse (BitVec 3) × List Byte), (s.ex u.idx).queue = i :: rest →
    i.phase = .fetched ∨ i.phase = .reading → (needsBuffer i.op = true → 0 < (s.room u.idx).freeBuffers) → itemOutput (s.ex u.idx) i = some d →
    ∃ t, exec (.expExpandPhaseStart u) s = .next t ∧ (t.ex u.idx).queue = { i with phase := .expanding, tile := d.1, bytes := d.2 } :: rest ∧
      UnitFrame u.idx s t) ∧
  (∀ (s v : State) (e : CrAt) (i : ExpItem) (rest : List ExpItem), v = s.runTo e.cr.w e.cycle.toNat → (v.ex e.cr.idx).queue = i :: rest → i.phase = .expanding →
    needsBuffer i.op = true → (v.ex e.cr.idx).waitLoad = none →
    ∃ t, exec (.expItemComplete e) s = .next t ∧ (t.ex e.cr.idx).queue = rest ∧ (t.ex e.cr.idx).full = (v.ex e.cr.idx).full ++ [i.tile] ∧
      t.reg (Off.expItems e.cr.idx) = v.reg (Off.expItems e.cr.idx) + 1 ∧ (∀ p, p ≠ Off.expItems e.cr.idx → t.reg p = v.reg p) ∧
      (t.room e.cr.idx).slate = (v.room e.cr.idx).slate ∧ UnitFrame e.cr.idx v t) ∧
  (∀ (s v : State) (e : CrAt) (i : ExpItem) (rest : List ExpItem) (dst : Nat), v = s.runTo e.cr.w e.cycle.toNat → (v.ex e.cr.idx).queue = i :: rest → i.phase = .expanding →
    ((∃ o, i.op = .expAct o ∧ dst = o.dst.toNat) ∨ (∃ o, i.op = .expBf16 o ∧ dst = o.dst.toNat)) → i.bytes.length ≤ slateSize → (v.ex e.cr.idx).waitLoad = none →
    ∃ t, exec (.expItemComplete e) s = .next t ∧ (t.ex e.cr.idx).queue = rest ∧ (t.room e.cr.idx).slateBytes (64 * dst) i.bytes.length = i.bytes ∧
      t.reg (Off.expItems e.cr.idx) = v.reg (Off.expItems e.cr.idx) + 1 ∧ UnitFrame e.cr.idx v t)) ∧
  ((∀ (s v : State) (u : Cr) (n : Nat) (i : ExpItem), (s.ex u.idx).queue.findIdx? (fun j => !j.held) = some n → (s.ex u.idx).queue[n]? = some i →
    v = s.runTo u.w (i.due - 4) → (v.ex u.idx).stuck (n + 1) = false →
    ∃ t, exec (.expItemDue u) s = .next t ∧ (t.ex u.idx).queue = (v.ex u.idx).queue.set n { i with held := true } ∧ (t.seq u.w).held = true ∧
      t.holding u.w (dueHold u.c) = true ∧ (t.seq u.w).count ≤ i.due - 1 ∧ UnitFrame u.idx v t) ∧
  (∀ (s v : State) (u : Cr) (n : Nat) (i : ExpItem), (s.ex u.idx).queue.findIdx? (fun j => !j.held) = some n → (s.ex u.idx).queue[n]? = some i →
    v = s.runTo u.w (i.due - 4) → (v.ex u.idx).stuck (n + 1) = true →
    ∃ t, exec (.expItemDue u) s = .next t ∧ (t.ex u.idx).queue = [] ∧ FaultNoted u.w i.ref i.unit 0x11 v t ∧
      t.reg (Off.expFaults u.idx) = v.reg (Off.expFaults u.idx) + 1 ∧ t.holding u.w (dueHold u.c) = false) ∧
  (∀ (s : State) (w : Wing) (T : Nat), wingQuiet s w → (s.seq w).held = false →
    (s.runTo w T).rooms = s.rooms ∧ (s.runTo w T).regs = s.regs ∧ (s.runTo w T).mem = s.mem ∧ ((s.runTo w T).seq w).t = max (s.seq w).t T))

/-- EXP_LOAD writes the oldest full decode buffer into the back plane with the mode and plane count it names, a fresh parity bit for each segment, and the buffer joins the
load in progress (R34, R61, R110, R111); where a swap of an earlier cycle has still to be judged, the load waits for that (R36, R37); with an item ahead of it that is not complete the Wing is held, and with none it is a BAD_ARG lesson fault. -/
def Obligations.ExpLoadWritesBackPlane : Prop :=
  (∀ (s : State) (u : Cr) (o : ExpLoadOp) (d : Sparse (BitVec 3)) (ds : List (Sparse (BitVec 3))), Accepts s u 1 (.expLoad o) →
    (s.ex u.idx).full = d :: ds → (s.ex u.idx).next = [] →
    (∀ f, (s.room u.idx).swapFeed = some f → s.opCycle u 1 (.expLoad o) ≤ f.d ∨ s.holding u.w (swapHold u.c) = true) →
    ∃ t, exec (.expLoad u o) s = .next t ∧
      (t.room u.idx).back.desk = (if o.mode = 1#2 then withSel (s.ex u.idx).sel (b2n o.selbuf) d else d) ∧
      (t.room u.idx).back.mode = modeOf o.mode ∧ (t.room u.idx).back.p = o.p.toNat ∧
      (t.room u.idx).back.parity = parityBits (t.room u.idx).back.desk ∧ (t.room u.idx).front = (s.room u.idx).front ∧
      (t.room u.idx).loads = (s.room u.idx).loads + 1 ∧ (t.ex u.idx).full = ds ∧
      (t.ex u.idx).selReads = (s.ex u.idx).selReads ++ [if o.mode = 1#2 then some o.selbuf else none] ∧ UnitFrame u.idx s t) ∧
  (∀ (s : State) (u : Cr) (o : ExpLoadOp) (f : FeedRun), Accepts s u 1 (.expLoad o) → (s.ex u.idx).next.length < (s.ex u.idx).full.length →
    (s.room u.idx).swapFeed = some f → f.d < s.opCycle u 1 (.expLoad o) → s.holding u.w (swapHold u.c) = false → 0 < (s.room u.idx).loads →
    ∃ t, exec (.expLoad u o) s = .next t ∧ (t.ex u.idx).next = (s.ex u.idx).next ++ [(o, s.opCycle u 1 (.expLoad o))] ∧
      (t.room u.idx).back = (s.room u.idx).back ∧ (t.room u.idx).loads = (s.room u.idx).loads ∧ (t.ex u.idx).full = (s.ex u.idx).full ∧ UnitFrame u.idx s t) ∧
  (∀ (s : State) (u : Cr) (o : ExpLoadOp), Accepts s u 1 (.expLoad o) → (s.ex u.idx).full = [] →
    (s.ex u.idx).queue.any (fun i => needsBuffer i.op) = true →
    ∃ t, exec (.expLoad u o) s = .next t ∧ (t.ex u.idx).waitLoad.map (·.op) = some o ∧ (t.room u.idx).back = (s.room u.idx).back ∧
      (t.seq u.w).held = true ∧ t.holding u.w (loadHold u.c) = true ∧ UnitFrame u.idx s t) ∧
  (∀ (s : State) (u : Cr) (o : ExpLoadOp) (x : WaitOp SlotOp), (s.dispatch u 1 (.expLoad o)).1 = some x → (s.ex u.idx).full = [] →
    (s.ex u.idx).queue.any (fun i => needsBuffer i.op) = false →
    ∃ t, exec (.expLoad u o) s = .next t ∧ FaultNoted u.w x.ref x.unit 0x11 s t ∧ (t.room u.idx).back = (s.room u.idx).back)

/-- A codebook load of a slot that no queued item names is read at once: the slot's generation rises by one modulo 256, and a valid image whose CRC agrees fills it; a
wrong CRC empties it and is an error counted in EXP_CHECK, lengths that are not valid empty it and are a lesson fault (R100-R104). A load of a slot in use holds the Wing, and CODEBOOK_READ reads it
when the use count is 0.

LOC_PACK writes the packed activation item of its blocks into the Slate at DST and counts the blocks, and a raw item (R113-R115); no other Slate byte changes. -/
def Obligations.CodebookLoadsAndLocPack : Prop :=
  ((∀ (s : State) (u : Cr) (o : ExpCbloadOp) (x : WaitOp SlotOp), (s.dispatch u 1 (.expCbload o)).1 = some x → (s.ex u.idx).uses o.slot.toNat = 0 →
    ∃ t, exec (.expCbload u o) s = .next t ∧ CodebookFilled s t u o x.ref x.unit ∧ (t.room u.idx).slate = (s.room u.idx).slate ∧
      (t.room u.idx).back = (s.room u.idx).back ∧ (t.ex u.idx).queue = (s.ex u.idx).queue ∧ (∀ j, j ≠ u.idx → t.room j = s.room j)) ∧
  (∀ (s : State) (u : Cr) (o : ExpCbloadOp), Accepts s u 1 (.expCbload o) → 0 < (s.ex u.idx).uses o.slot.toNat →
    (s.ex u.idx).stuck ((s.ex u.idx).lastUse o.slot.toNat) = false →
    ∃ t, exec (.expCbload u o) s = .next t ∧ (t.ex u.idx).slots = (s.ex u.idx).slots ∧ (t.ex u.idx).cbLoad.map (·.op) = some o ∧
      (t.seq u.w).held = true ∧ t.holding u.w (cbHold u.c) = true ∧ UnitFrame u.idx s t) ∧
  (∀ (s : State) (u : Cr) (x : WaitOp ExpCbloadOp), (s.ex u.idx).cbLoad = some x → (s.ex u.idx).uses x.op.slot.toNat = 0 →
    ∃ t, exec (.codebookRead u) s = .next t ∧ (t.ex u.idx).cbLoad = none ∧ t.holding u.w (cbHold u.c) = false ∧
      CodebookFilled s t u x.op x.ref x.unit ∧ (t.room u.idx).slate = (s.room u.idx).slate ∧ (t.ex u.idx).queue = (s.ex u.idx).queue) ∧
  (∀ (s : State) (u : Cr), (∀ x, (s.ex u.idx).cbLoad = some x → 0 < (s.ex u.idx).uses x.op.slot.toNat) → exec (.codebookRead u) s = .next s)) ∧
  (∀ (s : State) (u : Cr) (o : LocPackOp), Accepts s u 4 (.locPack o) →
    ∃ t, exec (.locPack u o) s = .next t ∧
      SlateBecomes s t u.idx (32 * o.dst.toNat)
        (packAct o.blocks.toNat ((s.room u.idx).slateBytes (512 * o.src.toNat) (512 * o.blocks.toNat))).1 ∧
      t.reg (Off.locBlocks u.idx) = s.reg (Off.locBlocks u.idx) + BitVec.ofNat 64 o.blocks.toNat ∧
      t.reg (Off.locRaw u.idx) = s.reg (Off.locRaw u.idx) +
        (if (packAct o.blocks.toNat ((s.room u.idx).slateBytes (512 * o.src.toNat) (512 * o.blocks.toNat))).2 then 1 else 0))

/-- QUANT before the check point under a record R68 accepts: each block is counted in VEC_Q_BLOCKS, the accumulators and planes stay, and the Library and Slate alone take what it
writes (R66-R73). Of one block it writes the codes at OUT, the scale used at SCALES and the log record at LOG, and counts what saturated and what became zero; a block past a limit of the record,
or not finite, is trouble (R69-R74). Under a record R68 refuses, or after the check point, it is a BAD_ARG lesson fault and writes nothing. -/
def Obligations.QuantBlocksOrFault : Prop :=
  (∀ (s : State) (u : Cr) (o : QuantOp), Accepts s u 2 (.quant o) → (s.seq u.w).passed = false →
    (readQParam ((s.room u.idx).slateBytes (16 * o.param.toNat) 16)).ok = true →
    ∃ t, exec (.quant u o) s = .next t ∧ t.reg (Off.vecQBlocks u.idx) = s.reg (Off.vecQBlocks u.idx) + BitVec.ofNat 64 (o.blocks.toNat + 1) ∧
      (t.room u.idx).acc = (s.room u.idx).acc ∧ (t.room u.idx).sb = (s.room u.idx).sb ∧ (t.room u.idx).front = (s.room u.idx).front ∧
      (t.room u.idx).back = (s.room u.idx).back ∧ (∀ j, j ≠ u.idx → t.room j = s.room j) ∧ t.mem.hbm = s.mem.hbm ∧ t.mem.host = s.mem.host ∧
      t.hif = s.hif ∧ t.pwr = s.pwr ∧ t.sec = s.sec ∧ t.rbk = s.rbk ∧
      (o.blocks.toNat = 0 →
        let p := readQParam ((s.room u.idx).slateBytes (16 * o.param.toNat) 16)
        let sc := quantScale s u o p
        let r := quantBlock p.width sc.1 (quantInput s u o)
        let inf := r.2.nonfinite || decide (bf16Ceil r.2.absmax = 0x7F80#16)
        let trouble := inf || decide (r.2.sat > p.satLimit) || decide (r.2.zero > p.zeroLimit)
        (t.room u.idx).slateBytes (2 * o.scales.toNat) 2 = leBytes 2 sc.1.toNat ∧
        ((∀ i j, i ≤ o.len.toNat → j < 2 → (64 * o.out.toNat + i) % slateSize ≠ (2 * o.scales.toNat + j) % slateSize) →
          (t.room u.idx).slateBytes (64 * o.out.toNat) (o.len.toNat + 1) = r.1.map (BitVec.ofInt 8)) ∧
        (trouble = false → t.libBytes u.w (8 * o.log.toNat) 8 = logBytes
          { absmax := bf16Ceil r.2.absmax, scale := sc.1, sat := r.2.sat, zero := r.2.zero, width := p.width, trouble := false, nonfinite := false
            rescaled := sc.2 }) ∧
        t.reg (Off.vecQSat u.idx) = s.reg (Off.vecQSat u.idx) + BitVec.ofNat 64 r.2.sat ∧
        t.reg (Off.vecQZero u.idx) = s.reg (Off.vecQZero u.idx) + BitVec.ofNat 64 r.2.zero ∧
        t.reg (Off.vecQTrouble u.idx) = s.reg (Off.vecQTrouble u.idx) + (if trouble then 1 else 0) ∧
        (t.seq u.w).trouble = ((s.seq u.w).trouble || trouble))) ∧
  (∀ (s : State) (u : Cr) (o : QuantOp) (x : WaitOp SlotOp), (s.dispatch u 2 (.quant o)).1 = some x →
    (s.seq u.w).passed = true ∨ (readQParam ((s.room u.idx).slateBytes (16 * o.param.toNat) 16)).ok = false →
    ∃ t, exec (.quant u o) s = .next t ∧ FaultNoted u.w x.ref x.unit 0x11 s t ∧ (t.room u.idx).slate = (s.room u.idx).slate ∧
      t.mem.lib = s.mem.lib)

/-! ### The Timetable (05) -/

/-- A start record that reaches an idle Sequencer whose lesson passes its checks begins the step: the registers are latched, the marks are clear, the Bell epoch is new and the
start record is taken (R127, R128, R148); no other Wing's Sequencer changes. A lesson that fails its checks is a BAD_ARG lesson fault with which the Wing votes at once. A Wing whose
step has not ended accepts none. -/
def Obligations.WingStepStarts : Prop :=
  ∀ (s : State) (w : Wing) (r : StartRec),
    ((s.seq w).phase = .idle → ((s.wingReady w r).findLesson w r.lesson.toNat 0).1.isSome = true →
      ∃ t, exec (.wingStepStart w r) s = .next t ∧ (t.seq w).phase = .starting ∧ (t.seq w).t = 0 ∧ (t.seq w).pass = 0 ∧
        (t.seq w).lesson = r.lesson.toNat ∧ (t.seq w).step = r.step.toNat ∧ (t.seq w).rosterBuf = r.buffer ∧
        (t.seq w).jump = some ⟨r.lesson.toNat, 0⟩ ∧ (t.seq w).latTable = s.regField (Off.seqLessonTable w) 11 19 * 2048 ∧
        (t.seq w).epoch = !(s.seq w).epoch ∧ (t.seq w).bells = (s.seq w).bells2 ∧ (t.seq w).bells2 = [] ∧
        (t.seq w).trouble = false ∧ (t.seq w).sbSat = false ∧ (t.seq w).faults = [] ∧ (t.seq w).sent = [] ∧
        (∀ c : Room, (t.room (roomIndex w c)).busy = []) ∧
        (s.srv.starts.length = 4 → t.srv.starts.getD w.val (some r) = none) ∧ (∀ v, v ≠ w → t.seq v = s.seq v) ∧ t.mem = s.mem ∧ t.hif = s.hif) ∧
    ((s.seq w).phase = .idle → ((s.wingReady w r).findLesson w r.lesson.toNat 0).1 = none →
      ∃ t, exec (.wingStepStart w r) s = .next t ∧ (t.seq w).phase = .checkWait ∧ (t.seq w).faults = [0x11] ∧ (t.seq w).voted = true ∧
        (∀ v, v ≠ w → t.seq v = s.seq v)) ∧
    ((s.seq w).phase ≠ .idle → exec (.wingStepStart w r) s = .next s)

/-- A period word is dispatched only while the Sequencer starts or runs, what the word before sent, its slot operations aside, has been taken, and its cycle is not held. It stands at the dispatch cycle
of the word before plus its DELTA, and the stream goes on after it (R130, R137, R139, R141, R144). The waits that the Wing's Slates counted since the word before are added whether or not one is
(R161 and R163 count them; that the word's command brings them is the model's choice, log entry 17). -/
def Obligations.PeriodWordDispatches : Prop :=
  ∀ (s : State) (w : Wing) (xs : List SlateWaits),
    (∀ ref fs, (s.seq w).phase = .starting ∨ (s.seq w).phase = .running → (s.seq w).clear = true → (s.seq w).pass = 0 →
      s.nextWord w = some (ref, fs) → ((s.seq w).held = true → (s.seq w).wordT + (s.wordAt w ref).delta < (s.seq w).holdT) →
      (s.seq w).wordT + (s.wordAt w ref).delta < 2 ^ 32 → wingQuiet s w →
      ∃ t, exec (.periodWordDispatch ⟨w, xs⟩) s = .next t ∧ (t.seq w).phase = .running ∧ (t.seq w).after = ref ∧ (t.seq w).frames = fs ∧
        (t.seq w).jump = none ∧ (t.seq w).t = (s.seq w).wordT + (s.wordAt w ref).delta ∧ (t.seq w).wordT = (t.seq w).t ∧
        (∃ new, (t.seq w).sent = (s.seq w).sent ++ new ∧ (∀ e, e ∈ new → e.ref = ref ∧ e.t = (t.seq w).t ∧ e.frames = fs) ∧
          ((s.wordAt w ref).bell = true → (s.wordAt w ref).bellWait = false → ∃ e, e ∈ new ∧ e.item = .ring (s.wordAt w ref).bellNum)) ∧
        t.rooms = s.rooms ∧ (∀ v, v ≠ w → t.seq v = s.seq v)) ∧
    ((s.seq w).clear = false ∨ s.nextWord w = none ∨ ((s.seq w).phase ≠ .starting ∧ (s.seq w).phase ≠ .running) →
      exec (.periodWordDispatch ⟨w, xs⟩) s = .next (s.slateWaits w xs)) ∧
    (∀ ref fs, s.nextWord w = some (ref, fs) → (s.seq w).pass = 0 → (s.seq w).held = true →
      (s.seq w).clear = true → (s.seq w).phase = .starting ∨ (s.seq w).phase = .running → (s.seq w).holdT ≤ (s.seq w).wordT + (s.wordAt w ref).delta →
      exec (.periodWordDispatch ⟨w, xs⟩) s = .next ((s.slateWaits w xs).runTo w ((s.seq w).wordT + (s.wordAt w ref).delta)))

/-- LOOP opens a frame over the BODY words that follow it, to run COUNT + 1 times, or as often as the Roster count it names says; a count of zero skips the body; CALL of a VALID subroutine lesson opens a
call frame and goes to its first word; a Roster count above 65,536, a seventeenth loop and a ninth call level are BAD_ARG lesson faults, and the loop's body is then not run (R140-R142, R155). While its
cycle is held neither acts (R144). -/
def Obligations.LoopAndCallFrames : Prop :=
  ∀ (s : State) (w : Wing),
    (∀ (o : LoopOp) (n : Nat), opInRange (.loop o) = true → s.itemHeld w (.control (.loop o)) = false →
      ((s.takeItem w (.control (.loop o))).2.2.loopCount w o).1 = some (n + 1) → (loopsOf (s.seq w).frames).length < 16 →
      ∃ t, exec (.loop w o) s = .next t ∧ (t.seq w).frames =
        .loop ((s.takeItem w (.control (.loop o))).1.word + 1) ((s.takeItem w (.control (.loop o))).1.word + o.body.toNat) (n + 1) 0
          (if o.roster then some (o.count.toNat % 64) else none) :: (s.seq w).frames ∧
        t.rooms = s.rooms ∧ t.mem = s.mem ∧ (∀ v, v ≠ w → t.seq v = s.seq v)) ∧
    (∀ (o : LoopOp), o.roster = false → (s.loopCount w o).1 = some (o.count.toNat + 1)) ∧
    (∀ (o : LoopOp), opInRange (.loop o) = true → s.itemHeld w (.control (.loop o)) = false →
      ((s.takeItem w (.control (.loop o))).2.2.loopCount w o).1 = some 0 →
      ∃ t, exec (.loop w o) s = .next t ∧ (t.seq w).frames = (s.seq w).frames ∧ (t.seq w).faults = (s.seq w).faults ∧
        (t.seq w).after = ⟨(s.takeItem w (.control (.loop o))).1.lesson, (s.takeItem w (.control (.loop o))).1.word + o.body.toNat⟩) ∧
    (∀ (o : LoopOp), opInRange (.loop o) = true → s.itemHeld w (.control (.loop o)) = false →
      ((s.takeItem w (.control (.loop o))).2.2.loopCount w o).1 = none ∨
        (((s.takeItem w (.control (.loop o))).2.2.loopCount w o).1 ≠ some 0 ∧ 16 ≤ (loopsOf (s.seq w).frames).length) →
      ∃ t, exec (.loop w o) s = .next t ∧ (t.seq w).frames = (s.seq w).frames ∧ (t.seq w).faults = (s.seq w).faults ++ [0x11] ∧
        (t.seq w).after = ⟨(s.takeItem w (.control (.loop o))).1.lesson, (s.takeItem w (.control (.loop o))).1.word + o.body.toNat⟩) ∧
    (∀ o : CallOp, s.itemHeld w (.control (.call o)) = false → depthOf (s.seq w).frames < 8 →
      (((s.takeItem w (.control (.call o))).2.2).findLesson w o.lesson.toNat 1).1.isSome = true →
      ∃ t, exec (.call w o) s = .next t ∧ (t.seq w).frames = .call (s.takeItem w (.control (.call o))).1 :: (s.seq w).frames ∧
        (t.seq w).jump = some ⟨o.lesson.toNat, 0⟩ ∧ t.rooms = s.rooms ∧ t.mem = s.mem) ∧
    (∀ o : CallOp, s.itemHeld w (.control (.call o)) = false → 8 ≤ depthOf (s.seq w).frames →
      ∃ t, exec (.call w o) s = .next t ∧ (t.seq w).frames = (s.seq w).frames ∧ (t.seq w).faults = (s.seq w).faults ++ [0x11]) ∧
    (∀ o : LoopOp, s.itemHeld w (.control (.loop o)) = true → exec (.loop w o) s = .next s) ∧
    (∀ o : CallOp, s.itemHeld w (.control (.call o)) = true → exec (.call w o) s = .next s)

/-- Bells: a ring raises the Bell's count in each of the four Wings by one, to 65,535 at most, in the set of the ringer's epoch parity, and no other Bell's; a wait is judged
from the local count as it stood four cycles before its own (R143, R147; that a ring of that cycle is in it is the model's reading, log entry 131): with its target reached it passes, and any
other holds the Wing from the wait's own cycle, its request with cause BELL_WAIT withdrawn at once where the count has reached the target by now; one that has held for a limit that is not 0 becomes a BAD_ARG lesson fault
and is given up (R147-R149). A ring or a wait whose cycle is held does not act yet (R144). -/
def Obligations.BellsRingAndWait : Prop :=
  (∀ (s : State) (w v : Wing) (n : BitVec 6), s.itemHeld w (.ring n.toNat) = false →
    ∃ t, exec (.bellRing w n) s = .next t ∧
      bellCount (if (s.seq v).epoch = (s.seq w).epoch then (t.seq v).bells else (t.seq v).bells2) n.toNat =
        min (bellCount (if (s.seq v).epoch = (s.seq w).epoch then (s.seq v).bells else (s.seq v).bells2) n.toNat + 1) 65535 ∧
      (∀ m, m ≠ n.toNat → bellCount (t.seq v).bells m = bellCount (s.seq v).bells m ∧ bellCount (t.seq v).bells2 m = bellCount (s.seq v).bells2 m) ∧
      t.rooms = s.rooms ∧ t.srv = s.srv ∧ t.pwr = s.pwr ∧ t.sec = s.sec ∧ t.rbk = s.rbk) ∧
  (∀ (s : State) (w : Wing) (n : BitVec 6), s.itemHeld w (.ring n.toNat) = true → exec (.bellRing w n) s = .next s) ∧
  (∀ (s : State) (w : Wing) (n : BitVec 6) (target : BitVec 16),
    ((s.seq w).held = true → (s.takeItem w (.wait n.toNat target.toNat)).2.1 < (s.seq w).holdT) →
    ∃ t, exec (.bellWait w n target) s = .next t ∧ (t.seq w).bells = (s.seq w).bells ∧ (t.seq w).waitT = none ∧ t.rooms = s.rooms ∧ t.mem = s.mem ∧
      (target.toNat ≤ (s.seq w).bellKnown n.toNat (s.takeItem w (.wait n.toNat target.toNat)).2.1 →
        (t.seq w).held = (s.seq w).held ∧ (t.seq w).holds = (s.seq w).holds ∧ (t.seq w).wait = (s.seq w).wait) ∧
      ((s.seq w).bellKnown n.toNat (s.takeItem w (.wait n.toNat target.toNat)).2.1 < target.toNat →
        (t.seq w).held = true ∧ (t.seq w).heldBack (s.takeItem w (.wait n.toNat target.toNat)).2.1 = true ∧
        (target.toNat ≤ bellCount (s.seq w).bells n.toNat → t.holding w bellHold = false ∧ (t.seq w).wait = (s.seq w).wait) ∧
        (bellCount (s.seq w).bells n.toNat < target.toNat →
          t.holding w bellHold = true ∧ (t.seq w).wait.map (fun x => (x.1, x.2.1)) = some (n.toNat, target.toNat)))) ∧
  (∀ (s : State) (w : Wing) (n : BitVec 6) (target : BitVec 16), (s.seq w).held = true →
    (s.seq w).holdT ≤ (s.takeItem w (.wait n.toNat target.toNat)).2.1 → exec (.bellWait w n target) s = .next s) ∧
  (∀ (s : State) (w : Wing) (n target : Nat) (ref : WordRef), (s.seq w).wait = some (n, target, ref) →
    ((s.seq w).latLimit ≠ 0 →
      ∃ t, exec (.bellTimeout w) s = .next t ∧ (t.seq w).wait = none ∧ t.holding w bellHold = false ∧ FaultNoted w ref 0x40 0x11 s t ∧
        t.reg (Off.seqBellTimeouts w) = s.reg (Off.seqBellTimeouts w) + 1) ∧
    ((s.seq w).latLimit = 0 → exec (.bellTimeout w) s = .next s))

/-- The Hold: a request stops the counter, and a Hold that begins is counted in SEQ_HOLDS; the counter goes on only at TIMETABLE_RESUME, when no request but those the resumption
itself serves is active, the Arrays having run to the held cycle, and the held cycles are counted in total and by cause (R143-R146). A request raised where the counter stands holds the cycle four
on. NARROW_STARVED counts the starved request and its sixteen cycles of waiting (the count at that command is the model's choice, log entry 17), and holds the Wing. -/
def Obligations.HoldAndResume : Prop :=
  (∀ (s : State) (w : Wing) (cause : HoldCause) (room : Option Room),
    ∃ t, exec (.holdRequest w cause room) s = .next t ∧ (t.seq w).held = true ∧ t.holding w { cause := cause, room := room, unit := 60 } = true ∧
      (t.seq w).t = (s.seq w).t ∧ (t.seq w).holdT = (if (s.seq w).held then min (s.seq w).holdT ((s.seq w).count + 4) else (s.seq w).t + 4) ∧
      t.reg (Off.seqHolds w) = (if (s.seq w).held then s.reg (Off.seqHolds w) else s.reg (Off.seqHolds w) + 1) ∧
      (∀ p, p ≠ Off.seqHolds w → t.reg p = s.reg p) ∧ (∀ v, v ≠ w → t.seq v = s.seq v) ∧ t.rooms = s.rooms ∧ t.mem = s.mem ∧ t.hif = s.hif) ∧
  (∀ (s v : State) (w : Wing) (h : HeldCycles), (s.seq w).held = true → (s.seq w).holds.all HoldReq.transient = true → v = s.runTo w (s.seq w).holdT →
    ∃ t, exec (.timetableResume w h) s = .next t ∧ (t.seq w).held = false ∧ (t.seq w).holds = [] ∧ (t.seq w).t = (v.seq w).t ∧
      t.reg (Off.seqHoldCycles w) = v.reg (Off.seqHoldCycles w) + BitVec.ofNat 64 h.total ∧
      t.reg (Off.seqHoldDataLate w) = v.reg (Off.seqHoldDataLate w) + BitVec.ofNat 64 h.dataLate ∧
      t.reg (Off.seqHoldExpanderLate w) = v.reg (Off.seqHoldExpanderLate w) + BitVec.ofNat 64 h.expanderLate ∧
      t.reg (Off.seqHoldBellWait w) = v.reg (Off.seqHoldBellWait w) + BitVec.ofNat 64 h.bellWait ∧
      t.reg (Off.seqHoldCodebookBusy w) = v.reg (Off.seqHoldCodebookBusy w) + BitVec.ofNat 64 h.codebookBusy ∧
      t.reg (Off.seqHoldNarrowStarved w) = v.reg (Off.seqHoldNarrowStarved w) + BitVec.ofNat 64 h.narrowStarved ∧ t.rooms = v.rooms ∧ t.mem = v.mem) ∧
  (∀ (s : State) (w : Wing) (h : HeldCycles), (s.seq w).held = false ∨ (s.seq w).holds.all HoldReq.transient = false →
    exec (.timetableResume w h) s = .next s) ∧
  (∀ (s : State) (u : Cr) (port : Fin 3),
    ∃ t, exec (.narrowStarved u port) s = .next t ∧ (t.seq u.w).held = true ∧ t.reg (Off.sltStarved u.idx) = s.reg (Off.sltStarved u.idx) + 1 ∧
      t.reg (Off.sltNarrowWaits u.idx) = s.reg (Off.sltNarrowWaits u.idx) + 16 ∧ t.rooms = s.rooms ∧ UnitFrame u.idx s t)

/-- Step points: the replay point enters a new Bell epoch and empties every codebook slot of the Wing; a check or commit point word stops the counter and the Wing waits; the Wing
votes what its pass marked once every transfer has landed and no Expander has work left, the updates of the step point's own cycle and the rest of a drain among it; the vote is one flit of
channel 3 of its office link (R78, R145, R150, R151, R154; one flit is the model's choice, log entry 102). A step point whose cycle is held waits (R144). -/
def Obligations.StepPoints : Prop :=
  (∀ (s : State) (w : Wing), s.itemHeld w .replay = false → (s.seq w).pass = 0 →
    ∃ t, exec (.replayPoint w) s = .next t ∧ (t.seq w).epoch = !(s.seq w).epoch ∧ (t.seq w).bells = (s.seq w).bells2 ∧ (t.seq w).bells2 = [] ∧
      (∀ c : Room, (t.ex (roomIndex w c)).slots = []) ∧ (t.seq w).replayRef = some (s.takeItem w .replay).1 ∧
      (t.seq w).replayT = (s.takeItem w .replay).2.1 ∧ (∀ v, v ≠ w → t.seq v = s.seq v)) ∧
  (∀ (s : State) (w : Wing), s.itemHeld w .replay = false → (s.seq w).pass ≠ 0 →
    ∃ t, exec (.replayPoint w) s = .next t ∧ (t.seq w).t = (s.seq w).replayT ∧ (t.seq w).wordT = (s.seq w).replayT ∧
      (∀ c : Room, (t.ex (roomIndex w c)).slots = [])) ∧
  (∀ (s : State) (w : Wing), (s.itemHeld w .replay = true → exec (.replayPoint w) s = .next s) ∧
    (s.itemHeld w .check = true → exec (.checkPointWord w) s = .next s) ∧ (s.itemHeld w .commit = true → exec (.commitPointWord w) s = .next s)) ∧
  (∀ (s : State) (w : Wing), (s.seq w).phase = .running →
    (s.itemHeld w .check = false → ∃ t, exec (.checkPointWord w) s = .next t ∧ (t.seq w).phase = .checkWait ∧ (t.seq w).passed = true ∧ (t.seq w).held = true ∧
      (t.seq w).t = (s.seq w).t ∧ (∀ v, v ≠ w → t.seq v = s.seq v) ∧ t.rooms = s.rooms) ∧
    (s.itemHeld w .commit = false → ∃ t, exec (.commitPointWord w) s = .next t ∧ (t.seq w).phase = .commitWait ∧ (t.seq w).held = true ∧ (t.seq w).t = (s.seq w).t ∧
      (∀ v, v ≠ w → t.seq v = s.seq v) ∧ t.rooms = s.rooms)) ∧
  (∀ (s v : State) (w : Wing), s.srv.votes.length = 4 → (s.seq w).phase = .checkWait → (s.seq w).voted = false → s.drained w = true → v = s.pointEnd w →
    ∃ t, exec (.checkVote w) s = .next t ∧ t.srv.votes = v.srv.votes.set w.val (some (v.seq w).vote) ∧ (t.seq w).voted = true ∧
      t.rooms = v.rooms ∧ { t.mem with links := v.mem.links } = v.mem ∧ (∀ x, x ≠ w → t.seq x = v.seq x) ∧
      t.flits ⟨officeLink w, false⟩ 3 = (v.flits ⟨officeLink w, false⟩ 3 + 1) % 2 ^ 32) ∧
  (∀ (s : State) (w : Wing), s.drained w = false → exec (.checkVote w) s = .next s)

/-- The verdict of a check point on four votes is that of R76 and R297, with lesson faults first; COMMIT lets the Wings go on, and either replay is counted, starts the next
pass and is sent to every Wing (R75-R78, R364). -/
def Obligations.CheckPointVerdictJudges : Prop :=
  (∀ (s : State) (vs : List Vote), Quiet s → s.srv.inFlight = true → s.srv.votes = vs.map some → s.srv.toWing.all (·.isNone) = true → s.asmQuiet = true →
    s.asm.all (fun e => e.2.failed.isEmpty) = true →
    (judge (joinVotes vs) s.srv.pass s.srv.limit = .commit →
      ∃ t, exec .checkPointVerdict s = .next t ∧ t.srv.toWing = List.replicate 4 (some .commit) ∧ t.srv.checkVote = joinVotes vs ∧
        t.srv.pass = s.srv.pass ∧ t.srv.inFlight = true ∧ t.rooms = s.rooms ∧ t.wings = s.wings) ∧
    (∀ (d : Verdict) (p : Nat), (d = .replaySame ∧ p = Off.srvReplaysError) ∨ (d = .replayRescale ∧ p = Off.srvReplaysTrouble) →
      judge (joinVotes vs) s.srv.pass s.srv.limit = d →
      ∃ t, exec .checkPointVerdict s = .next t ∧ t.srv.toWing = List.replicate 4 (some d) ∧ t.srv.pass = s.srv.pass + 1 ∧
        t.srv.inFlight = true ∧ t.reg p = s.reg p + 1 ∧ t.rooms = s.rooms ∧ t.wings = s.wings)) ∧
  (∀ (v : Vote) (n lim : Nat),
    (v.faults = [] → v.repair = false → v.error = false → v.trouble = false → v.sbSat = false → judge v n lim = .commit) ∧
    (v.faults = [] → v.repair = false → v.error = true → n < lim → judge v n lim = .replaySame) ∧
    (v.faults = [] → v.repair = false → v.error = true → lim ≤ n → judge v n lim = .fail) ∧
    (v.faults = [] → v.repair = false → v.error = false → v.trouble = true ∨ v.sbSat = true → n < lim → judge v n lim = .replayRescale) ∧
    (v.faults = [] → v.repair = false → v.error = false → v.trouble = true ∨ v.sbSat = true → lim ≤ n → judge v n lim = .commit) ∧
    (v.faults = [] → v.repair = true → judge v n lim = .repair) ∧
    (∀ f fs, v.faults = f :: fs → judge v n lim = .fault (lowest (f :: fs))))

/-- What a Wing does on its verdict (R78, R154): COMMIT at the check point lets it go on with its trouble marks cleared and what was detected since the check point kept for the commit point, and at the commit point ends its step; a replay begins the
next pass at the replay point; any other verdict ends its step. -/
def Obligations.WingActsOnVerdict : Prop :=
  ∀ (s : State) (w : Wing) (v : Verdict), s.srv.toWing[w.val]? = some (some v) →
    ((s.seq w).phase = .checkWait → v = .commit →
      ∃ t, exec (.verdictReceived w) s = .next t ∧ (t.seq w).phase = .running ∧ (t.seq w).trouble = false ∧ (t.seq w).error = (s.seq w).error ∧
        (t.seq w).sbSat = false ∧ (t.seq w).faults = (s.seq w).faults ∧ t.holding w pointHold = false ∧ t.rooms = s.rooms ∧ t.srv.toWing = s.srv.toWing.set w.val none) ∧
    ((s.seq w).phase = .checkWait ∨ (s.seq w).phase = .commitWait → ∀ b, v = (if b then .replayRescale else .replaySame) →
      ∃ t, exec (.verdictReceived w) s = .next t ∧ (t.seq w).phase = .running ∧ (t.seq w).pass = (s.seq w).pass + 1 ∧ (t.seq w).rescale = b ∧
        (t.seq w).jump = (s.seq w).replayRef ∧ (t.seq w).t = (s.seq w).replayT ∧ (t.seq w).frames = [] ∧ (t.seq w).faults = [] ∧ t.holding w pointHold = false) ∧
    (((s.seq w).phase = .commitWait ∧ v = .commit) ∨
      (((s.seq w).phase = .checkWait ∨ (s.seq w).phase = .commitWait) ∧ (v = .fail ∨ v = .repair ∨ ∃ st, v = .fault st)) →
      ∃ t, exec (.verdictReceived w) s = .next t ∧ (t.seq w).phase = .idle ∧ t.reg (Off.seqSteps w) = s.reg (Off.seqSteps w) + 1 ∧
        (t.seq w).sent = [] ∧ t.rooms = s.rooms ∧ t.srv.toWing = s.srv.toWing.set w.val none)

/-- When all four Wings stand drained at the commit point without fault or error, the step commits: every Wing is told so and no step is in
flight (R154); the power state and the Rollbook stay, unless the commit finds a count of its ledgers broken (R454). -/
def Obligations.CommitDecisionCommits : Prop :=
  ∀ (s v : State) (i : Image), Quiet s → s.srv.inFlight = true → s.srv.toWing.all (·.isNone) = true → s.asmQuiet = true →
    s.asm.all (fun e => e.2.failed.isEmpty) = true → (∀ w : Wing, (s.seq w).phase = .commitWait ∧ s.drained w = true) →
    v = (List.finRange 4).foldl (fun x w => x.pointEnd w) s →
    (∀ w : Wing, (v.seq w).faults = [] ∧ (v.seq w).error = false ∧ (v.seq w).repair = false) → v.image v.srv.plan.slot = some i →
    v.commit.err.due = none →
    ∃ t, exec .commitDecision s = .next t ∧ t.srv.inFlight = false ∧ t.srv.toWing = List.replicate 4 (some .commit) ∧ t.pwr = s.pwr ∧
      t.rbk = s.rbk

/-- Movers: an accepted operation on a Mover with a free entry becomes its newest transfer when its plan moves something, is a BAD_ARG lesson fault when the plan shows a bad
range, and with sixteen transfers outstanding waits with the Wing held (R135, R136, R226). -/
def Obligations.MoversQueueTransfers : Prop :=
  (∀ (s : State) (m : MoverId) (op : SlotOp) (c : Instr) (x : WaitOp SlotOp), moverCmd m op = some c →
    (s.dispatch m.cr (moverUnit m) op).1 = some x → (s.xfers m).length < 16 →
    (∀ g, (((s.dispatch m.cr (moverUnit m) op).2).planXfer m x).1 = .go g →
      ∃ t, exec c s = .next t ∧ t.xfers m = (((s.dispatch m.cr (moverUnit m) op).2).planXfer m x).2.xfers m ++ [g]) ∧
    ((((s.dispatch m.cr (moverUnit m) op).2).planXfer m x).1 = .fault →
      ∃ t, exec c s = .next t ∧ FaultNoted m.w x.ref x.unit 0x11 (((s.dispatch m.cr (moverUnit m) op).2).planXfer m x).2 t) ∧
    ((((s.dispatch m.cr (moverUnit m) op).2).planXfer m x).1 = .nothing →
      exec c s = .next (((s.dispatch m.cr (moverUnit m) op).2).planXfer m x).2)) ∧
  (∀ (s : State) (m : MoverId) (op : SlotOp) (c : Instr) (x : WaitOp SlotOp), moverCmd m op = some c →
    (s.dispatch m.cr (moverUnit m) op).1 = some x → 16 ≤ (s.xfers m).length →
    ∃ t, exec c s = .next t ∧ (t.room m.cr.idx).movWait = (s.room m.cr.idx).movWait ++ [(m.m, x)] ∧ t.xfers m = s.xfers m ∧
      (t.seq m.w).held = true ∧ t.holding m.w (moverHold m) = true ∧ t.mem = s.mem ∧ UnitFrame m.cr.idx s t)

/-- A transfer lands in a Timetable cycle, to which the Wing's Arrays have run, and leaves its Mover's list; an inward transfer of one piece of good T1 sectors into the Slate puts the source bytes at its Slate address, wrapping (R136, R158). A transfer
not landed four cycles before its due cycle holds the Wing from that cycle on (R136, R143). -/
def Obligations.TransfersLand : Prop :=
  (∀ (s v : State) (m : MoverId) (l : Landing) (x : Xfer) (g : Seg), Quiet s → v = s.runTo m.w l.cycle.toNat → (v.xfers m)[l.index.toNat]? = some x →
    x.out = false → x.sel = none → x.segs = [g] →
    (∀ w o, placeOf g.dev ≠ .lib w o) → g.len ≤ slateSize → (v.room m.cr.idx).movWait = [] →
    (∀ y, y ∈ sectors g.dev g.len → v.sectorBad y = false) →
    ∃ t, exec (.moverTransferLand m l) s = .next t ∧ t.xfers m = (v.xfers m).eraseIdx l.index.toNat ∧
      (t.room m.cr.idx).slateBytes g.slate g.len = v.hbmBytes g.dev g.len ∧
      (∀ a, a < slateSize → g.len ≤ (a + slateSize - g.slate % slateSize) % slateSize →
        Memory.read (t.room m.cr.idx).slate a = Memory.read (v.room m.cr.idx).slate a) ∧
      (∀ j, j ≠ m.cr.idx → (t.room j).slate = (v.room j).slate)) ∧
  (∀ (s v : State) (m : MoverId) (i : BitVec 4) (x : Xfer) (d : Nat), (s.xfers m)[i.toNat]? = some x → x.due = some d →
    v = (s.setXfers m ((s.xfers m).set i.toNat { x with late := true })).runTo m.w (d - 4) →
    ∃ t, exec (.moverDueCheck m i) s = .next t ∧ t.xfers m = (s.xfers m).set i.toNat { x with late := true } ∧ (t.seq m.w).held = true ∧
      (t.seq m.w).t = (v.seq m.w).t ∧ (t.seq m.w).holdT = (if (v.seq m.w).held then min (v.seq m.w).holdT d else d) ∧ t.holding m.w (lateHold m) = true ∧ t.mem = v.mem)

/-! ### The Vector and Reduce units, the Slate and the Library (06, 08) -/

/-- VEC_DRAIN writes t * S to each accumulator of its tokens, or with FOLD adds it with one rounding; MARGIN_ADD adds s_z * t_u in one rounding (R57, R83, R171; for MARGIN_ADD the
operand layout is the model's, log entry 15). A drain that a period word sent reads group j of its columns in its j-th cycle, each entry as the Scoreboard holds it in that cycle, and has written every
accumulator once its cycles have passed (R53, R171); one that no period word sent reads them all in its own command (the model's choice, log entry 12), and changes nothing else. With nothing on
its way in the Array every entry is what the Scoreboard holds. -/
def Obligations.DrainAndMarginAdd : Prop :=
  (∀ (s : State) (u : Cr) (c : Instr) (op : SlotOp) (fold : Bool) (base : Nat) (token ntok : BitVec 9), DrainCmd u c op fold base token ntok → Accepts s u 2 op →
    (s.room u.idx).drain = none →
    ∃ t, exec c s = .next t ∧
      ((s.takeOp u 2 op).1 = none → AccRows s t u token ntok (fun i c tk old =>
        drainValue fold (slateBf16 (s.room u.idx) (base + 2 * i)) ((s.room u.idx).sbAt c tk) old)) ∧
      ((s.takeOp u 2 op).1.isSome = true → { t.room u.idx with drain := none, busy := (s.room u.idx).busy } = s.room u.idx ∧ UnitFrame u.idx s t ∧
        ∀ T i c tk, s.opCycle u 2 op + 8 * (ntok.toNat + 1) ≤ T → c < 512 → tk < 512 → tokenIndex token ntok tk = some i →
          ((t.arrayTo u.idx T).room u.idx).accAt c tk =
            drainValue fold (slateBf16 (s.room u.idx) (base + 2 * i)) (drained s u.idx (s.opCycle u 2 op) i c tk) ((s.room u.idx).accAt c tk))) ∧
  (∀ (s : State) (k : Fin 32) (d i c tk : Nat), arrayQuiet (s.room k) → drained s k d i c tk = (s.room k).sbAt c tk) ∧
  (∀ (scale old : F32) (e : Int), drainValue true scale e old = ffma scale (ofInt e) old ∧ drainValue false scale e old = fmul scale (ofInt e))

/-- The VEC_APPLY functions on accumulators (R173): SCALE_COLS, SCALE_ROWS, ADD_ROWS, NORM_ROWS and SILU_MUL give each accumulator of their tokens the value the rule's table gives,
and change nothing else. -/
def Obligations.VectorApplyFunctions : Prop :=
  ∀ (s : State) (u : Cr) (o : VecApplyOp),
    (Accepts s u 2 (.vecApply .scaleCols o) →
      ∃ t, exec (.scaleCols u o) s = .next t ∧ AccRows s t u o.token o.ntok (fun _ c _ old =>
        fmul (slateBf16 (s.room u.idx) (applyA o + 2 * c)) old)) ∧
    (Accepts s u 2 (.vecApply .scaleRows o) →
      ∃ t, exec (.scaleRows u o) s = .next t ∧ AccRows s t u o.token o.ntok (fun i _ _ old =>
        fmul (slateBf16 (s.room u.idx) (applyA o + 2 * i)) old)) ∧
    (Accepts s u 2 (.vecApply .addRows o) →
      ∃ t, exec (.addRows u o) s = .next t ∧ AccRows s t u o.token o.ntok (fun i c _ old =>
        fadd old (slateBf16 (s.room u.idx) (applyA o + 1024 * i + 2 * c)))) ∧
    (Accepts s u 2 (.vecApply .normRows o) →
      ∃ t, exec (.normRows u o) s = .next t ∧ AccRows s t u o.token o.ntok (fun i c _ old =>
        fmul (fmul old (fdiv f32One (fsqrt (fadd (fmul (slateF32 (s.room u.idx) (applyA o + 1040 + 4 * i)) (slateF32 (s.room u.idx) (applyA o)))
          (slateF32 (s.room u.idx) (applyA o + 4)))))) (slateBf16 (s.room u.idx) (applyA o + 16 + 2 * c)))) ∧
    (Accepts s u 2 (.vecApply .siluMul o) →
      ∃ t, exec (.siluMul u o) s = .next t ∧ AccRows s t u o.token o.ntok (fun _ c tk old =>
        if c < 256 then fmul (fmul old (fdiv f32One (fadd f32One (fexp (fneg old))))) ((s.room u.idx).accAt (c + 256) tk) else 0))

/-- SUMSQ, RED_TOPK and RED_MAXSUM write their results, and SLT_FILL and SLT_COPY their bytes, into the Slate where their operands say, SLT_COPY having read its whole source
first; no other byte changes (R166, R167, R173, R237, R273). -/
def Obligations.SlateResults : Prop :=
  ∀ (s : State) (u : Cr),
    (∀ o : VecApplyOp, Accepts s u 2 (.vecApply .sumsq o) →
      ∃ t, exec (.sumsq u o) s = .next t ∧ SlateBecomes s t u.idx (applyA o)
        ((tokens o.token o.ntok).flatMap (fun e => leBytes 4 ((s.room u.idx).sumsq e.2).toNat))) ∧
    (∀ o : RedTopkOp, Accepts s u 3 (.redTopk o) →
      ∃ t, exec (.redTopk u o) s = .next t ∧ SlateBecomes s t u.idx (32 * o.dst.toNat)
        ((topK (o.k.toNat + 1) (f32s (512 * (o.nblk.toNat + 1)) ((s.room u.idx).slateBytes (32 * o.src.toNat) (4 * (512 * (o.nblk.toNat + 1)))))).flatMap
          (fun e => leBytes 4 e.1.toNat ++ leBytes 4 e.2))) ∧
    (∀ o : RedMaxsumOp, Accepts s u 3 (.redMaxsum o) →
      ∃ t, exec (.redMaxsum u o) s = .next t ∧ SlateBecomes s t u.idx (32 * o.dst.toNat)
        (let r := maxSum (f32s (512 * (o.nblk.toNat + 1)) ((s.room u.idx).slateBytes (32 * o.src.toNat) (4 * (512 * (o.nblk.toNat + 1)))))
         leBytes 4 r.1.toNat ++ leBytes 4 r.2.toNat)) ∧
    (∀ o : SltFillOp, Accepts s u 7 (.sltFill o) →
      ∃ t, exec (.sltFill u o) s = .next t ∧ SlateBecomes s t u.idx (32 * o.dst.toNat)
        (List.replicate (16 * (o.len.toNat + 1)) (leBytes 2 o.value.toNat)).flatten) ∧
    (∀ o : SltCopyOp, Accepts s u 7 (.sltCopy o) →
      ∃ t, exec (.sltCopy u o) s = .next t ∧ SlateBecomes s t u.idx (32 * o.dst.toNat)
        ((s.room u.idx).slateBytes (32 * o.src.toNat) (32 * (o.len.toNat + 1))))

/-- ROTATE turns each pair of its columns by the cosine and sine of its token and position and leaves every other accumulator; an NCOL that is no multiple of D, or columns past
511, are a BAD_ARG lesson fault (R236; D = 0 counts as such a fault, log entry 14). -/
def Obligations.RotateTurnsPairs : Prop :=
  ∀ (s : State) (u : Cr) (o : VecApplyOp) (x : WaitOp SlotOp), (s.dispatch u 2 (.vecApply .rotate o)).1 = some x →
    (let r := s.room u.idx
     let d := r.slateLE (applyA o) 2
     let col := r.slateLE (applyA o + 2) 2
     let n := r.slateLE (applyA o + 4) 2
     (d ≠ 0 → n % d = 0 → col + n ≤ 512 →
       ∃ t, exec (.rotate u o) s = .next t ∧
         (∀ c tk, c < 512 → tk < 512 → (c < col ∨ col + n ≤ c ∨ tokenIndex o.token o.ntok tk = none) → (t.room u.idx).accAt c tk = r.accAt c tk) ∧
         (∀ j q tk i, tokenIndex o.token o.ntok tk = some i → tk < 512 → q < n / d → j < d / 2 →
           (t.room u.idx).accAt (col + d * q + j) tk =
             ffma (fneg (r.accAt (col + d * q + j + d / 2) tk)) (slateF32 r (applyA o + 16 + 4 * d * i + 8 * j + 4))
               (fmul (r.accAt (col + d * q + j) tk) (slateF32 r (applyA o + 16 + 4 * d * i + 8 * j))) ∧
           (t.room u.idx).accAt (col + d * q + j + d / 2) tk =
             ffma (r.accAt (col + d * q + j + d / 2) tk) (slateF32 r (applyA o + 16 + 4 * d * i + 8 * j))
               (fmul (r.accAt (col + d * q + j) tk) (slateF32 r (applyA o + 16 + 4 * d * i + 8 * j + 4)))) ∧
         { t.room u.idx with acc := r.acc, busy := r.busy } = r ∧ UnitFrame u.idx s t) ∧
     (d = 0 ∨ n % d ≠ 0 ∨ 512 < col + n →
       ∃ t, exec (.rotate u o) s = .next t ∧ FaultNoted u.w x.ref x.unit 0x11 s t ∧ (t.room u.idx).acc = r.acc))

/-- Online softmax: SOFTMAX_BLOCK leaves the rows it does not name, the Scoreboard and the accumulators as they were, and a one-row block that is not coarse leaves its row as R231's
recurrence gives; a record out of range is a BAD_ARG lesson fault and changes no row (R228-R231). -/
def Obligations.SoftmaxBlockRows : Prop :=
  ∀ (s : State) (u : Cr) (o : VecApplyOp) (x : WaitOp SlotOp), (s.dispatch u 2 (.vecApply .softmaxBlock o)).1 = some x →
    (let r := s.room u.idx
     let rec0 := r.slateBytes (applyA o) 32
     let b := readBlock rec0 (r.slateBytes (readBlock rec0 []).keymap 48)
     let n := o.ntok.toNat + 1
     let row0 := o.token.toNat % 32
     let bad := 32 < row0 + n ∨ b.qgroup = 0 ∨ (List.range 8).any (fun i => decide (64 < b.counts i)) = true
     (¬ bad →
       ∃ t, exec (.softmaxBlock u o) s = .next t ∧ (∀ i, i < row0 ∨ row0 + n ≤ i → (t.room u.idx).row i = r.row i) ∧ (t.room u.idx).sb = r.sb ∧
         (t.room u.idx).acc = r.acc ∧ (b.coarse = true → (t.room u.idx).att = r.att) ∧
         (b.coarse = false → n = 1 → (t.room u.idx).row row0 =
           (r.softRow b row0 (if b.causal then r.slateLE (b.rowpos + 4 * row0) 4 else 0) (slateBf16 r (b.qscale + 2 * (row0 / b.qgroup)))).1) ∧
         UnitFrame u.idx s t) ∧
     (bad → ∃ t, exec (.softmaxBlock u o) s = .next t ∧ FaultNoted u.w x.ref x.unit 0x11 s t ∧ (t.room u.idx).att = r.att ∧
       (t.room u.idx).slate = r.slate))

/-- SOFTMAX_END folds each row it names and clears its pending mark, leaves every other row, and writes VS / l times the output of row i, 0 for an empty row, into the accumulators of
column OUT_COL + (i mod HEADS) * D and token OUT_TOKEN + i / HEADS; each block's eight shares stand at SHARES, summed over the rows that are not empty, in one rounding a step, and no other Slate
byte changes (R234). A record out of range is a BAD_ARG lesson fault; that HEADS of 0 or above 32 is one is the model's choice (log entry 14). -/
def Obligations.SoftmaxEndRows : Prop :=
  ∀ (s : State) (u : Cr) (o : VecApplyOp) (x : WaitOp SlotOp), (s.dispatch u 2 (.vecApply .softmaxEnd o)).1 = some x →
    (let r := s.room u.idx
     let e := readEnd (r.slateBytes (applyA o) 32)
     let n := o.ntok.toNat + 1
     let bad := e.nblocks = 0 ∨ 64 < e.nblocks ∨ e.nrows = 0 ∨ 32 < e.nrows ∨ 32 < e.row0 + e.nrows ∨ e.heads = 0 ∨ 32 < e.heads ∨
       n < e.nblocks ∨ 256 * n < e.nrows * e.d ∨ 512 < e.outCol + e.heads * e.d
     (¬ bad →
       ∃ t, exec (.softmaxEnd u o) s = .next t ∧ (∀ i, i < e.row0 ∨ e.row0 + e.nrows ≤ i → (t.room u.idx).row i = r.row i) ∧
         (∀ i, e.row0 ≤ i → i < e.row0 + e.nrows → ((t.room u.idx).row i).pend = false) ∧ (t.room u.idx).sb = r.sb ∧
         (∀ i j, i < e.nrows → j < e.d → (t.room u.idx).accAt (e.outCol + (i % e.heads) * e.d + j) ((e.outToken + i / e.heads) % 512) =
           (let y := if (r.row (e.row0 + i)).pend then r.foldRow (e.row0 + i) e.d (r.row (e.row0 + i)) else r.row (e.row0 + i)
            fmul (y.at j) (if isZero y.l then 0 else fdiv e.vs y.l))) ∧
         (∀ i, ((t.room u.idx).row i).l = (r.row i).l ∧ ((t.room u.idx).row i).m = (r.row i).m) ∧
         ((∀ i j, i < 32 * e.nblocks → j < 64 * e.nrows * e.nblocks → (e.shares + i) % slateSize ≠ (e.mass + j) % slateSize) →
           ∀ j p, j < e.nblocks → p < 8 → (t.room u.idx).slateBytes (e.shares + 32 * j + 4 * p) 4 = leBytes 4 (r.share e j p).toNat) ∧
         (∀ a, a < slateSize → 32 * e.nblocks ≤ (a + slateSize - e.shares % slateSize) % slateSize →
           Memory.read (t.room u.idx).slate a = Memory.read r.slate a) ∧ UnitFrame u.idx s t) ∧
     (bad → ∃ t, exec (.softmaxEnd u o) s = .next t ∧ FaultNoted u.w x.ref x.unit 0x11 s t ∧ (t.room u.idx).att = r.att ∧ (t.room u.idx).acc = r.acc))

/-- MARGIN_H with one rank and one z column leaves zf = s_u * h there, h summed over the V columns in one rounding each, and changes only accumulators of its tokens (R83; the operand
layout is the model's, log entry 15). -/
def Obligations.MarginHColumns : Prop :=
  ∀ (s : State) (u : Cr) (o : VecApplyOp), Accepts s u 2 (.vecApply .marginH o) →
    (let r := s.room u.idx
     let f := fun i => r.slateLE (applyA o + 2 * i) 2
     ∃ t, exec (.marginH u o) s = .next t ∧
       (∀ c tk, c < 512 → tk < 512 → tokenIndex o.token o.ntok tk = none → (t.room u.idx).accAt c tk = r.accAt c tk) ∧
       (f 0 = 1 → f 2 = 1 → ∀ tk i, tk < 512 → tokenIndex o.token o.ntok tk = some i →
         (t.room u.idx).accAt (f 4 % 512) tk = fmul (slateBf16 r (applyA o + 16 + 2 * f 1))
           ((List.range (f 1)).foldl (fun h j => ffma (slateBf16 r (applyA o + 16 + 2 * j)) (r.accAt ((f 3 + j) % 512) tk) h) 0)) ∧
       { t.room u.idx with acc := r.acc, busy := r.busy } = r ∧ UnitFrame u.idx s t)

/-- BAR2 serves a legal access to scratch: a read answers the bytes, poisoned when a sector under them is uncorrectable, and a write stores its bytes and no other, both over the Wing's office link alone (R24); beyond scratch a read answers 0
and a write is ignored (R175, R176, R184, R305). That a read is one flit of channel 0 is log entry 102 and which accesses are legal log entry 97, both the model's choices.

The Slate debug window (R163, R187): a read answers the 8 bytes SLT_DBG_ADDR names, a write replaces them, either clearing TIMEOUT and counting the cycles it waited (an operand of the command: the model's choice, log entry 17); an access that found no free path
sets TIMEOUT, a read then answering all ones and a write leaving the Slate as it was. -/
def Obligations.BusMemoryWindows : Prop :=
  (∀ (s : State) (off : BitVec 32), s.hasFunction = true → s.hif.d3 = false →
    (∀ n, bar2Ok off.toNat n = true →
      (off.toNat % 2 ^ 30 + n ≤ s.scratchEnd (bar2Wing off) →
        ∃ t, exec (.bar2Read off n) s = .next t ∧ t.bus.data = s.libBytes (bar2Wing off) (off.toNat % 2 ^ 30) n ∧
          t.bus.poisoned = s.libIsBad (bar2Wing off) (off.toNat % 2 ^ 30) n ∧
          (∀ (h : Hop) (ch : Nat), ch < 4 → t.flits h ch = if h = ⟨officeLink (bar2Wing off), false⟩ ∧ ch = 0 then (s.flits h ch + 1) % 2 ^ 32 else s.flits h ch) ∧
          { t with regs := s.regs, bus := s.bus, mem := { t.mem with links := s.mem.links } } = s) ∧
      (s.scratchEnd (bar2Wing off) < off.toNat % 2 ^ 30 + n →
        ∃ t, exec (.bar2Read off n) s = .next t ∧ t.bus.data = List.replicate n 0 ∧ { t with bus := s.bus } = s)) ∧
    (∀ bs : List Byte, bar2Ok off.toNat bs.length = true →
      (off.toNat % 2 ^ 30 + bs.length ≤ s.scratchEnd (bar2Wing off) →
        ∃ t, exec (.bar2Write off bs) s = .next t ∧
          (∀ a, Memory.read t.mem.lib a =
            if libKey (bar2Wing off) (off.toNat % 2 ^ 30) ≤ a ∧ a < libKey (bar2Wing off) (off.toNat % 2 ^ 30) + bs.length
            then bs.getD (a - libKey (bar2Wing off) (off.toNat % 2 ^ 30)) 0 else Memory.read s.mem.lib a) ∧
          { t with bus := s.bus, mem := { t.mem with lib := s.mem.lib, libBad := s.mem.libBad, libCorr := s.mem.libCorr, links := s.mem.links } } = s) ∧
      (s.scratchEnd (bar2Wing off) < off.toNat % 2 ^ 30 + bs.length →
        ∃ t, exec (.bar2Write off bs) s = .next t ∧ { t with bus := s.bus } = s))) ∧
  (∀ (s : State) (u : Cr), s.bar0On = true →
    (∀ n : Nat, ∃ t, exec (.sltDbgDataRead ⟨u, n⟩) s = .next t ∧ t.bus.data = (s.room u.idx).slateBytes (s.dbgAddr u.idx) 8 ∧ t.rooms = s.rooms ∧
      bit (t.regN (Off.sltDbgAddr u.idx)) 63 = false ∧ t.mem = s.mem ∧ t.hif = s.hif ∧
      t.reg (Off.sltNarrowWaits u.idx) = s.reg (Off.sltNarrowWaits u.idx) + BitVec.ofNat 64 n) ∧
    (∀ (v : BitVec 64) (n : Nat), ∃ t, exec (.sltDbgDataWrite u ⟨v, n⟩) s = .next t ∧ SlateBecomes s t u.idx (s.dbgAddr u.idx) (leBytes 8 v.toNat) ∧
      bit (t.regN (Off.sltDbgAddr u.idx)) 63 = false ∧ t.reg (Off.sltNarrowWaits u.idx) = s.reg (Off.sltNarrowWaits u.idx) + BitVec.ofNat 64 n) ∧
    (∀ read : Bool, ∃ t, exec (.sltDbgTimeout u read) s = .next t ∧ bit (t.regN (Off.sltDbgAddr u.idx)) 63 = true ∧ t.rooms = s.rooms ∧ t.mem = s.mem ∧
      (read = true → t.bus.data = List.replicate 8 0xFF#8) ∧ t.reg (Off.sltNarrowWaits u.idx) = s.reg (Off.sltNarrowWaits u.idx) + 4096 ∧
      (∀ p, p ≠ Off.sltDbgAddr u.idx → p ≠ Off.sltNarrowWaits u.idx → t.reg p = s.reg p)))

/-- The scrubbers read on, change no byte, and clear the mark of a sector they corrected: LIB_SCRUB_READ goes to the next sector of every bank of its Wing, HBM_SCRUB_READ to the next
sector of its pseudo-channel and leaves an uncorrectable one as stored; each is off where its enable is 0 (R185, R201). -/
def Obligations.Scrubbers : Prop :=
  (∀ (s : State) (w : Wing), bit (s.regN (Off.libScrub w)) 0 = true → s.hasFunction = true →
    ∃ t, exec (.libScrubRead w) s = .next t ∧ t.mem.lib = s.mem.lib ∧ t.mem.hbm = s.mem.hbm ∧ t.rooms = s.rooms ∧ t.srv = s.srv ∧
      (∀ b, b < 256 → 32 * (256 * Sparse.get (fun _ => 0) s.mem.libScrub w.val + b) < s.scratchEnd w →
        marked s.mem.libBad (libKey w (32 * (256 * Sparse.get (fun _ => 0) s.mem.libScrub w.val + b)) / 32) = false →
        marked t.mem.libCorr (libKey w (32 * (256 * Sparse.get (fun _ => 0) s.mem.libScrub w.val + b)) / 32) = false) ∧
      Sparse.get (fun _ => 0) t.mem.libScrub w.val = (Sparse.get (fun _ => 0) s.mem.libScrub w.val + 1) % 131072) ∧
  (∀ (s : State) (w : Wing), bit (s.regN (Off.libScrub w)) 0 = false → exec (.libScrubRead w) s = .next s) ∧
  (∀ (s : State) (k : Fin 32) (pc : Fin 64), Quiet s → bit (s.regN (Off.memScrub k)) 0 = true → (s.stack k).trained = true →
    (s.stack k).selfRefresh = false → s.clocked = true →
    s.sectorBad (s.scrubSector k pc.val (Sparse.get (fun _ => 0) (s.stack k).scrub pc.val)) = false →
    ∃ t, exec (.hbmScrubRead k pc) s = .next t ∧ t.mem.hbm = s.mem.hbm ∧
      marked t.mem.hbmCorr (s.scrubSector k pc.val (Sparse.get (fun _ => 0) (s.stack k).scrub pc.val)) = false ∧
      Sparse.get (fun _ => 0) (t.stack k).scrub pc.val = (Sparse.get (fun _ => 0) (s.stack k).scrub pc.val + 1) % 2 ^ 25 ∧
      t.rooms = s.rooms ∧ t.srv = s.srv ∧ t.wings = s.wings) ∧
  (∀ (s : State) (k : Fin 32) (pc : Fin 64), bit (s.regN (Off.memScrub k)) 0 = true → (s.stack k).trained = true →
    (s.stack k).selfRefresh = false → s.clocked = true →
    s.sectorBad (s.scrubSector k pc.val (Sparse.get (fun _ => 0) (s.stack k).scrub pc.val)) = true →
    ∃ u : State, exec (.hbmScrubRead k pc) s = .next u.finish ∧ u.mem.hbm = s.mem.hbm ∧ u.mem.hbmBad = s.mem.hbmBad ∧ u.rooms = s.rooms ∧ u.pwr = s.pwr ∧
      Sparse.get (fun _ => 0) (u.stack k).scrub pc.val = (Sparse.get (fun _ => 0) (s.stack k).scrub pc.val + 1) % 2 ^ 25) ∧
  (∀ (s : State) (k : Fin 32) (pc : Fin 64), Quiet s → bit (s.regN (Off.memScrub k)) 0 = false →
    ∃ t, exec (.hbmScrubRead k pc) s = .next t ∧ Noise s t)

/-! ### T1, the tier-move engine and serving between steps (07, 08, 09, 10) -/

/-- A tick of the millisecond clock adds the carried count to SRV_NOW_MS (R393); in Midnight it counts the ms of the standby supply up to the ten for which that supply must have been within range
before the module leaves Midnight (R475; that MS_TICK counts them is the model's choice, log entry 139). The end of a budget window clears the three counts of its stack, takes the CAP that stands
(R206) and counts each window that has ended in which accesses of class 2 waited at that stack and it issued none (R205; windows that end within a command are log entry 89). Nothing else changes.

The oldest change of protection class and the oldest copy complete when they are done, the class change with its number of granules and the copy with its length, or with
the status its reads and writes led to (R197, R333); the oldest bucket to rebuild leaves the queue and its mark (R460). With nothing queued nothing changes. -/
def Obligations.TicksAndQueuedWork : Prop :=
  (∀ s : State,
    (∀ n : Nat,
      (s.pwr.state ≠ .midnight → exec (.msTick n) s = .next { s with srv := { s.srv with nowMs := (s.srv.nowMs + n) % 2 ^ 64 } }) ∧
      (s.pwr.state = .midnight → s.pwr.standbyOk = true → s.pwr.leadMs + n < 10 ∨ s.pwr.mainOk = false ∨ s.pwr.perst = true →
        exec (.msTick n) s = .next { s with pwr := { s.pwr with leadMs := min 10 (s.pwr.leadMs + n) } }) ∧
      (s.pwr.state = .midnight → s.pwr.standbyOk = true → 10 ≤ s.pwr.leadMs + n → s.pwr.mainOk = true → s.pwr.perst = false →
        ∃ t, exec (.msTick n) s = .next t ∧ t.pwr.state = .dawn ∧ t.pwr.cause = s.pwr.cause ∧ t.pwr.thermtrip = false) ∧
      (s.pwr.state = .midnight → s.pwr.standbyOk = false → exec (.msTick n) s = .next s)) ∧
    (∀ k : Fin 32, ∃ t, exec (.memBudgetWindow k) s = .next t ∧
      t.stack k = { s.stack k with issued0 := 0, issued1 := 0, issued2 := 0, capNow := (s.stack k).cap, ended := 0, scrubAge := (s.stack k).scrubAge + 1 } ∧ (∀ j, j ≠ k → t.stack j = s.stack j) ∧
      t.reg (Off.memMoveStarved k) = s.reg (Off.memMoveStarved k) +
        (if s.class2Waits k = true then BitVec.ofNat 64 ((s.stack k).ended + (if (s.stack k).issued2 = 0 then 1 else 0)) else 0) ∧
      (∀ o, o ≠ Off.memMoveStarved k → t.reg o = s.reg o) ∧
      { t with regs := s.regs, mem := { t.mem with hbmStacks := s.mem.hbmStacks } } = s)) ∧
  (∀ s : State,
    (∀ r rs, s.mem.classes = r :: rs → ∃ u : State, exec .classChangeDone s = .next (u.complete r.desc 0 r.count 0).finish ∧
      u.mem.classes = rs ∧ { u with mem := { u.mem with classes := s.mem.classes } } = s) ∧
    (∀ r rs, s.mem.copies = r :: rs → ∃ u : State, exec .memCopyDone s = .next (u.complete r.desc r.status r.length 0).finish ∧
      u.mem.copies = rs ∧ { u with mem := { u.mem with copies := s.mem.copies } } = s) ∧
    (∀ b bs, s.srv.rebuild = b :: bs → ∃ u : State, exec .bucketRebuild s = .next u.finish ∧ b ∉ u.srv.rebuild ∧ marked u.srv.rebuilding b = false ∧
      u.srv.next = s.srv.next ∧ u.srv.plan = s.srv.plan ∧ u.rooms = s.rooms ∧ u.rbk = s.rbk ∧ u.sec = s.sec) ∧
    (Quiet s → s.mem.classes = [] → ∃ t, exec .classChangeDone s = .next t ∧ Noise s t) ∧
    (Quiet s → s.mem.copies = [] → ∃ t, exec .memCopyDone s = .next t ∧ Noise s t) ∧
    (Quiet s → s.srv.rebuild = [] → ∃ t, exec .bucketRebuild s = .next t ∧ Noise s t))

/-- The engine begins a request all or nothing (R213, R270, R271, R334). A pause that has pages to demote charges their forms to its tenant's T2 and begins with those pages in
page-number order, one without any ends at once; one whose forms exceed LENGTH or the quota leaves the queue with NO_ROOM, its session IDLE again and nothing charged. A resume reserves a free slot,
two for head dimension 256, of the page's Wing and charges a page for each page it has to promote, and begins with them, one without any ends at once; where a slot or a charge is wanting it leaves
the queue with NO_ROOM, its session PAUSED again with its expiry and nothing reserved. A pause whose Trays still wait to be flushed does not begin, and a request already begun is not begun again. -/
def Obligations.TierMovesBegin : Prop :=
  ∀ (s : State) (r : MoveReq) (rs : List MoveReq), s.mem.moves = r :: rs →
    (∀ i, s.image (s.sess r.sess).model = some i → r.started = false → r.resume = false → s.srv.flush.contains r.sess = false →
      (s.formsTotal (s.demotable r.sess) r.width ≤ r.length →
        (s.quota r.tenant).t2Used + s.formsTotal (s.demotable r.sess) r.width ≤ (s.quota r.tenant).t2Limit →
        ∃ u : State, exec .tierMoveRequest s =
            .next (if s.demotable r.sess = [] then u.finishPause { r with units := [], started := true } else u).finish ∧
          u.mem.moves = (if s.demotable r.sess = [] then rs else { r with units := s.demotable r.sess, started := true } :: rs) ∧
          (u.quota r.tenant).t2Used = (s.quota r.tenant).t2Used + s.formsTotal (s.demotable r.sess) r.width ∧
          (∀ t, t ≠ r.tenant → u.quota t = s.quota t) ∧ { u with mem := { u.mem with moves := s.mem.moves, quotas := s.mem.quotas } } = s) ∧
      (r.length < s.formsTotal (s.demotable r.sess) r.width ∨
        (s.quota r.tenant).t2Limit < (s.quota r.tenant).t2Used + s.formsTotal (s.demotable r.sess) r.width →
        ∃ u : State, exec .tierMoveRequest s = .next ((u.modSess r.sess (fun x => { x with state := 1 })).complete r.desc 0x20 0 0).finish ∧
          u.mem.moves = rs ∧ { u with mem := { u.mem with moves := s.mem.moves } } = s)) ∧
    (∀ i, s.image (s.sess r.sess).model = some i → r.started = false → r.resume = true →
      (∀ ds, (s.reserveSlots i (s.promotable r.sess)).1 = some ds →
        ∃ u : State, exec .tierMoveRequest s =
            .next (if s.promotable r.sess = [] then u.finishResume { r with units := [], dests := [], started := true } else u).finish ∧
          u.mem.moves = (if s.promotable r.sess = [] then rs else { r with units := s.promotable r.sess, dests := ds, started := true } :: rs) ∧
          ds.length = (s.promotable r.sess).length ∧
          (∀ e ∈ (s.promotable r.sess).zip ds, ∃ k, e.2 = s.slotAddr (i.headWing (s.page e.1).kvhead) k ∧
            s.slotTaken (i.headWing (s.page e.1).kvhead) k = false ∧ u.slotTaken (i.headWing (s.page e.1).kvhead) k = true ∧
            ((s.page e.1).head = true → s.slotTaken (i.headWing (s.page e.1).kvhead) (k + 1) = false ∧ u.slotTaken (i.headWing (s.page e.1).kvhead) (k + 1) = true)) ∧
          (∀ t, (u.quota t).pageUsed = (s.quota t).pageUsed + ((s.promotable r.sess).filter (fun n => decide ((s.page n).tenant = t))).length ∧
            (u.quota t).t2Used = (s.quota t).t2Used) ∧
          { u with mem := { u.mem with moves := s.mem.moves, quotas := s.mem.quotas }, srv := { u.srv with usedSlots := s.srv.usedSlots } } = s) ∧
      ((s.reserveSlots i (s.promotable r.sess)).1 = none →
        ∃ u : State, exec .tierMoveRequest s = .next ((u.modSess r.sess (fun x => { x with state := 4, expire := r.ttl })).complete r.desc 0x20 0 0).finish ∧
          u.mem.moves = rs ∧ { u with mem := { u.mem with moves := s.mem.moves } } = s)) ∧
    (Quiet s → r.started = true ∨ (r.resume = false ∧ s.srv.flush.contains r.sess = true) →
      ∃ t, exec .tierMoveRequest s = .next t ∧ Noise s t)

/-- A unit of a pause whose page reads well is written in its form at the request's place in the host window, its page leaves the tenant's T1 charge, and the request goes
on with the next; one whose place the window refuses gives its T2 charge back, is counted in MEM_MOVE_FAILS and sets the request's status, and the others go on (R212, R213, R215). A unit of a resume
whose form reads and checks well, at the first read or the second, stands restored in its slot, its record names it and its T2 charge is released; one that fails twice ends the session, the
resume completing with DATA_LOST (R211, R212, R215, R271). After its last unit a request leaves the queue and ends. No unit is taken while the request has not begun, while requests may not be issued,
or while a MEM or LIB commit is pending (R309, R401). -/
def Obligations.TierMoveUnits : Prop :=
  ∀ (s : State) (x : Ext) (r : MoveReq) (rs : List MoveReq), s.mem.moves = r :: rs →
    (∀ n ns, r.units = n :: ns → r.resume = false → r.started = true → s.canIssue = true → s.memCommitPending = false →
      (∀ y, s.sectorBad y = false) → s.pageGone n = false → formBytes (s.page n).d r.width ≤ (s.quota r.tenant).t2Used → 0 < (s.quota (s.page n).tenant).pageUsed →
      (∀ w k, s.slotOf (s.page n).addr = some (w, k) → marked s.srv.usedSlots (slotKey w k) = true ∧
        ((s.page n).head = true → marked s.srv.usedSlots (slotKey w (k + 1)) = true)) →
      (s.checkWindow (some r.tenant) true r.window r.offset (formBytes (s.page n).d r.width) = 0 →
        ∃ (u : State) (r' : MoveReq), exec (.tierMoveUnitDone x) s = .next (if ns = [] then u.finishPause r' else u).finish ∧
          r' = { r with units := ns, offset := r.offset + formBytes (s.page n).d r.width, bytes := r.bytes + formBytes (s.page n).d r.width, moved := r.moved + 1 } ∧
          u.mem.moves = (if ns = [] then rs else r' :: rs) ∧
          Memory.readN u.mem.host (s.hostAddr r.window r.offset) (pageForm (s.hbmBytes (s.page n).addr (s.page n).size) (s.page n).head r.width n).length =
            pageForm (s.hbmBytes (s.page n).addr (s.page n).size) (s.page n).head r.width n ∧
          (u.quota (s.page n).tenant).pageUsed + 1 = (s.quota (s.page n).tenant).pageUsed ∧ u.reg Off.memMoveFails = s.reg Off.memMoveFails ∧
          u.rooms = s.rooms) ∧
      (s.checkWindow (some r.tenant) true r.window r.offset (formBytes (s.page n).d r.width) ≠ 0 →
        ∃ (u : State) (r' : MoveReq), exec (.tierMoveUnitDone x) s = .next (if ns = [] then u.finishPause r' else u).finish ∧
          r' = { r with units := ns, offset := r.offset + formBytes (s.page n).d r.width,
                        status := if r.status = 0 then s.checkWindow (some r.tenant) true r.window r.offset (formBytes (s.page n).d r.width) else r.status } ∧
          u.mem.moves = (if ns = [] then rs else r' :: rs) ∧
          (u.quota r.tenant).t2Used + formBytes (s.page n).d r.width = (s.quota r.tenant).t2Used ∧
          u.reg Off.memMoveFails = s.reg Off.memMoveFails + 1 ∧ u.mem.hbm = s.mem.hbm ∧ u.rooms = s.rooms)) ∧
    (∀ n ns w v v', r.units = n :: ns → r.resume = true → r.started = true → s.canIssue = true → s.memCommitPending = false →
      (∀ y, s.sectorBad y = false) → s.pageGone n = false → w = Sparse.get (fun _ => 8) s.srv.widths r.sess →
      v = (s.absorb x).lookPage n (s.sess r.sess).handle →
      (∀ f, v.readTwice (fun y => y.readForm r x (s.page n).addr (s.page n).d n w) = (.ok f, v') →
        formBytes (s.page n).d w ≤ (v'.quota r.tenant).t2Used → r.dests.headD 0 < 2 ^ 48 → rangesMeet (s.pageAddr n) 64 (r.dests.headD 0) (s.page n).size = false →
        ∃ (u : State) (r' : MoveReq), exec (.tierMoveUnitDone x) s = .next (if ns = [] then u.finishResume r' else u).finish ∧
          r' = { r with units := ns, dests := r.dests.drop 1, moved := r.moved + 1 } ∧ u.mem.moves = (if ns = [] then rs else r' :: rs) ∧
          u.hbmBytes (r.dests.headD 0) (s.page n).size = unpackCodes (f.drop 64) w (s.page n).size ∧
          (u.page n).tier = 0 ∧ (u.page n).addr = r.dests.headD 0 ∧ (u.quota r.tenant).t2Used + formBytes (s.page n).d w = (v'.quota r.tenant).t2Used ∧
          u.rooms = v'.rooms) ∧
      (∀ st, v.readTwice (fun y => y.readForm r x (s.page n).addr (s.page n).d n w) = (.error st, v') →
        exec (.tierMoveUnitDone x) s = .next (v'.failResume r).finish ∧
        ∃ u : State, v'.failResume r = u.complete r.desc 0x30 0 0 ∧ u.mem.moves = rs ∧ u.reg Off.memMoveFails = v'.reg Off.memMoveFails + 1)) ∧
    (r.started = true → s.canIssue = true → s.memCommitPending = false → r.units = [] → r.resume = false →
      ∃ u : State, exec (.tierMoveUnitDone x) s = .next (u.finishPause r).finish ∧ u.mem.moves = rs ∧ u = { (s.absorb x) with mem := { (s.absorb x).mem with moves := rs } }) ∧
    (Quiet s → r.started = false ∨ s.canIssue = false ∨ s.memCommitPending = true → ∃ t, exec (.tierMoveUnitDone x) s = .next t ∧ Noise s t)

/-- Between steps the flushes, the head-record changes and the retired pages that wait are all done, and none is done while a step is in flight (R239, R241, R264). A paused session whose
EXPIRE has come ends and is counted in SRV_TTL_EXPIRED, one found while a step is in flight when that step ends (R451), and one whose EXPIRE has not come stays (R272). A POISONED chunk that a golden
copy gives is good again and counted; one that no copy gives makes its slot LOST (R298, R299); a repair that comes to a copy in a host window waits while requests may not be issued, and none begins
while a MEM or LIB commit is pending (R308, R309, R401). -/
def Obligations.BetweenSteps : Prop :=
  ∀ s : State,
    (s.srv.inFlight = false → ∃ u : State, exec .trayFlush s = .next u.finish ∧ u.srv.flush = [] ∧ u.srv.headW = [] ∧ u.srv.retiring = [] ∧
      u.srv.inFlight = false ∧ u.srv.plan = s.srv.plan ∧ u.srv.next = s.srv.next ∧ u.rooms = s.rooms ∧ u.rbk = s.rbk) ∧
    (s.srv.inFlight = true → Quiet s → ∃ t, exec .trayFlush s = .next t ∧ Noise s t) ∧
    (∀ k, s.liveSessions = [k] → (s.sess k).state = 4 → (s.sess k).expire ≠ 0 → (s.sess k).expire ≤ s.srv.nowMs → s.srv.expired.contains k = false →
      (s.srv.inFlight = false → ∃ u : State, exec .pauseExpiryCheck s = .next u.finish ∧ u.reg Off.srvTtlExpired = s.reg Off.srvTtlExpired + 1 ∧
        (s.sessBad k = false → (u.sess k).state = 0)) ∧
      (s.srv.inFlight = true → exec .pauseExpiryCheck s = .next { s with srv := { s.srv with expired := s.srv.expired ++ [k] } }.finish)) ∧
    (∀ k, s.srv.expired = [k] → ∃ u : State, s.stepOver = u ∧ u.srv.expired = [] ∧ u.srv.inFlight = false ∧ u.reg Off.srvTtlExpired = s.reg Off.srvTtlExpired + 1) ∧
    (Quiet s → (∀ k ∈ s.liveSessions, (s.sess k).state ≠ 4 ∨ (s.sess k).expire = 0 ∨ s.srv.nowMs < (s.sess k).expire) →
      ∃ t, exec .pauseExpiryCheck s = .next t ∧ Noise s t) ∧
    (∀ (x : Ext) r c i base goldens q p, s.nextRepair = some (r, c) → s.repairOf r = some (i, base, goldens, q) → i.piece c = some p →
      s.memCommitPending = false →
      (∀ bs, ((s.absorb x).goldenReads q x i p goldens).1 = .ok bs →
        ∃ u : State, exec (.chunkRepair x) s = .next u.finish ∧ u.chunkPoisoned r c = false ∧ u.reg Off.srvMdlRepaired = s.reg Off.srvMdlRepaired + 1) ∧
      (∀ k st, r = .slot k → st ≠ 0 → ((s.absorb x).goldenReads q x i p goldens).1 = .error st →
        ∃ u : State, exec (.chunkRepair x) s = .next u.finish ∧ (u.slotRec k).state = .lost ∧ u.reg Off.srvMdlLost = s.reg Off.srvMdlLost + 1)) ∧
    (∀ x : Ext, Quiet s → s.nextRepair = none ∨ s.memCommitPending = true ∨ (∃ r c i base goldens q p, s.nextRepair = some (r, c) ∧
      s.repairOf r = some (i, base, goldens, q) ∧ i.piece c = some p ∧ ((s.absorb x).goldenReads q x i p goldens).1 = .error 0) →
      ∃ t, exec (.chunkRepair x) s = .next t ∧ Noise s t)

/-- A step starts only when R256 lets it, on the Roster built for it: its number rises by one, no Roster waits any more, every Wing is sent its start record, with the slot's step
lesson where the Wing's table holds it and the idle lesson otherwise; every Classroom of a Wing that runs the step lesson is In class, one from Holiday with its memories zeroed
(R256, R386). A Roster is built only when none waits, into the other buffer, and never an empty one (R254, R255). -/
def Obligations.StepsStartOnRosters : Prop :=
  ∀ s : State,
    (∀ us p i, s.srv.next = some p → s.mayStart us = true → s.image p.slot = some i → s.slotServes p.slot = true →
      ∃ u : State, exec (.stepStart us) s = .next u.finish ∧ u.srv.inFlight = true ∧ u.srv.step = s.srv.step + 1 ∧ u.srv.plan = p ∧ u.srv.next = none ∧
        u.srv.pass = 0 ∧ u.srv.startUs = us ∧
        u.srv.starts = (List.finRange 4).map (fun w => some
          { lesson := BitVec.ofNat 8 (if s.runsStep w i then i.stepLesson else i.idleLesson), buffer := p.buffer, step := BitVec.ofNat 64 (s.srv.step + 1) }) ∧
        (∀ w : Wing, s.runsStep w i = true → ∀ c : Room, (u.room (roomIndex w c)).power = .inClass) ∧
        (∀ w : Wing, s.runsStep w i = false → ∀ c : Room, u.room (roomIndex w c) = s.room (roomIndex w c)) ∧
        (∀ w : Wing, s.runsStep w i = true → ∀ c : Room, (s.room (roomIndex w c)).power = .holiday →
          (u.room (roomIndex w c)).slate = [] ∧ (u.room (roomIndex w c)).droop = (s.room (roomIndex w c)).droop) ∧
        u.rbk = s.rbk ∧ u.sec = s.sec) ∧
    (∀ us, Quiet s → s.srv.next = none ∨ s.mayStart us = false → ∃ t, exec (.stepStart us) s = .next t ∧ Noise s t) ∧
    (∀ x : Ext, Quiet s → s.canBuild = true → s.pwr.endAll = false →
      ∃ u : State, exec (.rosterBuild x) s = .next u.finish ∧ u.srv.plan = s.srv.plan ∧
        (u.srv.next = none ∨ ∃ p, u.srv.next = some p ∧ p.sessions ≠ [] ∧ p.buffer = !s.srv.plan.buffer)) ∧
    (∀ x : Ext, Quiet s → s.canBuild = false → ∃ t, exec (.rosterBuild x) s = .next t ∧ Noise s t)

/-! ### Descriptors (11, 14) -/

/-- A descriptor that nothing makes wait is applied as the operation it names, and what waited for it is offered again; one that the module's state, an earlier descriptor of its
ring or an earlier security operation makes wait, as an operation of the Roster engine waits for a Roster build, is kept in order (R252, R324, R378, R381, R401, R424, R492). In Midnight and Dawn no descriptor is taken. An opcode that R326 and R423 do not define completes with
BAD_OPCODE. -/
def Obligations.DescriptorsAreDelivered : Prop :=
  (∀ (s : State) (c : Instr) (d : Desc) (op : DescOp) (f : Fetched), Offered s c d op f →
    (s.stateWaits false op = false → s.orderWaits d op = false → s.securityWaits d op = false →
      exec c s = .next (if ((s.markDelivered f.desc).applyOp d op f.desc).1 then ((s.markDelivered f.desc).applyOp d op f.desc).2.pump
        else { ((s.markDelivered f.desc).applyOp d op f.desc).2 with
               hif := { ((s.markDelivered f.desc).applyOp d op f.desc).2.hif with
                 stalled := ((s.markDelivered f.desc).applyOp d op f.desc).2.hif.stalled ++ [(d, op)] } }).finish) ∧
    (s.stateWaits false op = true ∨ s.orderWaits d op = true ∨ s.securityWaits d op = true →
      exec c s = .next ({ s with hif := { s.hif with stalled := s.hif.stalled ++ [(d, op)] } }).finish)) ∧
  (∀ (s : State) (c : Instr) (d : Desc) (op : DescOp), descOf c = some (d, op) → Quiet s → s.pwr.state = .midnight ∨ s.pwr.state = .dawn →
    ∃ t, exec c s = .next t ∧ Noise s t) ∧
  (∀ (s : State) (d : Desc) (k : BitVec 8) (f : Fetched), Applies s (.undefinedOpcode d k) d (.undefined k) f →
    CompletesIn (.undefinedOpcode d k) s f (s.markDelivered f.desc) 0x10 0 0) ∧
  (∀ (s : State) (d : Desc) (k : BitVec 8), definedOpcode k = true → exec (.undefinedOpcode d k) s = .next s)

/-- An operation that requires a privileged ring completes with NOT_PERMITTED on a ring that is not, before anything it names is looked at, and changes nothing (R15, R321, R326,
R423). NOP on any ring completes with OK, or with BAD_ARG when a reserved bit is set. -/
def Obligations.PrivilegedOperationsAreRefused : Prop :=
  (∀ (s : State) (c : Instr) (d : Desc) (op : DescOp) (f : Fetched), Applies s c d op f → opPriv op = true → s.privOf d = false →
    CompletesIn c s f (s.markDelivered f.desc) 0x13 0 0) ∧
  (∀ (s : State) (d : Desc) (f : Fetched), Applies s (.nop d) d .nop f →
    (d.rsv = false → d.handle = 0 → CompletesIn (.nop d) s f (s.markDelivered f.desc) 0 0 0) ∧
    (d.rsv = true ∨ d.handle ≠ 0 → CompletesIn (.nop d) s f (s.markDelivered f.desc) 0x11 0 0))

/-- Rings (R327, R328): a RING_CREATE whose operands keep their ranges makes the ring with its indices 0, one of a ring that exists completes with BUSY; a
RING_DESTROY that passes its checks removes the ring; a RING_RESET discards the unfetched descriptors, clears ERROR, writes the new consumer index to the shadow area and
answers how many it discarded. -/
def Obligations.RingOperations : Prop :=
  (∀ (s : State) (d : Desc) (o : RingCreateOp) (f : Fetched), Applies s (.ringCreate d o) d (.ringCreate o) f → Permitted s d (.ringCreate o) →
    ¬(s.pwr.state = .twilight ∧ s.sec.bank = 3) → o.base.toNat % 4096 = 0 → 4 ≤ o.log2.toNat → o.batchK.toNat ≤ 64 → (o.batchK ≠ 0 → o.priv = true) →
    (o.kind = 0#2 → d.handle.toNat ≤ 1023 → o.log2.toNat ≤ 16 → s.hasOut o.cq.toNat false = true → (s.outRing o.cq.toNat).tenant = o.tenant.toNat →
      ((s.subRing d.handle.toNat).live = false →
        ∃ u : State, CompletesIn (.ringCreate d o) s f u 0 0 0 ∧
          u.subRing d.handle.toNat =
            { live := true, base := o.base.toNat, log2 := o.log2.toNat, priv := o.priv, pasidEn := o.pasidEn,
              pasid := o.pasid.toNat, tenant := o.tenant.toNat, cq := o.cq.toNat, cons := 0, prod := 0, error := false } ∧
          (∀ k, k ≠ d.handle.toNat → u.subRing k = s.subRing k) ∧
          { u with hif := { u.hif with subs := s.hif.subs } } = s.markDelivered f.desc) ∧
      ((s.subRing d.handle.toNat).live = true → CompletesIn (.ringCreate d o) s f (s.markDelivered f.desc) 0x21 0 0)) ∧
    (o.kind = 1#2 ∨ o.kind = 2#2 → d.handle.toNat ≤ 4095 → o.log2.toNat ≤ 20 → (s.outRing d.handle.toNat).live = false →
      ∃ u : State, CompletesIn (.ringCreate d o) s f u 0 0 0 ∧
        (u.outRing d.handle.toNat).live = true ∧ (u.outRing d.handle.toNat).stream = decide (o.kind = 2#2) ∧
        (u.outRing d.handle.toNat).base = o.base.toNat ∧ (u.outRing d.handle.toNat).log2 = o.log2.toNat ∧
        (u.outRing d.handle.toNat).tenant = o.tenant.toNat ∧ (u.outRing d.handle.toNat).vector = o.vector.toNat ∧
        (u.outRing d.handle.toNat).next = 0 ∧ (u.outRing d.handle.toNat).prod = 0 ∧ (u.outRing d.handle.toNat).cons = 0 ∧
        (∀ k, k ≠ d.handle.toNat → u.outRing k = s.outRing k) ∧
        { u with hif := { u.hif with outs := s.hif.outs } } = s.markDelivered f.desc)) ∧
  (∀ (s : State) (d : Desc) (kind : BitVec 2) (f : Fetched), Applies s (.ringDestroy d kind) d (.ringDestroy kind) f →
    (s.markDelivered f.desc).ringDestroyStatus d kind = 0 →
    ∃ u : State, CompletesIn (.ringDestroy d kind) s f u 0 0 0 ∧
      (kind = 0#2 → (u.subRing d.handle.toNat).live = false ∧ (∀ k, k ≠ d.handle.toNat → u.subRing k = s.subRing k) ∧ u.hif.outs = s.hif.outs) ∧
      (kind ≠ 0#2 → (u.outRing d.handle.toNat).live = false ∧ (∀ k, k ≠ d.handle.toNat → u.outRing k = s.outRing k) ∧ u.hif.subs = s.hif.subs)) ∧
  (∀ (s : State) (d : Desc) (kind : BitVec 2) (f : Fetched), Applies s (.ringDestroy d kind) d (.ringDestroy kind) f → Permitted s d (.ringDestroy kind) →
    kind = 1#2 → d.handle.toNat ≤ 4095 → d.handle ≠ 0 → s.hasOut d.handle.toNat false = true → s.namedCq d.handle.toNat = true →
    CompletesIn (.ringDestroy d kind) s f (s.markDelivered f.desc) 0x21 0 0) ∧
  (∀ (s : State) (d : Desc) (f : Fetched), Applies s (.ringReset d) d .ringReset f → Permitted s d .ringReset → d.handle.toNat ≤ 1023 →
    (s.subRing d.handle.toNat).live = true →
    ∃ u : State, CompletesIn (.ringReset d) s f u 0
        (Memory.readLE s.mem.host (s.doorbell (0x1000 + 8 * d.handle.toNat)) 8 - (s.subRing d.handle.toNat).cons) 0 ∧
      u.subRing d.handle.toNat = { s.subRing d.handle.toNat with
        cons := Memory.readLE s.mem.host (s.doorbell (0x1000 + 8 * d.handle.toNat)) 8
        prod := Memory.readLE s.mem.host (s.doorbell (0x1000 + 8 * d.handle.toNat)) 8, error := false } ∧
      Memory.readLE u.mem.host (s.shadow (8 * d.handle.toNat)) 8 = Memory.readLE s.mem.host (s.doorbell (0x1000 + 8 * d.handle.toNat)) 8 ∧
      (∀ k, k ≠ d.handle.toNat → u.subRing k = s.subRing k) ∧
      { u with hif := { u.hif with subs := s.hif.subs }, mem := { u.mem with host := s.mem.host } } = s.markDelivered f.desc)

/-- Windows, quotas, rules and stop sets (R249, R250, R329): each operation writes the one record its handle names and leaves the others; TENANT_QUOTA keeps the USED fields and
answers them; a stop set out of its ranges is BAD_ARG. -/
def Obligations.TenantOperations : Prop :=
  (∀ (s : State) (d : Desc) (o : HostWindowOp) (f : Fetched), Applies s (.hostWindow d o) d (.hostWindow o) f → Permitted s d (.hostWindow o) →
    d.handle.toNat ≤ 4095 → 1 ≤ o.pages.toNat → o.pages.toNat ≤ 1048576 → o.host.toNat % 4096 = 0 →
    ∃ u : State, CompletesIn (.hostWindow d o) s f u 0 0 0 ∧
      u.window d.handle.toNat = { valid := o.valid, write := o.write, tenant := o.tenant.toNat, pasid := o.pasid.toNat, pages := o.pages.toNat, host := o.host.toNat } ∧
      (∀ k, k ≠ d.handle.toNat → u.window k = s.window k) ∧ { u with mem := { u.mem with windows := s.mem.windows } } = s.markDelivered f.desc) ∧
  (∀ (s : State) (d : Desc) (o : QuotaOp) (f : Fetched), Applies s (.tenantQuota d o) d (.tenantQuota o) f → Permitted s d (.tenantQuota o) →
    d.handle.toNat ≤ 1023 → o.marginLimit.toNat ≤ 4096 →
    ∃ u : State, CompletesIn (.tenantQuota d o) s f u 0 (s.quota d.handle.toNat).t2Used (s.quota d.handle.toNat).pageUsed ∧
      u.quota d.handle.toNat = { s.quota d.handle.toNat with
        pageLimit := o.pageLimit.toNat, t2Limit := o.t2Limit.toNat, marginLimit := o.marginLimit.toNat, ways := o.ways.toNat } ∧
      (∀ k, k ≠ d.handle.toNat → u.quota k = s.quota k) ∧ { u with mem := { u.mem with quotas := s.mem.quotas } } = s.markDelivered f.desc) ∧
  (∀ (s : State) (d : Desc) (w : BitVec 8) (f : Fetched), Applies s (.tenantRules d w) d (.tenantRules w) f → Permitted s d (.tenantRules w) →
    (d.handle.toNat ≤ 1023 → ∃ u : State, CompletesIn (.tenantRules d w) s f u 0 0 0 ∧ u.weight d.handle.toNat = w.toNat ∧
      (∀ k, k ≠ d.handle.toNat → u.weight k = s.weight k) ∧ { u with srv := { u.srv with weights := s.srv.weights } } = s.markDelivered f.desc) ∧
    (1023 < d.handle.toNat → CompletesIn (.tenantRules d w) s f (s.markDelivered f.desc) 0x12 0 0)) ∧
  (∀ n, State.reset.weight n = 1) ∧
  (∀ (s : State) (d : Desc) (a : BitVec 48) (x : Ext) (f : Fetched) (bs : List Byte) (v : State), Applies s (.stopsetWrite d a x) d (.stopsetWrite a x) f →
    Permitted s d (.stopsetWrite a x) → d.handle.toNat ≤ 4095 → s.meetsImage (s.tableAddr Off.srvStopsets + 768 * d.handle.toNat) 768 = false →
    ((s.markDelivered f.desc).absorb x).outRead (.office (s.tenantOf d)) x a.toNat 768 = (bs, 0, v) → (∀ y, v.sectorBad y = false) →
    (stopSetOk bs = true → ∃ u : State, CompletesIn (.stopsetWrite d a x) s f u 0 0 0 ∧
      u.hbmBytes (s.tableAddr Off.srvStopsets + 768 * d.handle.toNat) bs.length = bs ∧
      (∀ b, b < s.tableAddr Off.srvStopsets + 768 * d.handle.toNat ∨ s.tableAddr Off.srvStopsets + 768 * d.handle.toNat + bs.length ≤ b →
        u.mem.hbmAt b = v.mem.hbmAt b)) ∧
    (stopSetOk bs = false → CompletesIn (.stopsetWrite d a x) s f v 0x11 0 0))

/-- Lessons, protection classes, the page pool and copies (R197, R330-R333): LESSON_INSTALL makes the entry of every named Wing VALID at DEST and answers LEN, LESSON_REMOVE clears
the entries (that WINGS of 0 names none and completes with OK is the model's reading, log entry 49); MEM_CLASS writes the granules with zeros under the new class and completes only at
CLASS_CHANGE_DONE; KV_POOL makes the pool, every slot free; a fill copy writes its pattern and completes only at MEM_COPY_DONE. -/
def Obligations.SetupOperations : Prop :=
  (∀ (s : State) (d : Desc) (o : LessonInstallOp) (x : Ext) (f : Fetched) (hdr bs : List Byte) (v v' : State),
    Applies s (.lessonInstall d o x) d (.lessonInstall o x) f → Permitted s d (.lessonInstall o x) → d.handle.toNat ≤ 255 → o.wings ≠ 0#4 →
    (∀ p n, placeOf o.src.toNat ≠ .peer p n) → ((s.markDelivered f.desc).absorb x).outRead (.office (s.tenantOf d)) x o.src.toNat 128 = (hdr, 0, v) →
    lessonLen hdr ≠ 0 → lessonLen hdr ≤ 16777216 → v.outRead (.office (s.tenantOf d)) x o.src.toNat (128 * (lessonLen hdr + 1)) = (bs, 0, v') →
    lessonStatus bs = 0 → hfield hdr 10 1 = d.handle.toNat → o.dest.toNat % 128 = 0 →
    (∀ w ∈ wingsOf o.wings, o.dest.toNat + 128 * (lessonLen hdr + 1) ≤ v'.scratchEnd w ∧ v'.entryValid w d.handle.toNat = false) →
    ∃ u : State, CompletesIn (.lessonInstall d o x) s f u 0 (lessonLen hdr) 0 ∧
      (∀ w ∈ wingsOf o.wings, u.libLE w (s.entryAt w d.handle.toNat) 8 = o.dest.toNat + 1) ∧ u.rooms = s.rooms ∧ u.rbk = s.rbk) ∧
  (∀ (s : State) (d : Desc) (wings : BitVec 4) (f : Fetched), Applies s (.lessonRemove d wings) d (.lessonRemove wings) f → Permitted s d (.lessonRemove wings) →
    d.handle.toNat ≤ 255 → s.mdl.slots.any (fun e => e.2.usesLessons) = false →
    ∃ u : State, CompletesIn (.lessonRemove d wings) s f u 0 0 0 ∧ (∀ w ∈ wingsOf wings, u.entryValid w d.handle.toNat = false) ∧
      u.rooms = s.rooms ∧ u.srv = s.srv ∧ u.mdl = s.mdl) ∧
  (∀ (s : State) (d : Desc) (o : MemClassOp) (f : Fetched), Applies s (.memClass d o) d (.memClass o) f → Permitted s d (.memClass o) →
    o.addr.toNat % 2 ^ 21 = 0 → o.addr.toNat + o.count.toNat * 2 ^ 21 ≤ hbmSize → o.count.toNat ≠ 0 →
    s.meetsImage o.addr.toNat (o.count.toNat * 2 ^ 21) = false → s.meetsPool o.addr.toNat (o.count.toNat * 2 ^ 21) = false → s.anySession = false →
    ∃ u : State, exec (.memClass d o) s = .next u.pump.finish ∧
      u.mem.classes = s.mem.classes ++ [{ first := o.addr.toNat / 2 ^ 21, count := o.count.toNat, desc := f.desc }] ∧
      (∀ j, j < o.count.toNat → marked u.mem.checked (o.addr.toNat / 2 ^ 21 + j) = o.checked) ∧
      (∀ b, b < o.count.toNat * 2 ^ 21 → u.mem.hbmAt (o.addr.toNat + b) = 0) ∧ u.mem.host = s.mem.host ∧ u.rooms = s.rooms) ∧
  (∀ (s : State) (d : Desc) (o : KvPoolOp) (f : Fetched), Applies s (.kvPool d o) d (.kvPool o) f → (s.markDelivered f.desc).kvPoolStatus d o = 0 →
    ∃ u : State, CompletesIn (.kvPool d o) s f u 0 (2 ^ o.recLog2.toNat) 0 ∧ u.pageCount = 2 ^ o.recLog2.toNat ∧
      (∀ b, b < 64 * 2 ^ o.recLog2.toNat → u.mem.hbmAt (o.records.toNat + b) = 0) ∧ u.srv.usedSlots = [] ∧ u.srv.retiring = [] ∧
      (∀ p, u.srv.pool = some p → p.records = o.records.toNat ∧ p.bases = [o.base0.toNat, o.base1.toNat, o.base2.toNat, o.base3.toNat] ∧
        p.log2s = [o.log0.toNat, o.log1.toNat, o.log2.toNat, o.log3.toNat])) ∧
  (∀ (s : State) (d : Desc) (o : MemCopyOp) (x : Ext) (f : Fetched), Applies s (.memCopy d o x) d (.memCopy o x) f → Permitted s d (.memCopy o x) → o.fill = true →
    o.dst.toNat % 32 = 0 → o.length.toNat % 32 = 0 → o.length.toNat ≠ 0 → o.dst.toNat + o.length.toNat ≤ hbmSize →
    s.meetsImage o.dst.toNat o.length.toNat = false → s.anySession = false →
    ∃ u : State, exec (.memCopy d o x) s = .next u.pump.finish ∧
      u.mem.copies = s.mem.copies ++ [{ status := 0, waitsAt := uniq (s.stacksOf o.dst.toNat o.length.toNat), length := o.length.toNat, desc := f.desc }] ∧
      (∀ b, b < o.length.toNat → u.mem.hbmAt (o.dst.toNat + b) = BitVec.ofNat 8 (o.pattern.toNat / 2 ^ (8 * (b % 8)))))

/-- Models and Margin sets (R191, R287-R295): a MODEL_LOAD whose image passes every step of R289 makes the slot RESIDENT with the image; MODEL_UNLOAD of a slot that no turn pins parks it, or
empties it when no session names it, and is BUSY otherwise; MODEL_GOLDEN writes the golden copies, and is BAD_ARG when one names no T1, host-window or peer-window address; MSET_INSTALL makes the
lowest EMPTY record the set's CURRENT version; MSET_REMOVE retires it; the queries write the record of R287 or R292 through the window. That MSET_QUERY of an EMPTY version is BAD_HANDLE is the
model's choice (DESIGN CHOICE, log entry 120). -/
def Obligations.ModelOperations : Prop :=
  (∀ (s : State) (d : Desc) (o : ModelLoadOp) (x : Ext) (f : Fetched) (i : Image) (v w v' : State),
    Applies s (.modelLoad d o x) d (.modelLoad o x) f → Permitted s d (.modelLoad o x) → d.handle.toNat ≤ 63 → s.duskBusy = false →
    (s.slotRec d.handle.toNat).state = .empty ∨ (s.slotRec d.handle.toNat).state = .parked →
    goldenPlace o.golden.toNat = true → goldenPlace o.golden2.toNat = true →
    ((s.markDelivered f.desc).absorb x).readImageAt (.image none (some (s.tenantOf d))) x 0 o.src.toNat
      (if (s.slotRec d.handle.toNat).state = .parked then some (s.slotRec d.handle.toNat).imageId else none) = (.ok i, v) →
    w = (v.lookEntries (List.finRange 4) i.stepLesson true).lookEntries (List.finRange 4) i.idleLesson true →
    modelFieldsOk i.head = true → w.lessonsOk i = true → w.destsOk i 0 = true → w.destsMeet i 0 = false →
    w.copyImage (.image none (some (s.tenantOf d))) x i o.src.toNat 0 = (0, v') →
    ∃ u : State, CompletesIn (.modelLoad d o x) s f u 0 (hfield i.head 8 8) i.chunks ∧ (u.slotRec d.handle.toNat).state = .resident ∧
      (u.slotRec d.handle.toNat).img = some i ∧ (u.slotRec d.handle.toNat).poisoned = [] ∧
      (u.slotRec d.handle.toNat).golden = (if o.golden = 0 then o.src.toNat else o.golden.toNat) ∧ (u.slotRec d.handle.toNat).golden2 = o.golden2.toNat) ∧
  (∀ (s : State) (d : Desc) (f : Fetched), Applies s (.modelUnload d) d .modelUnload f → Permitted s d .modelUnload → d.handle.toNat ≤ 63 →
    ((s.slotRec d.handle.toNat).state = .resident ∨ (s.slotRec d.handle.toNat).state = .lost → (s.slotRec d.handle.toNat).pins = 0 →
      ∃ u : State, CompletesIn (.modelUnload d) s f u 0 0 0 ∧
        (u.slotRec d.handle.toNat).state = (if (s.slotRec d.handle.toNat).sessions = 0 then .empty else .parked) ∧
        (u.slotRec d.handle.toNat).sessions = (s.slotRec d.handle.toNat).sessions ∧ (∀ k, k ≠ d.handle.toNat → u.slotRec k = s.slotRec k) ∧
        { u with mdl := { u.mdl with slots := s.mdl.slots } } = s.markDelivered f.desc) ∧
    ((s.slotRec d.handle.toNat).pins ≠ 0 → CompletesIn (.modelUnload d) s f (s.markDelivered f.desc) 0x21 0 0)) ∧
  (∀ (s : State) (d : Desc) (g g2 : BitVec 48) (f : Fetched), Applies s (.modelGolden d g g2) d (.modelGolden g g2) f → Permitted s d (.modelGolden g g2) →
    d.handle.toNat ≤ 63 →
    (goldenPlace g.toNat = true → goldenPlace g2.toNat = true → (s.slotRec d.handle.toNat).state ≠ .empty →
      ∃ u : State, CompletesIn (.modelGolden d g g2) s f u 0 0 0 ∧
        u.slotRec d.handle.toNat = { s.slotRec d.handle.toNat with golden := g.toNat, golden2 := g2.toNat } ∧
        (∀ k, k ≠ d.handle.toNat → u.slotRec k = s.slotRec k) ∧ { u with mdl := { u.mdl with slots := s.mdl.slots } } = s.markDelivered f.desc) ∧
    (goldenPlace g.toNat = false ∨ goldenPlace g2.toNat = false → CompletesIn (.modelGolden d g g2) s f (s.markDelivered f.desc) 0x11 0 0) ∧
    (goldenPlace g.toNat = true → goldenPlace g2.toNat = true → (s.slotRec d.handle.toNat).state = .empty →
      CompletesIn (.modelGolden d g g2) s f (s.markDelivered f.desc) 0x21 0 0)) ∧
  (∀ (s : State) (d : Desc) (dst : BitVec 48) (x : Ext) (f : Fetched), Applies s (.modelQuery d ⟨dst, x⟩) d (.modelQuery dst x) f → Permitted s d (.modelQuery dst x) →
    d.handle.toNat ≤ 63 → Answerable s d dst.toNat 64 →
    ∃ u : State, CompletesIn (.modelQuery d ⟨dst, x⟩) s f u 0 0 0 ∧ Answered s u x dst.toNat (slotBytes (s.slotRec d.handle.toNat)) ∧ u.mdl = s.mdl) ∧
  (∀ (s s₀ : State) (c : Instr) (after : State → State) (d : Desc) (o : MsetInstallOp) (x : Ext) (f : Fetched) (i : Image) (v v' v'' : State) (n : Nat),
    AppliedBy c s₀ d (.msetInstall o x) f s after → Permitted s d (.msetInstall o x) → d.handle.toNat ≤ 63 → s.msetDenied d o = false →
    o.set ≠ 0xFFFF#16 → o.base.toNat % chunkSize = 0 → goldenPlace o.golden.toNat = true →
    (s.markDelivered f.desc).checkAccess (some (s.tenantOf d)) false o.src.toNat 256 = 0 →
    ((s.markDelivered f.desc).absorb x).readImageAt (.image (some (s.tenantOf d)) (some o.tenant.toNat)) x 1 o.src.toNat none = (.ok i, v) → marginFieldsOk i.head = true →
    hfield i.head 80 8 = (s.slotRec d.handle.toNat).imageId → (∀ j, (s.slotRec d.handle.toNat).img = some j → j.layers = i.layers) →
    v.destsOk i o.base.toNat = true → v.chargeMargin o.tenant.toNat = (true, v') → v.emptyVersion = some n →
    (s.slotRec d.handle.toNat).state = .resident ∨ (s.slotRec d.handle.toNat).state = .repairing → v.destsMeet i o.base.toNat = false →
    v'.copyImage (.image (some (s.tenantOf d)) (some o.tenant.toNat)) x i o.src.toNat o.base.toNat = (0, v'') →
    ∃ u : State, exec c s₀ = .next (after (u.complete f.desc 0 n 0)) ∧ (u.verRec n).state = .current ∧ (u.verRec n).model = d.handle.toNat ∧
      (u.verRec n).set = o.set.toNat ∧ (u.verRec n).tenant = o.tenant.toNat ∧ (u.verRec n).base = o.base.toNat ∧ (u.verRec n).pins = 0 ∧
      (u.verRec n).img = some i) ∧
  (∀ (s : State) (d : Desc) (o : MsetInstallOp) (x : Ext) (f : Fetched), Offered s (.msetInstall d o x) d (.msetInstall o x) f →
    s.pwr.state = .morning ∨ s.pwr.state = .day ∨ s.pwr.state = .dusk → WaitsForBuild (.msetInstall d o x) s d (.msetInstall o x)) ∧
  (∀ (s : State) (d : Desc) (set : BitVec 16) (f : Fetched) (n : Nat), Applies s (.msetRemove d set) d (.msetRemove set) f → Permitted s d (.msetRemove set) →
    d.handle.toNat ≤ 63 → s.currentVersion d.handle.toNat set.toNat = some n → s.foreign d (s.verRec n).tenant = false →
    ∃ u : State, CompletesIn (.msetRemove d set) s f u 0 n 0 ∧
      (u.verRec n).state = (if (s.verRec n).pins = 0 ∧ (s.verRec n).nodes = 0 then .empty else .retiring) ∧ (∀ k, k ≠ n → u.verRec k = s.verRec k)) ∧
  (∀ (s : State) (d : Desc) (dst : BitVec 48) (x : Ext) (f : Fetched), Applies s (.msetQuery d ⟨dst, x⟩) d (.msetQuery dst x) f → Permitted s d (.msetQuery dst x) →
    d.handle.toNat ≤ 4095 →
    ((s.verRec d.handle.toNat).state ≠ .empty → s.foreign d (s.verRec d.handle.toNat).tenant = false → Answerable s d dst.toNat 32 →
      ∃ u : State, CompletesIn (.msetQuery d ⟨dst, x⟩) s f u 0 0 0 ∧ Answered s u x dst.toNat (verBytes (s.verRec d.handle.toNat)) ∧ u.mdl = s.mdl) ∧
    ((s.verRec d.handle.toNat).state = .empty → CompletesIn (.msetQuery d ⟨dst, x⟩) s f (s.markDelivered f.desc) 0x12 0 0))

/-- Sessions (R247, R251, R252, R270, R271, R334, R335). In Day and Dusk the operations wait for a Roster build; applied by it, or in Morning by their own command (the model's reading, log entry
99), SESSION_OPEN
fills the lowest FREE record and answers the handle of its generation; TURN pins the slot; ABORT_TURN and SESSION_END of a session that stands in a step wait for its end, and
otherwise take effect now; PAUSE and RESUME queue the tier move; SESSION_REWIND by 0 is OK_EMPTY, and by more answers the new position; SESSION_QUERY writes the record to DST. -/
def Obligations.SessionOperations : Prop :=
  (∀ (s : State) (c : Instr) (d : Desc) (op : DescOp) (f : Fetched), Offered s c d op f → rosterOp op = true → s.pwr.state = .day ∨ s.pwr.state = .dusk →
    WaitsForBuild c s d op) ∧
  (∀ (s₀ s v : State) (c : Instr) (after : State → State) (d : Desc) (o : SessionOpenOp) (f : Fetched) (k : Nat),
    AppliedBy c s₀ d (.sessionOpen o) f s after → s.markDelivered f.desc = v → v.openStatus d o = 0 → v.freeSess = some k →
    (∀ i, v.image o.model.toNat = some i → ∀ lh ∈ i.grid, ∀ r : SessRec, r.kvmap = o.kvmap.toNat →
      rangesMeet (v.sessAddr k) 256 (headRec r i lh.1 lh.2 + 7168) 32 = false) →
    ∃ t : State, exec c s₀ = .next (after (t.complete f.desc 0 ((v.sess k).handle / 65536 % 65536 * 65536 + k) 0)) ∧
      t.hbmBytes (v.sessAddr k) 256 = sessBytes (openRecord o ((v.sess k).handle / 65536 % 65536 * 65536 + k)) ∧
      (t.slotRec o.model.toNat).sessions = (v.slotRec o.model.toNat).sessions + 1 ∧ t.rooms = v.rooms) ∧
  (∀ (s₀ s v : State) (c : Instr) (after : State → State) (d : Desc) (o : TurnOp) (x : Ext) (f : Fetched) (k : Nat),
    AppliedBy c s₀ d (.turn o x) f s after → (s.markDelivered f.desc).lookHandle d.handle.toNat = v → v.findSess d.handle.toNat = some k →
    v.turnStatus d o x (some k) = 0 →
    ∃ (t : State) (p n : Nat), exec c s₀ = .next (after (t.complete f.desc 0 p n)) ∧
      (t.slotRec (v.sess k).model).pins = (v.slotRec (v.sess k).model).pins + 1 ∧ t.rooms = v.rooms ∧ t.rbk = v.rbk) ∧
  (∀ (s₀ s v : State) (c : Instr) (after : State → State) (d : Desc) (f : Fetched) (k : Nat),
    AppliedBy c s₀ d .abortTurn f s after → (s.markDelivered f.desc).lookHandle d.handle.toNat = v → v.findSess d.handle.toNat = some k →
    v.sessStatus d .abortTurn (some k) [2] = 0 →
    (v.inStep k = true → exec c s₀ = .next (after (v.defer k false f.desc))) ∧
    (v.inStep k = false → (v.outRing (v.sess k).ring).room ≥ 1 → 0 < (v.slotRec (v.sess k).model).pins → (v.sess k).mset = 0xFFFF →
      ∃ t : State, exec c s₀ = .next (after (t.complete f.desc 0 0 0)) ∧
        (t.slotRec (v.sess k).model).pins + 1 = (v.slotRec (v.sess k).model).pins ∧ t.rooms = v.rooms)) ∧
  (∀ (s₀ s v : State) (c : Instr) (after : State → State) (d : Desc) (f : Fetched) (k : Nat),
    AppliedBy c s₀ d .sessionEnd f s after → (s.markDelivered f.desc).lookHandle d.handle.toNat = v → v.findSess d.handle.toNat = some k →
    v.sessStatus d .sessionEnd (some k) [1, 2, 4] = 0 →
    ((v.sess k).state = 2 → v.inStep k = true → exec c s₀ = .next (after (v.defer k true f.desc))) ∧
    ((v.sess k).state = 1 → v.sessBad k = false →
      ∃ t : State, exec c s₀ = .next (after (t.complete f.desc 0 0 0)) ∧ (t.sess k).state = 0 ∧ t.srv.flush.contains k = false ∧
        Sparse.get (fun _ => []) t.srv.blockTok k = [] ∧ t.rooms = v.rooms)) ∧
  (∀ (s₀ s v w : State) (c : Instr) (after : State → State) (d : Desc) (o : PauseOp) (f : Fetched) (k : Nat),
    AppliedBy c s₀ d (.pause o) f s after → (s.markDelivered f.desc).lookHandle d.handle.toNat = v → v.findSess d.handle.toNat = some k →
    v.pauseStatus d o (some k) = 0 → v.lookHeads k = (false, w) →
    ∃ (t : State) (q : MoveReq), exec c s₀ = .next (after t) ∧ t.mem.moves = v.mem.moves ++ [q] ∧ q.resume = false ∧ q.sess = k ∧
      q.window = o.window.toNat ∧ q.width = o.width.toNat ∧ q.ttl = o.ttl.toNat ∧ q.length = o.length.toNat ∧ q.started = false ∧ q.desc = f.desc ∧
      t.srv.flush = v.srv.flush ++ [k] ∧ (v.sessBad k = false → (t.sess k).state = 3) ∧ t.rooms = v.rooms) ∧
  (∀ (s₀ s v w : State) (c : Instr) (after : State → State) (d : Desc) (f : Fetched) (k : Nat),
    AppliedBy c s₀ d .resume f s after → (s.markDelivered f.desc).lookHandle d.handle.toNat = v → v.findSess d.handle.toNat = some k →
    v.sessStatus d .resume (some k) [4] = 0 → v.duskBusy = false → v.lookHeads k = (false, w) →
    ∃ (t : State) (q : MoveReq), exec c s₀ = .next (after t) ∧ t.mem.moves = v.mem.moves ++ [q] ∧ q.resume = true ∧ q.sess = k ∧
      q.started = false ∧ q.desc = f.desc ∧ t.srv.flush = v.srv.flush ∧ (v.sessBad k = false → (t.sess k).state = 5) ∧ t.rooms = v.rooms) ∧
  (∀ (s₀ s v : State) (c : Instr) (after : State → State) (d : Desc) (n : BitVec 32) (f : Fetched) (k : Nat),
    AppliedBy c s₀ d (.sessionRewind n) f s after → Permitted s d (.sessionRewind n) → (s.markDelivered f.desc).lookHandle d.handle.toNat = v →
    v.findSess d.handle.toNat = some k → v.foreign d (v.sess k).tenant = false →
    (n = 0 → exec c s₀ = .next (after (v.complete f.desc 1 0 0))) ∧
    (n ≠ 0 → n.toNat ≤ v.rewindMax (v.sess k) → (v.sess k).state = 1 → ∀ i w, v.image (v.sess k).model = some i →
      v.inHole (v.sess k) i ((v.sess k).position - n.toNat) = false → v.lookHeads k = (false, w) →
      ∃ (t : State) (m : Nat), exec c s₀ = .next (after (t.complete f.desc 0 ((v.sess k).position - n.toNat) m)) ∧ marked t.srv.fresh k = false ∧ t.rooms = v.rooms)) ∧
  (∀ (s₀ s v : State) (c : Instr) (after : State → State) (d : Desc) (dst : BitVec 48) (x : Ext) (f : Fetched) (k : Nat),
    AppliedBy c s₀ d (.sessionQuery dst x) f s after → Permitted s d (.sessionQuery dst x) → (s.markDelivered f.desc).lookHandle d.handle.toNat = v →
    v.findSess d.handle.toNat = some k → v.foreign d (v.sess k).tenant = false → Answerable v d dst.toNat 256 → (∀ y, v.sectorBad y = false) →
    ∃ t : State, exec c s₀ = .next (after (t.complete f.desc 0 0 0)) ∧ Answered v t x dst.toNat (v.hbmBytes (v.sessAddr k) 256) ∧ t.rooms = v.rooms)

/-- Firmware and security operations (R409, R423-R429): FW_QUERY writes the four image headers, FW_STAGE a valid image into the spare bank, FW_ACTIVATE makes a bank that may start
ACTIVE, FW_COMMIT raises the counter of the running image, RBK_FW_STAGE forwards the image, the records are written with their counter raised, and a permit lives from PERMIT_INSTALL
until it is revoked or expires. A boot counter that stands at its last value stays there and the copy in force is written (the model's choice, log entry 137); a Rollbook image staged in Morning
clears READY until the Rollbook has settled it (R427; the model's reading, log entry 138). -/
def Obligations.SecurityOperations : Prop :=
  (∀ (s : State) (d : Desc) (dst : BitVec 48) (x : Ext) (f : Fetched), Applies s (.fwQuery d ⟨dst, x⟩) d (.fwQuery dst x) f →
    (s.markDelivered f.desc).secChecks d (.fwQuery dst x) = 0 → Answerable s d dst.toNat 2048 →
    ∃ (u : State) (bs : List Byte), CompletesIn (.fwQuery d ⟨dst, x⟩) s f u 0 s.sec.bank (b2n s.activeBank) ∧ bs.length = 2048 ∧ Answered s u x dst.toNat bs ∧
      (∀ b k, k = 1 ∨ k = 2 → (bs.drop (1024 * b2n b + 512 * (k - 1))).take 512 = if s.holdsImage b k then s.bankHead b k else List.replicate 512 0) ∧
      u.sec = s.sec) ∧
  (∀ (s : State) (d : Desc) (o : StageOp) (x : Ext) (f : Fetched) (bs : List Byte) (v : State), Applies s (.fwStage d o x) d (.fwStage o x) f →
    (s.markDelivered f.desc).secChecks d (.fwStage o x) = 0 → 513 ≤ o.length.toNat → o.length.toNat ≤ 0xC00000 →
    (s.markDelivered f.desc).srcRead d x o.src.toNat o.length.toNat = (bs, 0, v) →
    (v.fwStageStatus (bs.take 512) (bs.drop 512) o.length.toNat = 0 → bs.length = o.length.toNat →
      ∃ u : State, CompletesIn (.fwStage d o x) s f u 0 (imageSvn (bs.take 512)) (b2n v.spareBank) ∧
        u.flashBytes (imageBase v.spareBank (imageKind (bs.take 512))) 512 = bs.take 512 ∧ (∀ n, n ≠ 5 → u.counter n = s.counter n) ∧
        u.rooms = s.rooms ∧ u.rbk = s.rbk) ∧
    (v.fwStageStatus (bs.take 512) (bs.drop 512) o.length.toNat ≠ 0 →
      ∃ u : State, CompletesIn (.fwStage d o x) s f u (v.fwStageStatus (bs.take 512) (bs.drop 512) o.length.toNat) 0 0 ∧ u.sec = s.sec)) ∧
  (∀ (s : State) (d : Desc) (b : Bool) (f : Fetched), Applies s (.fwActivate d b) d (.fwActivate b) f → (s.markDelivered f.desc).secChecks d (.fwActivate b) = 0 →
    (s.bankCode s.sec.owner s.sec.requireTested b = 0 →
      ∃ u : State, CompletesIn (.fwActivate d b) s f u 0 (b2n b) 0 ∧
        (s.counter 5 < 2 ^ 32 → u.counter 5 = min (s.counter 5 + 1) (2 ^ 32 - 1) ∧ u.activeBank = b) ∧ (∀ n, n ≠ 5 → u.counter n = s.counter n) ∧ u.rbk = s.rbk) ∧
    (s.bankCode s.sec.owner s.sec.requireTested b ≠ 0 → ∃ u : State, CompletesIn (.fwActivate d b) s f u 0x11 0 0 ∧ u.sec = s.sec)) ∧
  (∀ (s : State) (d : Desc) (kind : BitVec 8) (f : Fetched) (n : Nat), Applies s (.fwCommit d kind) d (.fwCommit kind) f →
    (s.markDelivered f.desc).secChecks d (.fwCommit kind) = 0 → (kind = 1#8 ∧ n = imageSvn s.sec.careHeader) ∨ (kind = 2#8 ∧ n = imageSvn s.sec.trainHeader) →
    (n = s.counter (kind.toNat - 1) → CompletesIn (.fwCommit d kind) s f (s.markDelivered f.desc) 1 0 0) ∧
    (s.counter (kind.toNat - 1) < n → ∃ u : State, CompletesIn (.fwCommit d kind) s f u 0 n (s.counter (kind.toNat - 1)) ∧ u.counter (kind.toNat - 1) = n ∧
      (∀ m, m ≠ kind.toNat - 1 → u.counter m = s.counter m) ∧ u.mem = s.mem)) ∧
  (∀ (s : State) (d : Desc) (o : StageOp) (x : Ext) (f : Fetched) (bs : List Byte) (v : State), Applies s (.rbkFwStage d o x) d (.rbkFwStage o x) f →
    (s.markDelivered f.desc).secChecks d (.rbkFwStage o x) = 0 → s.pwr.state ≠ .day → s.duskBusy = false → 513 ≤ o.length.toNat → o.length.toNat ≤ 1049088 →
    (s.markDelivered f.desc).srcRead d x o.src.toNat o.length.toNat = (bs, 0, v) → imageKind (bs.take 512) = 3 →
    tallyVersion s.sec.careHeader (bs.take 512) ≠ 0 → s.rbkUntested (bs.take 512) = false →
    ∃ u : State, exec (.rbkFwStage d o x) s = .next u.pump.finish ∧ u.rbk = { s.rbk with forwarded := some bs } ∧ u.sec = { s.sec with rbkDesc := some f.desc } ∧
      u.pwr = { s.pwr with ready := s.pwr.ready && !(s.pwr.state == .morning) }) ∧
  (∀ (s : State) (d : Desc) (a : BitVec 48) (x : Ext) (f : Fetched) (r : List Byte) (v : State),
    (Applies s (.ownerEnroll d a x) d (.ownerEnroll a x) f → (s.markDelivered f.desc).secChecks d (.ownerEnroll a x) = 0 →
      (s.markDelivered f.desc).srcRead d x a.toNat 256 = (r, 0, v) → v.enrolSigned r = true → v.isDevice ((r.drop 8).take 32) = true →
      s.counter 2 < hfield r 4 4 → hfield r 0 1 = 0x0B → zeros r 1 3 = true → zeros r 104 88 = true → v.noBankFor (ownerKey r) = false →
      ∃ u : State, CompletesIn (.ownerEnroll d a x) s f u 0 (hfield r 4 4) 0 ∧ u.counter 2 = hfield r 4 4 ∧ (∀ n, n ≠ 2 → u.counter n = s.counter n)) ∧
    (Applies s (.configWrite d a x) d (.configWrite a x) f → (s.markDelivered f.desc).secChecks d (.configWrite a x) = 0 →
      (s.markDelivered f.desc).srcRead d x a.toNat 128 = (r, 0, v) → v.signed64 r = true → v.isDevice ((r.drop 8).take 32) = true →
      s.counter 3 < hfield r 4 4 → hfield r 0 1 = 0x0C → hfield r 1 1 < 4 → zeros r 2 2 = true → zeros r 40 24 = true →
      ∃ u : State, CompletesIn (.configWrite d a x) s f u 0 (hfield r 4 4) 0 ∧ u.counter 3 = hfield r 4 4 ∧ (∀ n, n ≠ 3 → u.counter n = s.counter n)) ∧
    (Applies s (.permitInstall d a x) d (.permitInstall a x) f → (s.markDelivered f.desc).secChecks d (.permitInstall a x) = 0 →
      (s.markDelivered f.desc).srcRead d x a.toNat 128 = (r, 0, v) → v.signed64 r = true → v.isDevice ((r.drop 12).take 32) = true →
      s.counter 4 < hfield r 4 4 → hfield r 8 4 ≠ 0 → hfield r 0 1 = 0x0D → hfield r 1 1 < 2 → zeros r 2 2 = true → zeros r 44 20 = true →
      ∃ u : State, CompletesIn (.permitInstall d a x) s f u 0 (hfield r 4 4) 0 ∧ u.counter 4 = hfield r 4 4 ∧ (∀ n, n ≠ 4 → u.counter n = s.counter n) ∧
        u.sec.permit = some { serial := hfield r 4 4, grants := hfield r 1 1, endMs := s.srv.nowMs + hfield r 8 4 })) ∧
  (∀ (s : State) (d : Desc) (f : Fetched), Applies s (.permitRevoke d) d .permitRevoke f → (s.markDelivered f.desc).secChecks d .permitRevoke = 0 →
    (s.sec.permit = none → CompletesIn (.permitRevoke d) s f (s.markDelivered f.desc) 1 0 0) ∧
    (∀ p, s.sec.permit = some p → ∃ u : State, CompletesIn (.permitRevoke d) s f u 0 p.serial 0 ∧ u.sec = { s.sec with permit := none } ∧
      (∀ c, (u.ctx c).inj0 = 0 ∧ field (u.ctx c).inj1 0 16 = 0))) ∧
  (∀ (s : State) (p : Permit), s.sec.permit = some p →
    (p.endMs ≤ s.srv.nowMs → ∃ t, exec .permitExpiry s = .next t ∧ t.sec = { s.sec with permit := none }) ∧
    (s.srv.nowMs < p.endMs → exec .permitExpiry s = .next s))

/-! ### The host interface (11) -/

/-- The host interface's own steps (R308, R309, R315-R319, R337, R341, R342, R345, R491). A poll is counted and fetches the descriptors that the summary counters and producer indices announce, each
with a reserved completion entry; an inconsistent producer index puts the ring in ERROR; while polling is off or requests may not be issued a poll does nothing. A moderated message is sent when
its time comes. Samples and heartbeats are counted and written; a sample that the ring cannot take is counted as lost (that this holds before the ring exists is the model's reading, log entry 94).
Setting ENABLE the first time makes the event ring, and each time takes over the areas and rings that the registers name then (R345). What waited for requests to be allowed goes when they are. -/
def Obligations.HostInterfaceSteps : Prop :=
  (∀ (s : State) (p : PollIn) (P : Nat) (m : Memory), m = p.host.foldl (fun m c => Memory.write m c.1 c.2) s.mem.host →
    (s.enabled = false ∨ s.canIssue = false → exec (.hmPoll p) s = .next ({ s with mem := { s.mem with host := m }, hif := { s.hif with l0p := p.l0p } }).finish) ∧
    (s.enabled = true → s.canIssue = true → s.hif.stalled = [] → s.pwr.state ≠ .twilight → p.failSummary = false → p.failGroups = [] → p.failRings = [] →
      (∀ e ∈ s.hif.subs, e.2.live = false ∨ e.1 = 0) → (s.subRing 0).error = false →
      Memory.readLE m (s.doorbell 0) 8 ≠ Sparse.get (fun _ => 0) s.hif.summary 0 →
      (∀ g, 1 ≤ g → g < 16 → Memory.readLE m (s.doorbell (8 * g)) 8 = Sparse.get (fun _ => 0) s.hif.summary g) →
      P = Memory.readLE m (s.doorbell 0x1000) 8 → 1 ≤ s.regField Off.hmPoll 12 7 →
      (P = (s.subRing 0).cons + 1 → 1 ≤ (s.outRing 0).room →
        ∃ (u : State) (bs : List Byte), exec (.hmPoll p) s = .next u.finish ∧
          bs = Memory.readN m ((s.subRing 0).base + 64 * ((s.subRing 0).cons % 2 ^ (s.subRing 0).log2)) 64 ∧
          u.hif.fetched = s.hif.fetched ++ [Fetched.mk false bs
            { ring := 0, index := (s.subRing 0).cons, tag := hfield bs 8 8, opcode := hfield bs 0 1, entry := (s.outRing 0).next }] ∧
          (u.subRing 0).cons = (s.subRing 0).cons + 1 ∧ (u.outRing 0).next = (s.outRing 0).next + 1 ∧
          u.reg Off.hmPolls = s.reg Off.hmPolls + 1 ∧ u.reg Off.hifDescriptors = s.reg Off.hifDescriptors + 1 ∧ u.rooms = s.rooms ∧ u.srv = s.srv) ∧
      (P < (s.subRing 0).cons ∨ (s.subRing 0).cons + 2 ^ (s.subRing 0).log2 < P →
        ∃ u : State, exec (.hmPoll p) s = .next u.finish ∧ (u.subRing 0).error = true ∧ u.hif.fetched = s.hif.fetched ∧
          u.reg Off.hifRingErrors = s.reg Off.hifRingErrors + 1))) ∧
  (∀ (s : State) (q : Nat) (r : OutRing), s.hif.outs = [(q, r)] → q ≠ 0 → r.live = true →
    (r.due (s.hif.ticks + 1) = true → ∃ t : State, exec .msixModerationCheck s = .next t ∧ (t.outRing q).pending = 0 ∧ (t.outRing q).since = none ∧
      t.reg Off.hifMsixSent = s.reg Off.hifMsixSent + 1 ∧ t.hif.ticks = s.hif.ticks + 1 ∧ t.mem = s.mem) ∧
    (r.due (s.hif.ticks + 1) = false → exec .msixModerationCheck s = .next { s with hif := { s.hif with ticks := s.hif.ticks + 1 } })) ∧
  (∀ (s : State) (k : Nat), k = 1 + ceilDiv (s.regField Off.hifTelemetryCtrl 16 7) 8 →
    (s.regField Off.hifTelemetryCtrl 0 16 ≠ 0 → s.hasFunction = true → (s.telRing k).live = true → s.hif.d3 = false → k ≤ (s.telRing k).room →
      ∃ t : State, exec .telemetrySample s = .next t ∧ t.hif.samples = s.hif.samples + 1 ∧ t.hif.tel.prod = (s.telRing k).prod + k ∧
        t.hif.tel.next = (s.telRing k).next + k) ∧
    (s.regField Off.hifTelemetryCtrl 0 16 ≠ 0 → s.hasFunction = true → (s.telRing k).live = false ∨ s.hif.d3 = true ∨ (s.telRing k).room < k →
      exec .telemetrySample s = .next (s.bump Off.hifTelemetryLost 1)) ∧
    (s.regField Off.hifTelemetryCtrl 0 16 = 0 → exec .telemetrySample s = .next s)) ∧
  (∀ s : State,
    (s.beats = true → ∃ t : State, exec .heartbeatWrite s = .next t ∧ t.hif.beats = (s.hif.beats + 1) % 2 ^ 32 ∧
      Memory.readLE t.mem.host (8 * s.regField Off.hifHeartbeat 3 45) 8 = (s.hif.beats + 1) % 2 ^ 32 + s.pwr.state.code * 2 ^ 32 ∧
      { t with hif := s.hif, mem := { t.mem with host := s.mem.host } } = s) ∧
    (s.beats = false → exec .heartbeatWrite s = .next s) ∧
    (s.bar0On = true → s.enabled = false → ∃ t : State, exec .hifEnable s = .next t ∧ t.enabled = true ∧ t.hif.evReady = true ∧
      (s.hif.evReady = false → t.hif.ev.base = s.regField Off.hifEvent 12 36 * 4096 ∧ t.hif.ev.log2 = s.regField Off.hifEvent 48 5) ∧
      t.hif.tel.base = s.regField Off.hifTelemetry 12 36 * 4096 ∧ t.hif.tel.prod = s.hif.tel.prod ∧
      (∀ o, o = Off.hifDoorbellBase ∨ o = Off.hifShadowBase ∨ o = Off.hifRing0 ∨ o = Off.hifCq0 → Sparse.get regReset t.hif.latched o = s.reg o) ∧ t.rooms = s.rooms ∧ t.srv = s.srv) ∧
    (s.bar0On = true → s.enabled = true → exec .hifEnable s = .next s) ∧ (s.bar0On = false → exec .hifEnable s = .next s.unsupported) ∧
    (∀ on, s.hasFunction = true → ∃ u : State, exec (.busMasterEnableChange on) s = .next u.finish ∧ u.hif.bme = on ∧ u.hif.d3 = s.hif.d3 ∧
      (on = false → u = { s with hif := { s.hif with bme := false } }) ∧
      (on = true → s.hif.d3 = false → u.hif.waitReqs = [] ∧ (marked s.fab.realign 16 = false → u.rlink.waiting = [] ∧ u.rlink.link = s.rlink.link ++ s.rlink.waiting))) ∧
    (s.hasFunction = true → exec .d3hotEntry s = .next { s with hif := { s.hif with d3 := true } }) ∧
    (s.hasFunction = true → ∃ u : State, exec .d0Entry s = .next u.finish ∧ u.hif.d3 = false ∧ u.hif.bme = s.hif.bme ∧
      (s.hif.bme = true → u.hif.waitReqs = [] ∧ (marked s.fab.realign 16 = false → u.rlink.waiting = [])))) ∧
  (∀ (s : State) (v : BitVec 11) (bs : List Byte), bs.length = 4 →
    (s.hasFunction = true → s.hif.d3 = false →
      ((bs.getD 0 0).getLsbD 0 = false → ∃ t : State, exec (.msixVectorUnmask (.write (BitVec.ofNat 16 (16 * v.toNat + 12)) bs)) s = .next t ∧
        marked t.hif.msixOpen v.toNat = true ∧ marked t.hif.msixPend v.toNat = false ∧
        (∀ n, n ≠ v.toNat → marked t.hif.msixOpen n = marked s.hif.msixOpen n ∧ marked t.hif.msixPend n = marked s.hif.msixPend n) ∧
        t.hif.sent = (if marked s.hif.msixPend v.toNat = true ∧ s.canIssue = true then v.toNat :: s.hif.sent else s.hif.sent) ∧ { t with hif := s.hif } = s) ∧
      ((bs.getD 0 0).getLsbD 0 = true → ∃ t : State, exec (.msixVectorUnmask (.write (BitVec.ofNat 16 (16 * v.toNat + 12)) bs)) s = .next t ∧
        marked t.hif.msixOpen v.toNat = false ∧ t.hif.msixPend = s.hif.msixPend ∧ t.hif.sent = s.hif.sent ∧ { t with hif := s.hif } = s)) ∧
    (∀ a : Bar4In, (s.hasFunction = false → exec (.msixVectorUnmask a) s = .next s) ∧
      (s.hasFunction = true → s.hif.d3 = true → exec (.msixVectorUnmask a) s = .next s.unsupported)))

/-! ### Power, resets and module states (13, 14) -/

/-- Supplies and resets (R344, R377, R384, R398, R399, R475, R478, R479): a full reset of a powered module returns every register, memory, queue, table and engine to its reset value and enters
Dawn; memory outside the module, the flash with its counters, the pins and supplies and the Rollbook stay (what stays of these is the model's reading, log entry 84). The loss of the main input
or a thermal trip enters Midnight, and the module leaves it for Dawn only when both supplies are within range, the standby supply for 10 ms, and PERST# is deasserted (PERST# as a level, whose
deassertion alone resets nothing, is log entry 83; that MS_TICK times the 10 ms is log entry 139). The loss of the standby supply journals ENERGY and releases the outputs that it feeds, SMBALERT# among
them (log entry 129). -/
def Obligations.SuppliesAndResets : Prop :=
  (∀ (s : State) (r : ResetSource),
    (s.pwr.state ≠ .midnight → ∃ t : State, exec (.fullReset r) s = .next t ∧
      t = { State.reset with
            pending := s.pending
            mem := { State.reset.mem with host := s.mem.host, peer := s.mem.peer }
            sec := { State.reset.sec with flash := s.sec.flash, counters := s.sec.counters, romHash := s.sec.romHash, draws := s.sec.draws }
            hif := { State.reset.hif with heldEvents := [{ kind := 0x30, status := 0, subject := 1, detail := s.pwr.state.code, detail2 := 1, seq := 0 }] }
            pwr := { State.reset.pwr with cause := resetCause r, mainOk := s.pwr.mainOk, standbyOk := s.pwr.standbyOk, perst := s.pwr.perst || decide (r = .perst)
                                          thermtrip := s.pwr.thermtrip, slotAddr := s.pwr.slotAddr, leadMs := s.pwr.leadMs, sensors := s.pwr.sensors
                                          wet := s.pwr.wet, beyond := t.pwr.beyond, smbalert := t.pwr.smbalert }
            rbk := s.rbk, rlink := { State.reset.rlink with seen := s.rbk.logNext } } ∧
      t.pwr.smbalert = decide (t.pwr.beyond ≠ []) ∧ (∀ n, 5 < n → marked t.pwr.beyond n = marked s.pwr.beyond n) ∧
      (∀ n, 1 ≤ n → n ≤ 5 → (marked t.pwr.beyond n = true ↔ 100000 < Sparse.get (fun _ => 0) s.pwr.sensors n))) ∧
    (s.pwr.state = .midnight → r ≠ .perst → exec (.fullReset r) s = .next s) ∧
    (s.pwr.state = .midnight → exec (.fullReset .perst) s = .next { s with pwr := { s.pwr with perst := true } })) ∧
  (∀ s : State,
    (s.pwr.state = .midnight → s.pwr.standbyOk = true → 10 ≤ s.pwr.leadMs → s.pwr.perst = false →
      ∃ t : State, exec .mainInputValid s = .next t ∧ t.pwr.state = .dawn ∧ t.pwr.mainOk = true ∧ t.pwr.thermtrip = false ∧ t.rbk = s.rbk ∧ t.sec.flash = s.sec.flash ∧
        t.regs = State.reset.regs ∧ t.rooms = State.reset.rooms ∧ t.srv = State.reset.srv) ∧
    (s.pwr.state = .midnight → s.pwr.standbyOk = false ∨ s.pwr.leadMs < 10 ∨ s.pwr.perst = true →
      exec .mainInputValid s = .next { s with pwr := { s.pwr with mainOk := true } }) ∧
    (s.pwr.state = .midnight → s.pwr.standbyOk = true → 10 ≤ s.pwr.leadMs → s.pwr.mainOk = true →
      ∃ t : State, exec .perstDeassert s = .next t ∧ t.pwr.state = .dawn ∧ t.pwr.perst = false ∧ t.rbk = s.rbk) ∧
    (s.pwr.state = .midnight → s.pwr.standbyOk = false ∨ s.pwr.leadMs < 10 ∨ s.pwr.mainOk = false →
      exec .perstDeassert s = .next { s with pwr := { s.pwr with perst := false } }) ∧
    (s.pwr.state ≠ .midnight → exec .perstDeassert s = .next { s with pwr := { s.pwr with perst := false } }) ∧
    (s.pwr.state ≠ .midnight → ∃ t : State, exec .mainInputLoss s = .next t ∧ t.pwr.state = .midnight ∧ t.pwr.mainOk = false ∧ t.pwr.cause = 4 ∧
      t.pwr.slotAddr = s.pwr.slotAddr ∧ t.pwr.leadMs = s.pwr.leadMs ∧ t.regs = State.reset.regs ∧ t.staged = [] ∧ t.commits = [] ∧
      t.mem = { State.reset.mem with host := s.mem.host, peer := s.mem.peer } ∧ t.srv = State.reset.srv ∧ t.mdl = State.reset.mdl ∧ t.fab = State.reset.fab ∧ t.asm = [] ∧
      t.rooms = State.reset.rooms ∧ t.wings = State.reset.wings ∧ t.rbk = s.rbk ∧ t.sec.flash = s.sec.flash ∧ t.sec.counters = s.sec.counters) ∧
    (∀ die, s.pwr.state ≠ .midnight → ∃ t : State, exec (.thermalTrip die) s = .next t ∧ t.pwr.state = .midnight ∧ t.pwr.thermtrip = true ∧ t.pwr.cause = 5 ∧
      t.rbk = s.rbk) ∧
    (s.pwr.standbyOk = true → ∃ t : State, exec .standbyLoss s = .next t ∧ t.pwr.state = .midnight ∧ t.pwr.standbyOk = false ∧ t.pwr.leadMs = 0 ∧
      t.pwr.smbalert = false ∧ t.pwr.thermtrip = false ∧ t.rbk = { s.rbk with energyJournal := s.rbk.energy } ∧ t.sec.flash = s.sec.flash) ∧
    (s.pwr.standbyOk = false → ∃ t : State, exec .standbyPowerOn s = .next t ∧ t.rlink.link = [] ∧
      t.pwr = { State.reset.pwr with state := .midnight, mainOk := s.pwr.mainOk, perst := s.pwr.perst, slotAddr := s.pwr.slotAddr, leadMs := 0 } ∧
      t.rbk = s.rbk.note 0x01 [0] ∧ t.sec.flash = s.sec.flash ∧ t.sec.counters = s.sec.counters ∧ t.regs = State.reset.regs))

/-- From Dawn to Night (R302, R376-R383, R406, R415, R418-R422): Dawn starts the ACTIVE bank in Morning when its checks pass, and the recovery service in Twilight when no bank passes, the vendor key does not match the ROM's hash, or there is no identity; Morning's
bring-up trains the stacks or, when a unit is unusable, enters Twilight; READY comes once the tests and the link are done and takes a TARGET of Day; TARGET moves Day to Dusk and back; Dusk that
has drained goes to Night with every Classroom on Holiday, and one that lasts too long ends the turns at the next build. BANK 3 for a vendor key that does not match, and for enrolments of which no
copy is valid, is log entry 69, what an unanswered Rollbook leaves is log entry 74 (both the model's readings); of several unusable units the command names one (the model's choice, log entry 121). -/
def Obligations.ModuleStates : Prop :=
  (∀ (s : State) (seed : Option (BitVec 256)) (l : LinkIn),
    (s.pwr.state ≠ .dawn → exec (.dawnBoot ⟨seed, l⟩) s = .next s) ∧
    (s.pwr.state = .dawn → seed = none → ∃ t : State, exec (.dawnBoot ⟨seed, l⟩) s = .next t ∧ t.pwr.state = .twilight ∧ t.sec.bank = 3 ∧ t.sec.booted = false ∧
      t.sec.identity = none ∧ t.hif.linkSpeed = l.speed.toNat ∧ t.rbk = s.rbk) ∧
    (∀ x : BitVec 256, s.pwr.state = .dawn → seed = some x → sha256 s.vendorKey ≠ s.sec.romHash →
      ∃ t : State, exec (.dawnBoot ⟨seed, l⟩) s = .next t ∧ t.pwr.state = .twilight ∧ t.sec.bank = 3 ∧ t.sec.vendorOk = false ∧
        t.sec.identity = some (identityOf x.toNat) ∧ t.rbk = s.rbk) ∧
    (∀ (x : BitVec 256) (w₀ w v : State), s.pwr.state = .dawn → seed = some x → sha256 s.vendorKey = s.sec.romHash →
      w₀ = { s with sec := { s.sec with identity := some (identityOf x.toNat), vendorOk := true } } → w = w₀.verifyFails w₀.enrolFails →
      (w.enrolment = none → 0 < w.counter 2 → ∃ t : State, exec (.dawnBoot ⟨seed, l⟩) s = .next t ∧ t.pwr.state = .twilight ∧ t.sec.bank = 3 ∧ t.rbk = s.rbk) ∧
      ((w.enrolment = none ∧ w.counter 2 = 0 ∧ v = ({ w with sec := { w.sec with owner := none, ownerSet := true } }).readConfig) ∨
        (∃ i, w.enrolment = some i ∧ v = ({ w with sec := { w.sec with owner := ownerKey (w.enrolCopy i), ownerSet := true } }).readConfig) →
      ∃ t : State, exec (.dawnBoot ⟨seed, l⟩) s = .next t ∧ t.rbk = s.rbk ∧ t.sec.identity = some (identityOf x.toNat) ∧
        (v.bankCode v.sec.owner v.sec.requireTested v.activeBank = 0 → t.pwr.state = .morning ∧ t.sec.booted = true ∧ t.sec.bank = b2n v.activeBank ∧
          t.sec.careHeader = v.bankHead v.activeBank 1) ∧
        (v.bankCode v.sec.owner v.sec.requireTested v.activeBank ≠ 0 → v.bankCode v.sec.owner v.sec.requireTested (!v.activeBank) = 0 →
          t.pwr.state = .morning ∧ t.sec.bank = b2n (!v.activeBank)) ∧
        (v.bankCode v.sec.owner v.sec.requireTested v.activeBank ≠ 0 → v.bankCode v.sec.owner v.sec.requireTested (!v.activeBank) ≠ 0 →
          t.pwr.state = .twilight ∧ t.sec.bank = 3)))) ∧
  (∀ (s : State) (m : MorningIn), s.pwr.state = .morning → s.pwr.tested = false → s.sec.booted = true →
    (m.failed = none → ∃ u : State, exec (.morningBringup m) s = .next u.finish ∧ u.pwr.tested = true ∧ (∀ k, (u.stack k).trained = true) ∧
      u.sec.train = trainVersion s.sec.careHeader s.sec.trainHeader ∧
      (m.answers = true → u.hif.linkSpeed = m.link.speed.toNat ∧ u.hif.linkWidth = (if m.link.wide then 16 else 8) ∧
        u.hif.flit = (m.link.flit || decide (m.link.speed = 6)) ∧
        (u.pwr.state = .morning ∨ u.pwr.state = .twilight)) ∧
      (m.answers = false → u.sec.asking = some m.link ∧ u.pwr.state = .morning ∧ u.hif.linkSpeed = s.hif.linkSpeed)) ∧
    (∀ k, m.failed = some k → ∃ u : State, exec (.morningBringup m) s = .next u.finish ∧ u.pwr.state = .twilight ∧ u.pwr.tested = false)) ∧
  (∀ s : State,
    (∀ l, s.pwr.state = .morning → s.sec.asking = some l → ∃ u : State, exec .rollbookInfoTimeout s = .next u.finish ∧ u.sec.tally = 0 ∧ u.sec.asking = none ∧
      (s.sec.requireMetering = true → u.pwr.state = .twilight) ∧ (s.sec.requireMetering = false → u.sec.unmetered = true ∧ u.pwr.state = .morning)) ∧
    (s.sec.asking = none → exec .rollbookInfoTimeout s = .next s.finish) ∧
    (s.readyDue = true → s.pwr.ready = false → ∃ u : State, exec .readySet s = .next u.finish ∧ u.pwr.ready = true ∧
      u.pwr.state = (if s.target = 3 then .day else .morning)) ∧
    (s.bar0On = true → s.pwr.state = .dusk ∨ s.pwr.state = .night ∨ (s.pwr.state = .morning ∧ s.pwr.ready = true) →
      ∃ u : State, exec .targetDay s = .next u.finish ∧ u.pwr.state = .day ∧ u.target = 3 ∧ (∀ k, (u.stack k).selfRefresh = false)) ∧
    (s.bar0On = true → s.pwr.state = .day → ∃ u : State, exec .targetNight s = .next u.finish ∧ u.pwr.state = .dusk ∧ u.target = 5 ∧ u.pwr.duskMs = s.srv.nowMs) ∧
    (s.bar0On = false → exec .targetDay s = .next s.unsupported ∧ exec .targetNight s = .next s.unsupported) ∧
    (s.pwr.state = .dusk → s.isDrained = true → ∃ u : State, exec .duskDrainComplete s = .next u.finish ∧ u.pwr.state = .night ∧
      (∀ k : Fin 32, (u.room k).power = .holiday ∧ (u.stack k).selfRefresh = true)) ∧
    (s.pwr.state ≠ .dusk ∨ s.isDrained = false → exec .duskDrainComplete s = .next s.finish) ∧
    (s.pwr.state = .dusk → s.regField Off.pwrDusk 0 32 ≠ 0 → s.pwr.duskMs + s.regField Off.pwrDusk 0 32 ≤ s.srv.nowMs → s.pwr.duskDone = false → s.isDrained = false →
      exec .duskTimeout s = .next { s with pwr := { s.pwr with duskDone := true, endAll := true } }))

/-- Power control and faults (R385, R390-R392, R453, R462, R463): Classrooms rest after their idle time and only between steps; droop stretches the Wing's clock until its sensors are clear; a
sample above 1,900 W forces the lowest step and CAP at once, and one above the limit is counted. A persistent fault of a serving module is named in ERR_STATUS, stops the Wings and ends in Twilight;
what is within its bounds does not, and one met in Twilight is named in ERR_STATUS and nothing more. A credit audit compares the sender's credits with its buffers less the flits it has sent and the
receiver has not freed (R453; the flits sent are the state's count, the credits and the count freed those that the command names: log entry 102). -/
def Obligations.PowerControlAndFaults : Prop :=
  (∀ (s : State) (u : Cr) (n : Nat),
    ((s.room u.idx).power = .inClass → s.restful u.w = true → s.regField Off.pwrClass 0 16 ≠ 0 → s.regField Off.pwrClass 0 16 ≤ n →
      ∃ t : State, exec (.recessEntry u n) s = .next t ∧ t.room u.idx = { s.room u.idx with power := .recess } ∧ (∀ k, k ≠ u.idx → t.room k = s.room k) ∧
        { t with rooms := s.rooms } = s) ∧
    (s.restful u.w = false → exec (.recessEntry u n) s = .next s ∧ exec (.holidayEntry u n) s = .next s) ∧
    (s.restful u.w = true → s.regField Off.pwrClass 16 16 ≠ 0 → s.regField Off.pwrClass 16 16 ≤ n →
      ∃ t : State, exec (.holidayEntry u n) s = .next t ∧ t.room u.idx = { s.room u.idx with power := .holiday } ∧ (∀ k, k ≠ u.idx → t.room k = s.room k) ∧
        { t with rooms := s.rooms } = s) ∧
    (s.clocked = true → ∃ t : State, exec (.droopTrip u) s = .next t ∧ (t.room u.idx).droop = true ∧ (t.wing u.w).stretched = true ∧
      t.reg Off.pwrDroopTrips = s.reg Off.pwrDroopTrips + 1 ∧ (∀ k, k ≠ u.idx → t.room k = s.room k)) ∧
    (∀ clear : Nat, (s.wing u.w).stretched = true → s.regField Off.pwrDroop 0 16 ≤ clear →
      ∃ t : State, exec (.droopRelease u.w n clear) s = .next t ∧ (t.wing u.w).stretched = false ∧ (∀ c : Room, (t.room (roomIndex u.w c)).droop = false) ∧
        t.reg (droopCycles u.w) = s.reg (droopCycles u.w) + BitVec.ofNat 64 n)) ∧
  (∀ (s : State) (p : PowerIn), s.hasFunction = true → marked s.commits 0 = true → ∃ u : State, exec (.powerSample p) s = .next u.finish ∧
    u.reg Off.pwrLimit = s.stagedReg Off.pwrLimit ∧ marked u.commits 0 = false ∧ u.pwr.lastW = p.watts) ∧
  (∀ (s : State) (p : PowerIn), s.hasFunction = true → marked s.commits 0 = false → ∃ t : State, exec (.powerSample p) s = .next t ∧ t.pwr.lastW = p.watts ∧
    t.pwr.temps = [p.t0.toNat, p.t1.toNat, p.t2.toNat, p.t3.toNat, p.t4.toNat] ∧ (∀ k, (t.stack k).cap = t.pwr.cap) ∧ s.regField Off.pwrLimit 20 3 ≤ t.pwr.step ∧
    t.reg Off.pwrOverUs = s.reg Off.pwrOverUs + (if s.regField Off.pwrLimit 0 11 < p.watts then 10 else 0) ∧
    (1900 < p.watts → 4 ≤ t.pwr.step ∧ t.pwr.cap = 16 ∧ t.reg Off.pwrEmergencies = s.reg Off.pwrEmergencies + 1) ∧ t.rooms = s.rooms ∧ t.rbk = s.rbk) ∧
  (∀ (s : State) (c : Instr) (cause unit : Nat), s.faultable = true → s.hif.stalled = [] → s.regField Off.errStatus 0 4 = 0 → 1 ≤ cause → cause ≤ 5 → unit < 2 ^ 48 →
    (∃ a : Audit, c = .linkCreditAudit a ∧ s.auditHolds a = false ∧ cause = 5 ∧ unit = linkUnit a.link) ∨
    (∃ (l : Fin 8) (n : Nat), c = .flitResend l n ∧ 16 ≤ n ∧ cause = 1 ∧ unit = linkUnit l) ∨
    (∃ k : Fin 32, c = .stackTrainingLoss k ∧ (s.stack k).trained = true ∧ cause = 2 ∧ unit = 0x100 + k.val) ∨
    (∃ w : Wing, c = .stepWatchdog ∧ s.srv.watchdog ≠ 0 ∧ s.srv.startMs + s.srv.watchdog ≤ s.srv.nowMs ∧ s.lateWing = some w ∧ cause = 4 ∧ unit = 0x300 + w.val) ∨
    (∃ (l : Fin 8) (us : Nat), c = .dieToDieLinkDown l us ∧ 10 ≤ us ∧ cause = 1 ∧ unit = linkUnit l) →
    ∃ u : State, exec c s = .next u.finish ∧ u.regN Off.errStatus = cause + unit * 16 ∧
      (s.srv.inFlight = true → u.reg Off.srvStepsFailed = s.reg Off.srvStepsFailed + 1)) ∧
  (∀ s : State,
    (∀ a : Audit, s.auditHolds a = true → exec (.linkCreditAudit a) s = .next (s.setAudited a).finish) ∧
    (∀ a : Audit, (s.setAudited a).flits (auditHop a) a.channel.val = s.flits (auditHop a) a.channel.val ∧
      (s.auditHolds a = true ↔ a.credits + (s.flits (auditHop a) a.channel.val + 2 ^ 32 - a.freed.toNat) % 2 ^ 32 = linkBuffers a.channel)) ∧
    (∀ l : Fin 8, s.pwr.state = .twilight → s.regField Off.errStatus 0 4 = 0 → ∃ u : State, exec (.dieToDieLinkDown l 10) s = .next u.finish ∧
      u.regN Off.errStatus = 1 + linkUnit l * 16 ∧ (∀ o, o ≠ Off.errStatus → u.reg o = s.reg o) ∧ { u with regs := s.regs } = s) ∧
    (∀ (l : Fin 8) (n : Nat), n < 16 → exec (.flitResend l n) s = .next (s.bump Off.errLinkRetries 1).finish) ∧
    (∀ k : Fin 32, (s.stack k).trained = false → exec (.stackTrainingLoss k) s = .next s.finish) ∧
    (s.srv.watchdog = 0 ∨ s.srv.nowMs < s.srv.startMs + s.srv.watchdog → exec .stepWatchdog s = .next s.finish) ∧
    (∀ (l : Fin 8) (us : Nat), us < 10 → exec (.dieToDieLinkDown l us) s = .next s.finish)) ∧
  (∀ s : State, s.faultable = true → s.srv.inFlight = false → s.srv.next = none → s.activeSessions = [] → s.hif.stalled = [] → ∀ l : Fin 8,
    ∃ u : State, exec (.dieToDieLinkDown l 10) s = .next u.finish ∧ u.pwr.state = .twilight ∧ (∀ w : Wing, (u.seq w).phase = .idle) ∧ u.rbk = s.rbk)

/-! ### The Corridor fabric (12) -/

/-- Data packets (R349-R351, R354-R356, R452). A packet of a LIVE context that has a buffer left and that comes in order is taken once: a WRITE within its export is stored, a READ_REQ changes no memory, a READ_RESP's bytes are the
peer's, and RX_PSN rises by one. One before or beyond the window stores nothing, one beyond a gap waits, one out of the export is counted as refused and stores nothing. One for which the context has no buffer left is dropped and counted in ERR_CREDIT_DROPS. One that is not addressed to
the port or has a bad CRC or a stale tag is only counted; on a port that carries nothing none is. -/
def Obligations.CorridorDataPackets : Prop :=
  (∀ (s : State) (p : Packet) (type k : Nat), k = p.ctx.toNat → type ≤ 3 → s.takes p type = true → (s.ctx k).held = [] → (s.ctx k).buf = [] → (s.ctx k).rxPsn < 2 ^ 32 →
    (∀ y, s.sectorBad y = false) →
    (p.psn.toNat = (s.ctx k).rxPsn → (s.ctx k).credits ≠ 0 → (s.ctx k).assembly = false →
      ∃ u : State, exec (dataCmd type p) s = .next u.finish ∧ (u.ctx k).rxPsn = ((s.ctx k).rxPsn + 1) % 2 ^ 32 ∧
        u.reg Off.fabRxPkts = s.reg Off.fabRxPkts + 1 ∧ u.rooms = s.rooms ∧ u.srv = s.srv ∧
        (type = 0 → (s.ctx k).exportStatus true (p.arg1.toNat % 2 ^ 40) p.payload.length = 0 →
          u.hbmBytes ((s.ctx k).exportBase + p.arg1.toNat % 2 ^ 40) p.payload.length = p.payload ∧
          (∀ b, b < (s.ctx k).exportBase + p.arg1.toNat % 2 ^ 40 ∨ (s.ctx k).exportBase + p.arg1.toNat % 2 ^ 40 + p.payload.length ≤ b →
            u.mem.hbmAt b = s.mem.hbmAt b) ∧ u.mem.peer = s.mem.peer) ∧
        (type = 0 → (s.ctx k).exportStatus true (p.arg1.toNat % 2 ^ 40) p.payload.length ≠ 0 →
          u.mem.hbm = s.mem.hbm ∧ u.reg Off.fabExportRefused = s.reg Off.fabExportRefused + 1) ∧
        (type = 1 → u.mem.hbm = s.mem.hbm ∧ u.mem.peer = s.mem.peer ∧
          ((s.ctx k).exportStatus false (p.arg1.toNat % 2 ^ 40) (p.arg2.toNat % 2 ^ 32) = 0 → s.portBlocked (s.ctx k).port = true →
            (u.ctx k).queue = (s.ctx k).queue ++
              respSegs s.mtu (p.arg1.toNat % 2 ^ 40) (s.hbmBytes ((s.ctx k).exportBase + p.arg1.toNat % 2 ^ 40) (p.arg2.toNat % 2 ^ 32)))) ∧
        (type = 2 → (s.ctx k).exportStatus false (p.arg1.toNat % 2 ^ 40) p.payload.length = 0 →
          Memory.readN u.mem.peer (0x300000000000 + k * 2 ^ 32 + p.arg1.toNat % 2 ^ 40) p.payload.length = p.payload ∧ u.mem.hbm = s.mem.hbm)) ∧
    (p.psn.toNat = (s.ctx k).rxPsn → (s.ctx k).credits ≠ 0 → (s.ctx k).assembly = true → type = 3 →
      ∃ u : State, exec (.corridorAsm p) s = .next u.finish ∧ (u.ctx k).rxPsn = ((s.ctx k).rxPsn + 1) % 2 ^ 32 ∧ u.mem.hbm = s.mem.hbm ∧ u.mem.peer = s.mem.peer) ∧
    (256 ≤ psnSub p.psn.toNat (s.ctx k).rxPsn →
      ∃ u : State, exec (dataCmd type p) s = .next u.finish ∧ (u.ctx k).rxPsn = (s.ctx k).rxPsn ∧ (u.ctx k).buf = [] ∧ u.mem.hbm = s.mem.hbm ∧ u.mem.peer = s.mem.peer) ∧
    (0 < psnSub p.psn.toNat (s.ctx k).rxPsn → psnSub p.psn.toNat (s.ctx k).rxPsn < 256 → (s.ctx k).credits ≠ 0 →
      ∃ u : State, exec (dataCmd type p) s = .next u.finish ∧ (u.ctx k).rxPsn = (s.ctx k).rxPsn ∧ u.mem.hbm = s.mem.hbm ∧ u.mem.peer = s.mem.peer ∧
        (Sparse.get (fun _ => none) (u.ctx k).buf p.psn.toNat).isSome = true)) ∧
  (∀ (s : State) (p : Packet) (type k : Nat), k = p.ctx.toNat → type ≤ 3 → s.takes p type = true → psnSub p.psn.toNat (s.ctx k).rxPsn < 256 →
    (Sparse.get (fun _ => none) (s.ctx k).buf p.psn.toNat).isSome = false → (s.ctx k).credits ≤ (s.ctx k).holding →
    ∃ u : State, exec (dataCmd type p) s = .next u.finish ∧ u.reg Off.errCreditDrops = s.reg Off.errCreditDrops + 1 ∧ (u.ctx k).buf = (s.ctx k).buf ∧
      (u.ctx k).rxPsn = (s.ctx k).rxPsn ∧ (u.ctx k).held = (s.ctx k).held ∧ u.mem.hbm = s.mem.hbm ∧ u.mem.peer = s.mem.peer) ∧
  (∀ (s : State) (p : Packet) (type : Nat), type ≤ 3 →
    (s.portLive p.port.val = false → exec (dataCmd type p) s = .next s.finish) ∧
    (s.portLive p.port.val = true → s.addressed p = false ∨ 4096 < p.payload.length → exec (dataCmd type p) s = .next (s.bump Off.fabForeignDrops 1).finish) ∧
    (s.portLive p.port.val = true → s.addressed p = true → p.payload.length ≤ 4096 → packetCrcOk p type = false → exec (dataCmd type p) s = .next (s.bump Off.fabCrcDrops 1).finish) ∧
    (s.portLive p.port.val = true → s.addressed p = true → p.payload.length ≤ 4096 → packetCrcOk p type = true → (s.ctx p.ctx.toNat).state ≠ 1 ∨ (s.ctx p.ctx.toNat).tag ≠ p.tag.toNat →
      exec (dataCmd type p) s = .next (s.bump Off.fabStaleDrops 1).finish)) ∧
  (∀ (s : State) (n : Fin 16),
    exec (.foreignFrame n) s = .next (if s.portLive n.val then s.bump Off.fabForeignDrops 1 else s))

/-- Acknowledgement, timers and links (R348, R349, R356-R359, R372, R373, R395-R397). An ACK frees what it acknowledges; a NAK retransmits, once, what it shows missing; the ACK timer sends
what it owes; each expiry of the retransmission timer doubles it to its ceiling and resends, until the limit makes the peer LOST; a rate update follows the marks; pauses hold a port and links go down
and up with their crossing, which carries again once it has realigned; what the Rollbook's crossing had in flight is lost. A delayed packet goes when its delay ends, and one that is also
reordered once the next has gone (log entry 62); that the Rollbook's crossing is the one numbered 16, and what waits on it, is log entry 86: both the model's readings. -/
def Obligations.CorridorTimersAndLinks : Prop :=
  (∀ (s : State) (p : Packet) (k : Nat), k = p.ctx.toNat →
    (s.takes p 4 = true → p.ce = false → (s.ctx k).queue = [] → psnSub p.ackPsn.toNat (s.ctx k).ackPsn ≤ psnSub (s.ctx k).txPsn (s.ctx k).ackPsn →
      0 < psnSub p.ackPsn.toNat (s.ctx k).ackPsn →
      ∃ t : State, exec (.corridorAck p) s = .next t ∧ (t.ctx k).ackPsn = p.ackPsn.toNat ∧ (t.ctx k).credit = p.credits.toNat ∧
        (t.ctx k).unacked = (s.ctx k).unacked.filter (fun u => decide (psnSub u.psn p.ackPsn.toNat < 2 ^ 31)) ∧ (t.ctx k).expiries = 0 ∧
        (∀ j, j ≠ k → t.ctx j = s.ctx j) ∧ t.mem = s.mem ∧ t.hif = s.hif) ∧
    (s.takes p 5 = true → p.ce = false →
      ∃ t : State, exec (.corridorNak p) s = .next t ∧
        t.reg Off.fabRetx = s.reg Off.fabRetx + BitVec.ofNat 64
          ((((s.ctx k).takeAck (s.regField Off.fabRto 0 16) p.ackPsn.toNat p.credits.toNat p.ece.toNat).nakResends p.ackPsn.toNat p.sack.toNat).length) ∧
        t.mem.hbm = s.mem.hbm ∧ t.rooms = s.rooms) ∧
    (s.portLive p.port.val = false → (s.ctx k).queue = [] → exec (.corridorAck p) s = .next s ∧ exec (.corridorNak p) s = .next s)) ∧
  (∀ (s : State) (x : BitVec 12) (k : Nat), k = x.toNat →
    (0 < (s.ctx k).arrived → (s.ctx k).state = 1 →
      ∃ t : State, exec (.ackTimer x) s = .next t ∧ (t.ctx k).arrived = 0 ∧ (t.ctx k).ece = 0 ∧ (t.ctx k).rxPsn = (s.ctx k).rxPsn ∧ (∀ j, j ≠ k → t.ctx j = s.ctx j) ∧
        ((s.ctx k).inj0 = 0 → (s.ctx k).inj1 = 0 → (s.ctx k).reorder = [] → s.portLoses (s.ctx k).port = false → s.portBlocked (s.ctx k).port = false →
          t.fab.wire = s.sealFrame { (s.ctx k).frame k 4 true false (s.ctx k).txPsn 0 0 [] with n := (s.ctx k).injN } :: s.fab.wire ∧
          t.reg Off.fabTxPkts = s.reg Off.fabTxPkts + 1) ∧
        (s.portLoses (s.ctx k).port = true → t.fab.wire = s.fab.wire ∧ t.fab.waiting = s.fab.waiting)) ∧
    ((s.ctx k).arrived = 0 → exec (.ackTimer x) s = .next s) ∧
    ((s.ctx k).state = 1 → (s.ctx k).unacked ≠ [] → (s.ctx k).expiries + 1 < s.regField Off.fabRto 16 4 →
      ∃ t : State, exec (.rtoExpiry x) s = .next t ∧ (t.ctx k).expiries = (s.ctx k).expiries + 1 ∧ (t.ctx k).rto = min (2 * (s.ctx k).rto) s.rtoMax ∧
        (t.ctx k).unacked = (s.ctx k).unacked ∧ (t.ctx k).state = 1 ∧ t.reg Off.fabRetx = s.reg Off.fabRetx + BitVec.ofNat 64 (s.ctx k).unacked.length) ∧
    ((s.ctx k).state = 1 → (s.ctx k).unacked ≠ [] → s.regField Off.fabRto 16 4 ≤ (s.ctx k).expiries + 1 →
      ∃ t : State, exec (.rtoExpiry x) s = .next t ∧ (t.ctx k).state = 2 ∧ (t.ctx k).unacked = [] ∧ (t.ctx k).queue = [] ∧
        (∀ f ∈ Sparse.get (fun _ => []) t.fab.waiting (s.ctx k).port, f.ctx ≠ k) ∧ t.reg Off.fabPeersLost = s.reg Off.fabPeersLost + 1 ∧ (∀ j, j ≠ k → t.ctx j = s.ctx j)) ∧
    ((s.ctx k).state ≠ 1 ∨ (s.ctx k).unacked = [] → exec (.rtoExpiry x) s = .next s) ∧
    ((s.ctx k).state = 1 → ∃ t : State, exec (.rateUpdate x) s = .next t ∧ (t.ctx k).marked = 0 ∧ (t.ctx k).acked = 0 ∧
      ((s.ctx k).marked = 0 → (t.ctx k).rate = min s.portRate ((s.ctx k).rate + s.regField Off.fabRate 36 20)) ∧
      (0 < (s.ctx k).marked → 0 < (s.ctx k).acked → (t.ctx k).rate = max (s.regField Off.fabRate 16 20)
        ((s.ctx k).rate - (s.ctx k).rate * min (s.ctx k).marked (s.ctx k).acked / (2 * (s.ctx k).acked))) ∧
      (∀ j, j ≠ k → t.ctx j = s.ctx j) ∧ t.regs = s.regs ∧ t.mem = s.mem) ∧
    (∀ f fs, (s.ctx k).delayed = f :: fs →
      ∃ (t : State) (gone : Bool), exec (.injectDelayExpiry x) s = .next t ∧ (t.ctx k).delayed = fs ∧ gone = ({ s.ctx k with delayed := fs } : Ctx).gone (f.n + 1) ∧
        (f.late = true → gone = false → (t.ctx k).reorder = (s.ctx k).reorder ++ [f] ∧ t.fab.wire = s.fab.wire) ∧
        (f.late = false ∨ gone = true → (∀ g ∈ (s.ctx k).reorder, g.n + 1 ≠ f.n) → s.portLoses (s.ctx k).port = false →
          (t.ctx k).reorder = (s.ctx k).reorder ∧
          (s.portBlocked (s.ctx k).port = false → t.fab.wire = s.sealFrame f :: s.fab.wire ∧ t.reg Off.fabTxPkts = s.reg Off.fabTxPkts + 1) ∧
          (s.portBlocked (s.ctx k).port = true →
            t.fab.wire = s.fab.wire ∧ Sparse.get (fun _ => []) t.fab.waiting (s.ctx k).port = Sparse.get (fun _ => []) s.fab.waiting (s.ctx k).port ++ [f])) ∧
        (∀ g, f.late = false ∨ gone = true → (s.ctx k).reorder = [g] → g.n + 1 = f.n → s.portLoses (s.ctx k).port = false → s.portBlocked (s.ctx k).port = false →
          (t.ctx k).reorder = [] ∧ t.fab.wire = s.sealFrame g :: s.sealFrame f :: s.fab.wire) ∧
        (f.late = false ∨ gone = true → (s.ctx k).reorder = [] → s.portLoses (s.ctx k).port = true → t.fab.wire = s.fab.wire ∧ t.fab.waiting = s.fab.waiting)) ∧
    ((s.ctx k).delayed = [] → exec (.injectDelayExpiry x) s = .next s)) ∧
  (∀ (s : State) (n : Fin 16),
    (bit (s.regN Off.fabCtrl) 1 = true → exec (.pfcPauseReceived n true) s =
      .next { s with fab := { s.fab with paused := setMark s.fab.paused n.val true } }) ∧
    (bit (s.regN Off.fabCtrl) 1 = true → ∃ t : State, exec (.pfcPauseReceived n false) s = .next t ∧ marked t.fab.paused n.val = false ∧ t.mem.hbm = s.mem.hbm) ∧
    (∀ on, bit (s.regN Off.fabCtrl) 1 = false → exec (.pfcPauseReceived n on) s = .next s) ∧
    (marked s.fab.up n.val = true → ∃ t : State, exec (.portLinkDown n) s = .next t ∧ marked t.fab.up n.val = false ∧ marked t.fab.realign n.val = true ∧
      marked t.fab.paused n.val = false ∧ (∀ m, m ≠ n.val → marked t.fab.up m = marked s.fab.up m) ∧
      (s.joint n.val = false → t.fab.ctxs = s.fab.ctxs)) ∧
    (marked s.fab.up n.val = false → exec (.portLinkDown n) s = .next s) ∧
    (marked s.fab.up n.val = false → n.val < s.portCount → s.pwr.state = .morning ∨ s.pwr.state = .day ∨ s.pwr.state = .dusk ∨ s.pwr.state = .night →
      ∃ t : State, exec (.portLinkUp n) s = .next t ∧ marked t.fab.up n.val = true ∧ (∀ m, m ≠ n.val → marked t.fab.up m = marked s.fab.up m) ∧
        t.fab.ctxs = s.fab.ctxs) ∧
    (marked s.fab.up n.val = true ∨ s.portCount ≤ n.val → exec (.portLinkUp n) s = .next s)) ∧
  (∀ (s : State) (dropped : Nat), s.hasFunction = true →
    (∀ p : Fin 16, ∃ t : State, exec (.cdcRealign (some p) dropped) s = .next t ∧ marked t.fab.realign p.val = false ∧
      t.reg Off.pwrCdcDrops = s.reg Off.pwrCdcDrops + BitVec.ofNat 64 dropped ∧ t.rlink = s.rlink) ∧
    (∃ t : State, exec (.cdcRealign none dropped) s = .next t ∧ marked t.fab.realign 16 = false ∧ t.rlink.lost = 0 ∧
      t.reg Off.pwrCdcDrops = s.reg Off.pwrCdcDrops + BitVec.ofNat 64 s.rlink.lost ∧
      t.rlink.link = s.rlink.link ++ (if s.canIssue then s.rlink.waiting else [])))

/-- Contexts (R15, R352, R353): a WRITE out of its ranges is BAD_ARG and a good one of a LIVE context BUSY, and neither changes it; a good one makes the context as its bytes say; READ copies the record into the
data registers; FREE returns the context to FREE and ends the collectives that use it with ABORTED. -/
def Obligations.ContextCommands : Prop :=
  ∀ (s : State) (k : Nat), s.bar0On = true → k = s.regField Off.fabCtxSel 0 12 →
    (s.ctxFieldsOk (ctxClean (s.ctxData.take 48)) = true → (s.ctx k).state = 1 → exec .ctxWrite s = .next (s.setReg Off.fabCtxCmd 0x2100)) ∧
    (s.ctxFieldsOk (ctxClean (s.ctxData.take 48)) = false → exec .ctxWrite s = .next (s.setReg Off.fabCtxCmd 0x1100)) ∧
    ((s.ctx k).state ≠ 1 → s.ctxFieldsOk (ctxClean (s.ctxData.take 48)) = true →
      ∃ t : State, exec .ctxWrite s = .next t ∧ t.reg Off.fabCtxCmd = 0 ∧ (t.ctx k).bytes = ctxClean (s.ctxData.take 48) ∧
        (t.ctx k).state = hfield (ctxClean (s.ctxData.take 48)) 0 1 % 4 ∧ (t.ctx k).txPsn = 0 ∧ (t.ctx k).rxPsn = 0 ∧ (t.ctx k).unacked = [] ∧
        (t.ctx k).rate = s.portRate ∧ (∀ j, j ≠ k → t.ctx j = s.ctx j) ∧ t.mem = s.mem ∧ t.asm = s.asm) ∧
    (∃ t : State, exec .ctxRead s = .next t ∧ (∀ j, j < 8 → t.reg (Off.fabCtxData j) = BitVec.ofNat 64 (hfield (s.ctx k).record (8 * j) 8)) ∧
      t.reg Off.fabCtxCmd = 0 ∧ t.fab = s.fab ∧ t.mem = s.mem) ∧
    (∃ t : State, exec .ctxFree s = .next t ∧ t.reg Off.fabCtxCmd = 0 ∧ (t.ctx k).state = 0 ∧ (t.ctx k).bytes = (s.ctx k).bytes ∧ (t.ctx k).queue = [] ∧
      (∀ f ∈ Sparse.get (fun _ => []) t.fab.waiting (s.ctx k).port, f.ctx ≠ k) ∧ (t.ctx k).txPsn = (s.ctx k).txPsn ∧ (t.ctx k).rxPsn = (s.ctx k).rxPsn ∧ (t.ctx k).rate = (s.ctx k).rate ∧
      (∀ j, j ≠ k → t.ctx j = s.ctx j) ∧ t.mem = s.mem ∧
      (∀ g, g < 16 → s.groupOn g = true → (s.entryOf g k).isSome = true → (t.group g).colls.length = (s.group g).colls.length ∧
        ∀ (i : Nat) (c : Coll), (s.group g).colls[i]? = some c → ∃ c' : Coll, (t.group g).colls[i]? = some c' ∧ (c.result.isSome = true → c' = c) ∧
          (c.result = none → c'.req.status = 0x40 ∧ c'.result = some [])))

/-- Assembly (R361-R370): enabling checks the record's contexts, then its ranks, and starts NUMBER at 0; disabling completes every request, those in progress with ABORTED in their records, and rings DONE_BELL in every Wing for each; a request in the queue is taken in
its order by the command of its OP, one whose K breaks its rule ends with BAD_ARG without a NUMBER, a good one takes the next NUMBER, and in a group of one its result is its own contribution,
finished as R369 says; a request whose outcome stands completes with its record written and the group's DONE_BELL rung in every Wing. -/
def Obligations.AssemblyRequests : Prop :=
  (∀ (s : State) (g : Fin 16), s.bar0On = true →
    (s.groupOn g.val = false → (∀ i, i < 86 → s.hasEntry g.val i = true →
        s.ctxEntry g.val i < 4096 ∧ (s.ctx (s.ctxEntry g.val i)).state = 1 ∧ (s.ctx (s.ctxEntry g.val i)).assembly = true) →
      (s.rank g.val < s.members g.val → s.topo g.val ≠ 0 ∨ s.members g.val ≤ 24576 →
        ∃ t : State, exec (.asmGroupEnable g) s = .next t ∧ t.groupOn g.val = true ∧ (t.group g.val).number = 0 ∧ (t.group g.val).colls = [] ∧
          (t.group g.val).failed = (s.group g.val).failed ∧
          (∀ h, h ≠ g.val → t.group h = s.group h) ∧ t.fab = s.fab) ∧
      (s.members g.val ≤ s.rank g.val → ∃ t : State, exec (.asmGroupEnable g) s = .next t ∧ (t.group g.val).last = 0x11 ∧ t.regs = s.regs)) ∧
    (s.groupOn g.val = false → (∃ i, i < 86 ∧ s.hasEntry g.val i = true ∧ (s.ctx (s.ctxEntry g.val i)).state ≠ 1) →
      ∃ t : State, exec (.asmGroupEnable g) s = .next t ∧ (t.group g.val).last = 0x12 ∧ t.regs = s.regs) ∧
    (s.groupOn g.val = true → exec (.asmGroupEnable g) s = .next s) ∧
    (s.groupOn g.val = true → ∃ t : State, exec (.asmGroupDisable g) s = .next t ∧ t.groupOn g.val = false ∧ (t.group g.val).colls = [] ∧ (t.group g.val).rings = [] ∧
      (∀ h, h ≠ g.val → t.group h = s.group h) ∧
      t.reg Off.asmFailed = s.reg Off.asmFailed + BitVec.ofNat 64 ((s.group g.val).colls.filter (fun c => c.result.isNone || decide (1 < c.req.status))).length ∧
      (∀ (v : Wing) (p : Bool), (s.group g.val).colls.any (fun c => c.parity == p) = true →
        bellCount (if (s.seq v).epoch = p then (t.seq v).bells else (t.seq v).bells2) (s.doneBell g.val) =
          min (bellCount (if (s.seq v).epoch = p then (s.seq v).bells else (s.seq v).bells2) (s.doneBell g.val) +
            ((s.group g.val).colls.filter (fun c => c.parity == p)).length) 65535) ∧
      ((∀ c ∈ (s.group g.val).colls, c.result = none ∧ s.queueAt g.val + 32 * c.k + 24 ≤ 2 ^ 30) → ((s.group g.val).colls.map (·.k)).Nodup →
        ∀ c ∈ (s.group g.val).colls, t.libLE (s.home g.val) (s.queueAt g.val + 32 * c.k + 16) 1 = 0x40)) ∧
    (s.groupOn g.val = false → exec (.asmGroupDisable g) s = .next s)) ∧
  (∀ (s : State) (g : Fin 16) (op : Nat) (r : ReqCopy), op ≤ 5 → s.groupOn g.val = true → (s.group g.val).rings ≠ [] →
    r = readReq (s.libBytes (s.home g.val) (s.queueAt g.val + 32 * (s.group g.val).nextK) 32) → r.op = op →
    (s.libReadFo (s.home g.val) (s.queueAt g.val + 32 * (s.group g.val).nextK) 32).2.1 = false → s.srv.pass = 0 →
    (r.badK = true → ∃ t : State, exec (collCmd op g) s = .next t ∧ (t.group g.val).number = (s.group g.val).number ∧
      (t.group g.val).nextK = (s.group g.val).nextK + 1 ∧ (t.group g.val).rings = (s.group g.val).rings.drop 1 ∧
      ((t.group g.val).colls.getLast?.map (fun c => (c.req.status, c.result))) = some (0x11, some [])) ∧
    (r.badK = false → r.badArg = false →
      ∃ t : State, exec (collCmd op g) s = .next t ∧ (t.group g.val).number = ((s.group g.val).number + 1) % 2 ^ 32 ∧
        (t.group g.val).nextK = (s.group g.val).nextK + 1 ∧ (t.group g.val).rings = (s.group g.val).rings.drop 1 ∧
        (t.group g.val).started = (s.group g.val).started + 1 ∧ (t.group g.val).colls.length = (s.group g.val).colls.length + 1 ∧
        t.reg Off.asmCollectives = s.reg Off.asmCollectives + 1 ∧ t.reg Off.asmBytes = s.reg Off.asmBytes + BitVec.ofNat 64 (r.count * elemBytes r.op r.kk) ∧
        t.rooms = s.rooms ∧ t.srv = s.srv ∧
        ((s.group g.val).colls = [] → (∀ i, i < 86 → s.hasEntry g.val i = false) → s.topo g.val = 0 → s.rank g.val = 0 → op = 0 ∨ r.count ≠ 0 →
          (s.libReadFo (s.home g.val) r.src (r.count * elemBytes r.op r.kk)).2.1 = false →
          (t.group g.val).colls.map (fun c => (c.req.status, c.result)) =
            [(0, some (finishParts op (ownParts op r.kk (s.libBytes (s.home g.val) r.src (r.count * elemBytes r.op r.kk)))).1)])) ∧
    (∀ op', op' ≤ 5 → op' ≠ op → exec (collCmd op' g) s = .next s)) ∧
  (∀ (s : State) (g : Fin 16) (op : Nat), (s.group g.val).rings = [] → exec (collCmd op g) s = .next s) ∧
  (∀ (s : State) (g : Fin 16) (c : Coll) (cs : List Coll), (s.group g.val).colls = c :: cs →
    (c.result.isSome = true → s.queueAt g.val + 32 * c.k + 24 ≤ 2 ^ 30 →
      ∃ t : State, exec (.asmComplete g) s = .next t ∧ (t.group g.val).colls = cs ∧ (t.group g.val).last = c.req.status ∧
        t.libLE (s.home g.val) (s.queueAt g.val + 32 * c.k + 16) 1 = c.req.status % 256 ∧
        (∀ v : Wing, bellCount (if (s.seq v).epoch = c.parity then (t.seq v).bells else (t.seq v).bells2) (s.doneBell g.val) =
          min (bellCount (if (s.seq v).epoch = c.parity then (s.seq v).bells else (s.seq v).bells2) (s.doneBell g.val) + 1) 65535) ∧
        t.reg Off.asmFailed = s.reg Off.asmFailed + (if c.req.status ≤ 1 then 0 else 1)) ∧
    (c.result = none → exec (.asmComplete g) s = .next s))

/-! ### The Rollbook (15) -/

/-- Tallies and energy (R436-R443, R446). A message that fails R438 applies nothing and is logged; one that START marks, or that comes in order, adds its three counts to its tenant's together, each staying
at 2^64 - 1; one beyond a gap is applied with the gap logged and counted; any other is discarded and logged. ENERGY integrates the samples with a valid calibration only. A header connection is counted and
clears SEALED, which only a signed reseal sets again. Nothing arrives at a Rollbook without standby power. That RUN_S counts the commands ENERGY_JOURNAL and that ENERGY keeps the exact remainder
of its samples are the model's choices (log entry 66); that a watchdog restart goes on from the journalled ENERGY is the model's reading (log entry 30). -/
def Obligations.RollbookCounts : Prop :=
  (∀ (s : State) (m : List Byte), s.rbkOn = true →
    (s.rbk.tallyCheck m ≠ 0 → ∃ t : State, exec (.tallyMessage m) s = .next t ∧ t.rbk = s.rbk.note 0x06 [s.rbk.tallyCheck m] ∧ t.rlink.link = s.rlink.link.drop 1) ∧
    (s.rbk.tallyCheck m = 0 → s.rbk.expect < 2 ^ 32 →
        bit (hfield m 1 1) 0 = true ∨ (hfield m 4 4 + 2 ^ 32 - s.rbk.expect) % 2 ^ 32 < 2 ^ 31 →
      ∃ t : State, exec (.tallyMessage m) s = .next t ∧
        (∀ tn, Sparse.get (fun _ => 0) t.rbk.input tn =
          if tn = hfield m 2 2 then min countMax (Sparse.get (fun _ => 0) s.rbk.input tn + hfield m 16 8) else Sparse.get (fun _ => 0) s.rbk.input tn) ∧
        (∀ tn, Sparse.get (fun _ => 0) t.rbk.output tn =
          if tn = hfield m 2 2 then min countMax (Sparse.get (fun _ => 0) s.rbk.output tn + hfield m 24 8) else Sparse.get (fun _ => 0) s.rbk.output tn) ∧
        (∀ tn, Sparse.get (fun _ => 0) t.rbk.cycles tn =
          if tn = hfield m 2 2 then min countMax (Sparse.get (fun _ => 0) s.rbk.cycles tn + hfield m 32 8) else Sparse.get (fun _ => 0) s.rbk.cycles tn) ∧
        t.rbk.expect = (hfield m 4 4 + 1) % 2 ^ 32 ∧ t.rbk.energy = s.rbk.energy ∧
        (bit (hfield m 1 1) 0 = true → t.rbk.series = (s.rbk.series + 1) % 2 ^ 32 ∧ t.rbk.logNext = s.rbk.logNext + 2) ∧
        (bit (hfield m 1 1) 0 = false → hfield m 4 4 = s.rbk.expect → t.rbk.logNext = s.rbk.logNext ∧ t.rbk.gaps = s.rbk.gaps) ∧
        (bit (hfield m 1 1) 0 = false → hfield m 4 4 ≠ s.rbk.expect → t.rbk.logNext = s.rbk.logNext + 1 ∧
          (t.rbk.logHead, t.rbk.log) = ((s.rbk.note 0x04 [s.rbk.expect, (hfield m 4 4 + 2 ^ 32 - 1) % 2 ^ 32]).logHead,
            (s.rbk.note 0x04 [s.rbk.expect, (hfield m 4 4 + 2 ^ 32 - 1) % 2 ^ 32]).log) ∧
          t.rbk.gaps = min countMax (s.rbk.gaps + (hfield m 4 4 + 2 ^ 32 - s.rbk.expect) % 2 ^ 32) ∧ t.rbk.series = s.rbk.series)) ∧
    (s.rbk.tallyCheck m = 0 → bit (hfield m 1 1) 0 = false → 2 ^ 31 ≤ (hfield m 4 4 + 2 ^ 32 - s.rbk.expect) % 2 ^ 32 → s.rbk.expect < 2 ^ 32 →
      ∃ t : State, exec (.tallyMessage m) s = .next t ∧ t.rbk = s.rbk.note 0x05 [hfield m 4 4])) ∧
  (∀ s : State, s.rbkOn = true →
    (∀ mv ma, s.rbk.calValid = true → s.rbk.energy ≤ countMax → ∃ t : State, exec (.energySample mv ma) s = .next t ∧
      (t.rbk.energy < countMax → t.rbk.energy * 10000000 + t.rbk.energyFrac = s.rbk.energy * 10000000 + s.rbk.energyFrac + mv * ma) ∧ s.rbk.energy ≤ t.rbk.energy ∧
      t.rbk.energyFrac < 10000000 ∧ { t with rbk := s.rbk } = s) ∧
    (∀ mv ma, s.rbk.calValid = false → exec (.energySample mv ma) s = .next s) ∧
    (∃ t : State, exec .energyJournal s = .next t ∧ t.rbk = { s.rbk with energyJournal := s.rbk.energy, runS := s.rbk.runS + 1 } ∧ { t with rbk := s.rbk } = s) ∧
    (∃ t : State, exec (.rbkReseal true) s = .next t ∧ t.rbk.isSealed = true ∧ t.rbk.logNext = s.rbk.logNext + 1 ∧ t.rbk.connects = s.rbk.connects) ∧
    exec (.rbkReseal false) s = .next s ∧
    (∀ r, ∃ t : State, exec (.rbkCalibration r true) s = .next t ∧ t.rbk.calRecord = r ∧ t.rbk.calValid = true ∧
      t.rbk.calibrations = min 65535 (s.rbk.calibrations + 1) ∧ t.rbk.logNext = s.rbk.logNext + 1) ∧
    (∀ r, exec (.rbkCalibration r false) s = .next s) ∧
    (∀ lost, ∃ t : State, exec (.rbkWatchdog lost) s = .next t ∧ t.rbk.energy = s.rbk.energyJournal ∧ t.rbk.input = s.rbk.input ∧ t.rbk.output = s.rbk.output ∧
      t.rbk.cycles = s.rbk.cycles ∧ t.rlink.link = [] ∧ t.rlink.latch = [] ∧
      t.rlink.lost = s.rlink.lost + s.rlink.link.length + (if s.rlink.busy = true ∧ s.rlink.latch ≠ [] then 1 else 0) ∧ marked t.fab.realign 16 = true ∧
      t.rbk.logNext = s.rbk.logNext + 2)) ∧
  (∀ s : State,
    (∃ t : State, exec .headerConnect s = .next t ∧ t.rbk.isSealed = false ∧ t.rbk.connects = min 65535 (s.rbk.connects + 1) ∧ t.rbk.logNext = s.rbk.logNext + 1 ∧
      t.rbk.input = s.rbk.input) ∧
    (∀ m, s.rbkOn = false → exec (.tallyMessage m) s = .next s))

/-- The mailbox, the Rollbook's firmware and the poll of its log (R396, R427, R442, R444, R445, R447, R448). A REPORT whose tenants are in range is answered with the snapshot and its signature and raises the report
number, another with BAD_ARG (that the number in the report counts the report itself is the model's reading, log entry 76); READ_LOG answers up to 16 entries from one the log holds, and OK_EMPTY
otherwise; INFO answers with the seal state; a command that is not answered completes with INTERNAL and clears PRESENT, and none is answered while the crossing to the Rollbook realigns (R396). An
accepted image is written to the bank that did not run: one that starts runs, one that does not leaves the old one running, and either restart goes on from the journalled ENERGY and logs the
gap (R442; that an update's restart does so is the model's reading, log entry 30) and completes the descriptor (that a staged image which does not start completes it is log entry 75); a refused
image is logged. A poll takes the log as seen; an absent Rollbook is reported once. -/
def Obligations.RollbookMailboxAndFirmware : Prop :=
  (∀ s : State,
    (s.running 1 = true →
      (1 ≤ s.latched 2 → s.latched 2 ≤ 16 → s.latched 1 + s.latched 2 ≤ 1024 →
        ∃ t : State, exec .rbkReport s = .next t ∧ t.rbk = { s.rbk with reportNo := s.rbk.reportNo + 1 } ∧ t.rlink.busy = false ∧ t.rlink.status = 0 ∧
          t.rlink.resp = t.rbk.report (s.latched 1) (s.latched 2) (s.latched 4) (s.latched 5) ++
            s.rbk.sign (t.rbk.report (s.latched 1) (s.latched 2) (s.latched 4) (s.latched 5)) ∧ { t with rbk := s.rbk, rlink := s.rlink } = s) ∧
      (s.latched 2 = 0 ∨ 16 < s.latched 2 ∨ 1024 < s.latched 1 + s.latched 2 →
        ∃ t : State, exec .rbkReport s = .next t ∧ t.rbk = s.rbk ∧ t.rlink.busy = false ∧ t.rlink.status = 0x11 ∧ t.rlink.resp = [])) ∧
    (s.running 2 = true → ∃ t : State, exec .rbkReadLog s = .next t ∧ t.rbk = s.rbk ∧ t.rlink.busy = false ∧
      (s.rbk.held (s.latched 3) = true → t.rlink.status = 0 ∧
        t.rlink.resp = (List.range (min 16 (s.rbk.logNext - s.latched 3))).flatMap (fun i => s.rbk.entryAt (s.latched 3 + i))) ∧
      (s.rbk.held (s.latched 3) = false → t.rlink.status = 1 ∧ t.rlink.resp = [])) ∧
    (s.running 3 = true → ∃ t : State, exec .rbkGetCert s = .next t ∧ t.rbk = s.rbk ∧ t.rlink.busy = false ∧ t.rlink.present = true ∧
      (t.rlink.status = 0 ∨ (t.rlink.status = 0x11 ∧ t.rlink.resp = [])) ∧ t.rlink.resp.length ≤ 1024) ∧
    (s.running 4 = true → ∃ t : State, exec .rbkInfo s = .next t ∧ t.rbk = s.rbk ∧ t.rlink.busy = false ∧ t.rlink.status = 0 ∧
      (t.rlink.resp.drop 8).take 8 = s.rbk.seal ∧ t.rlink.resp.take 2 = leBytes 2 s.rbk.svn) ∧
    (s.rlink.busy = true → ∃ t : State, exec .rbkCmdTimeout s = .next t ∧ t.rlink.busy = false ∧ t.rlink.status = 0x7F ∧ t.rlink.present = false ∧ t.rbk = s.rbk) ∧
    (s.rlink.busy = false → exec .rbkReport s = .next s ∧ exec .rbkReadLog s = .next s ∧ exec .rbkGetCert s = .next s ∧ exec .rbkInfo s = .next s ∧
      exec .rbkCmdTimeout s = .next s) ∧
    (∀ answered, s.sec.booted = true →
      (answered = true → s.rbkOn = true → ∃ t : State, exec (.rbkLogPoll answered) s = .next t ∧ t.rlink.seen = s.rbk.logNext ∧ t.rlink.absent = false ∧
        t.rlink.present = true ∧ t.rbk = s.rbk) ∧
      (answered = false ∨ s.rbkOn = false → s.rlink.absent = true →
        exec (.rbkLogPoll answered) s = .next { s with rlink := { s.rlink with absent := true, present := false } }) ∧
      (answered = false ∨ s.rbkOn = false → s.rlink.absent = false →
        ∃ t : State, exec (.rbkLogPoll answered) s = .next t ∧ t.rlink.absent = true ∧ t.rlink.present = false ∧ Noise { s with rlink := t.rlink } t))) ∧
  (∀ (s : State) (img : List Byte) (a : RbkApply), s.rbk.forwarded = some img → s.rbkOn = true →
    (s.rbk.refuses img = 0 → ∃ u : State, exec (.rbkFwApply a) s = .next u.finish ∧ u.rbk.forwarded = none ∧ u.sec.rbkDesc = none ∧ u.rlink.link = [] ∧
      u.rlink.latch = [] ∧ marked u.fab.realign 16 = true ∧
      (a.starts = true → u.rbk.svn = imageSvn (img.take 512) ∧ u.rbk.header = img.take 512 ∧ u.rbk.body = img.drop 512 ∧
        u.rbk.spare = s.rbk.header ++ s.rbk.body ∧ u.rbk.updates = min 65535 (s.rbk.updates + 1)) ∧
      (a.starts = false → u.rbk.svn = s.rbk.svn ∧ u.rbk.header = s.rbk.header ∧ u.rbk.body = s.rbk.body ∧ u.rbk.spare = img ∧ u.rbk.updates = s.rbk.updates) ∧
      u.rbk.input = s.rbk.input ∧ u.rbk.output = s.rbk.output ∧ u.rbk.cycles = s.rbk.cycles ∧ u.rbk.energy = s.rbk.energyJournal ∧
      u.rbk.logNext = s.rbk.logNext + 3 ∧ hfield (u.rbk.entryAt (s.rbk.logNext + 2)) 8 1 = 0x07 ∧ logData (u.rbk.entryAt (s.rbk.logNext + 2)) 0 = a.lostMs % 2 ^ 32) ∧
    (s.rbk.refuses img ≠ 0 → ∃ u : State, exec (.rbkFwApply a) s = .next u.finish ∧ u.sec.rbkDesc = none ∧
      u.rbk = ({ s.rbk with forwarded := none } : Rollbook).note 0x09 [imageSvn (img.take 512), s.rbk.refuses img])) ∧
  (∀ (s : State) (a : RbkApply), s.rbk.forwarded = none → exec (.rbkFwApply a) s = .next s.finish) ∧
  (∀ s : State, marked s.fab.realign 16 = true → ∀ op, s.running op = false)

/-! ### Attestation and the sideband (14, 16) -/

/-- The SPDM responders (R406, R430, R431, R482) and the sideband endpoint (R473, R477, R479, R481-R483, R488). A request that comes at or after its stage is answered with its response and the
connection moves on, one that comes early with an ERROR, and each answer is counted; without an identity every answer is an ERROR. The mailbox answers only over a PCI Express link that is up, the
sideband only from standby power and at its address. Measurements answer the blocks asked for, signed when asked. Sensors answer while they are powered, and a change of a reading past its threshold
sends an event and sets SMBALERT#. The codes of the answers are those of the SPDM and PLDM standards, which the spec names (PRESUMED, log entry 91). -/
def Obligations.SidebandResponders : Prop :=
  (∀ (s : State) (t : Transport), s.reaches t = true → s.spdmError t = none →
    (∃ u : State, exec (.spdmGetVersion t) s = .next u ∧ u.responder t = { stage := 1, reply := .version [0x12] } ∧
      u.reg Off.secSpdmRequests = s.reg Off.secSpdmRequests + 1) ∧
    (1 ≤ (s.responder t).stage → ∃ u : State, exec (.spdmGetCapabilities t) s = .next u ∧ u.responder t = { stage := 2, reply := .capabilities true true true }) ∧
    (2 ≤ (s.responder t).stage →
      (∃ u : State, exec (.spdmNegotiateAlgorithms t true true) s = .next u ∧ u.responder t = { stage := 3, reply := .algorithms true true }) ∧
      (∀ p h, p = false ∨ h = false → ∃ u : State, exec (.spdmNegotiateAlgorithms t p h) s = .next u ∧ u.responder t = { s.responder t with reply := .error 0x01 })) ∧
    (3 ≤ (s.responder t).stage →
      (∃ u : State, exec (.spdmGetDigests t) s = .next u ∧ u.responder t = { s.responder t with reply := .digests (sha256 s.certChain) }) ∧
      (∀ off len : BitVec 16, off.toNat < s.certChain.length → ∃ (u : State) (p : List Byte), exec (.spdmGetCertificate t 0 off len) s = .next u ∧
        p = (s.certChain.drop off.toNat).take len.toNat ∧
        u.responder t = { s.responder t with reply := .certificate p (s.certChain.length - off.toNat - p.length) }) ∧
      (∀ nonce, ∃ (u : State) (n sig : List Byte), exec (.spdmChallenge t 0 nonce) s = .next u ∧
        u.responder t = { s.responder t with reply := .challenge (sha256 s.certChain) n sig } ∧ n.length = 32 ∧ sig.length = 64) ∧
      (∀ slot off len nonce, slot ≠ 0#8 → (∃ u : State, exec (.spdmGetCertificate t slot off len) s = .next u ∧ u.responder t = { s.responder t with reply := .error 0x01 }) ∧
        (∃ u : State, exec (.spdmChallenge t slot nonce) s = .next u ∧ u.responder t = { s.responder t with reply := .error 0x01 })) ∧
      (∀ slot nonce, ∃ u : State, exec (.spdmGetMeasurements t 0 false slot nonce) s = .next u ∧ u.responder t = { s.responder t with reply := .count 10 }) ∧
      (∀ (i : BitVec 8) slot nonce, 1 ≤ i.toNat → i.toNat ≤ 10 → ∃ u : State, exec (.spdmGetMeasurements t i false slot nonce) s = .next u ∧
        u.responder t = { s.responder t with reply := .measurements [(i.toNat, s.measure i.toNat)] [] }) ∧
      (∀ nonce, ∃ (u : State) (sig : List Byte), exec (.spdmGetMeasurements t 255 true 0 nonce) s = .next u ∧ sig.length = 64 ∧
        u.responder t = { s.responder t with reply := .measurements (((List.range 10).map (· + 1)).map (fun n => (n, s.measure n))) sig })) ∧
    (∀ code, ∃ u : State, exec (.spdmUnsupported t code) s = .next u ∧ u.responder t = { s.responder t with reply := .error 0x07 }) ∧
    ((s.responder t).stage < 3 → ∃ u : State, exec (.spdmGetDigests t) s = .next u ∧ u.responder t = { s.responder t with reply := .error 0x04 })) ∧
  (∀ (s : State) (t : Transport) (e : Nat), s.reaches t = true → s.spdmError t = some e →
    ∃ u : State, exec (.spdmGetVersion t) s = .next u ∧ u.responder t = { s.responder t with reply := .error e }) ∧
  (∀ (s : State) (c : Instr) (t : Transport), spdmCmd t c → (s.reaches t = true →
      ∃ u : State, exec c s = .next u ∧ u.reg Off.secSpdmRequests = s.reg Off.secSpdmRequests + 1 ∧ (∀ o, o ≠ Off.secSpdmRequests → u.reg o = s.reg o)) ∧
    (s.reaches t = false → ∃ u : State, exec c s = .next u ∧ u.responder t = s.responder t ∧ u.regs = s.regs)) ∧
  (∀ s : State, (s.reaches .doe = true ↔ s.pwr.state ≠ .midnight ∧ s.hif.linkSpeed ≠ 0) ∧
    ∀ a, s.reaches (.mctp a) = true ↔ s.pwr.standbyOk = true ∧ a.toNat = 0x60 + s.pwr.slotAddr.val) ∧
  (∀ (s : State) (a : BitVec 7) (r : Reading),
    (s.sideband a = true → sensorKnown r.sensor.toNat = true → s.sensorPowered r.sensor.toNat = true →
      ∃ u : State, exec (.pldmGetSensorReading ⟨a, r⟩) s = .next u ∧ u.sec.pldm = .sensor r.sensor.toNat r.milli ∧
        Sparse.get (fun _ => 0) u.pwr.sensors r.sensor.toNat = r.milli ∧
        marked u.pwr.beyond r.sensor.toNat = s.beyondWarning r.sensor.toNat r.milli ∧ (s.beyondWarning r.sensor.toNat r.milli = true →
          marked s.pwr.beyond r.sensor.toNat = false → u.pwr.smbalert = true) ∧ u.regs = s.regs ∧ u.rbk = s.rbk) ∧
    (s.sideband a = true → sensorKnown r.sensor.toNat = true → s.sensorPowered r.sensor.toNat = false →
      ∃ u : State, exec (.pldmGetSensorReading ⟨a, r⟩) s = .next u ∧ u.sec.pldm = .sensorUnavailable r.sensor.toNat ∧ u.pwr = s.pwr) ∧
    (s.sideband a = true → sensorKnown r.sensor.toNat = false →
      ∃ u : State, exec (.pldmGetSensorReading ⟨a, r⟩) s = .next u ∧ u.sec.pldm = .error 0x80 ∧ u.pwr = s.pwr) ∧
    (sensorKnown r.sensor.toNat = true → s.sensorPowered r.sensor.toNat = true → marked s.pwr.beyond r.sensor.toNat ≠ s.beyondWarning r.sensor.toNat r.milli →
      ∃ u : State, exec (.sensorThresholdChange r) s = .next u ∧ u.sec.alert = .platformEvent r.sensor.toNat r.milli ∧
        marked u.pwr.beyond r.sensor.toNat = s.beyondWarning r.sensor.toNat r.milli ∧ (u.pwr.smbalert = true ↔ u.pwr.beyond ≠ [])) ∧
    (sensorKnown r.sensor.toNat = false ∨ s.sensorPowered r.sensor.toNat = false → exec (.sensorThresholdChange r) s = .next s) ∧
    (s.sideband a = true → ∀ code : BitVec 8,
      (∃ u : State, exec (.mctpUnsupportedType ⟨a, code⟩) s = .next u ∧ u.sec.pldm = .unsupportedType code.toNat) ∧
      (∃ (u : State) (data : List Byte), exec (.pldmBaseCommand ⟨a, code⟩) s = .next u ∧
        u.sec.pldm = (if 2 ≤ code.toNat ∧ code.toNat ≤ 5 then .pldmBase 0 data else .pldmBase 5 []) ∧ data.length = 8 ∧
        (code = 4 → data = [0x05#8, 0, 0, 0, 0, 0, 0, 0]))) ∧
    (s.sideband a = false → ∀ code : BitVec 8, exec (.pldmGetSensorReading ⟨a, r⟩) s = .next s ∧ exec (.pldmBaseCommand ⟨a, code⟩) s = .next s ∧
      exec (.mctpUnsupportedType ⟨a, code⟩) s = .next s))

/-! ### Reset and what holds of every step -/

/-- What reset leaves (R186, R249, R254, R320, R374, R377, R384, R400, R469): the module has entered Dawn; no ring but rings 0, no session, model, context or collective exists; the Library and the Slates hold zeros; registers hold
the reset values of their tables, eight of them written out here; and what every step keeps holds. That HBM then lists nothing and reads 0 is the model's choice (log entry 2), and so is the moment
taken for reset, the entry to Dawn with both supplies up (log entry 3). -/
def Obligations.ResetLeaves : Prop :=
  State.reset.pwr.state = .dawn ∧ State.reset.pending = [] ∧ State.reset.hif.fetched = [] ∧ State.reset.hif.stalled = [] ∧ State.reset.commits = [] ∧
  State.reset.hif.subs = [] ∧ State.reset.hif.outs = [] ∧ (∀ n, (State.reset.subRing n).live = decide (n = 0) ∧ (State.reset.outRing n).live = decide (n = 0)) ∧
  State.reset.liveSessions = [] ∧ State.reset.mdl.slots = [] ∧ State.reset.mdl.vers = [] ∧ State.reset.fab.ctxs = [] ∧ State.reset.asm = [] ∧ State.reset.mem.lib = [] ∧ State.reset.mem.hbm = [] ∧
  (∀ k : Fin 32, (State.reset.room k).slate = [] ∧ (State.reset.room k).acc = []) ∧ (∀ o, State.reset.reg o = regReset o) ∧
  State.reset.reg Off.hmPoll = 0x10014#64 ∧ State.reset.reg Off.pwrLimit = 0x6400032640#64 ∧ State.reset.reg Off.fabCtrl = 0x15E2934C#64 ∧
  State.reset.reg Off.fabRto = 0x190070064#64 ∧ (∀ k : Fin 32, State.reset.reg (Off.memBudget k) = 0x83040#64) ∧ State.reset.reg Off.srvTtl = 0xEA60#64 ∧
  State.reset.reg Off.srvReplayCtrl = 2#64 ∧ (∀ w : Wing, State.reset.reg (Off.seqBellLimit w) = 0x1000000#64) ∧
  (∀ w : Wing, (State.reset.seq w).phase = .idle ∧ (State.reset.seq w).held = false) ∧ Sound State.reset ∧ Quiet State.reset

/-- Descriptors read back (R323, R326-R335, R423): the 64 bytes of a descriptor whose reserved bits are 0 read as that descriptor and its operation, every operand at every value its field admits. -/
def Obligations.DescriptorsReadBack : Prop :=
  ∀ (d : Desc) (op : DescOp), (∀ k, op = .undefined k → definedOpcode k = false) → d.rsv = (opNoHandle op && decide (d.handle ≠ 0)) →
    readDesc d.ring.toNat d.index.toNat (descBytes d op) = (d, opPlain op) ∧ (descBytes d op).length = 64

/-- What no step breaks (R409, R436): from every state whose memories and register file stand in their canonical form, whose Rollbook counts and flash counters lie in their ranges, a step leaves a state
of the same kind; no count of tokens or step-cycles, no flash counter and no report number falls. ENERGY is left out: R442 lets a restart lose the last second (log entry 30). -/
def Obligations.NoStepBreaks : Prop :=
  ∀ s t : State, Sound s → Steps s t → Sound t ∧ NeverFalls s t
end

