-- ==== Sys2Proof/Laws/Sparse.lean ====
section
/-! SUPPORT. The laws of sparse tables and byte memories: what a read after a write gives, and that every write keeps the canonical form. -/

namespace Sys2Proof.Machine

open Sys2Proof

variable {α : Type}

theorem Sparse.get_put (d : Nat → α) (m : Sparse α) (k j : Nat) (v : α) :
    Sparse.get d (Sparse.put m k v) j = if j = k then v else Sparse.get d m j := by
  induction m with
  | nil => simp [Sparse.put, Sparse.get]
  | cons e m ih =>
    obtain ⟨i, u⟩ := e
    simp only [Sparse.put]
    split
    · simp [Sparse.get]
    · split
      · rename_i h; subst h
        simp only [Sparse.get]; split <;> simp_all
      · rename_i h
        simp only [Sparse.get, ih]
        by_cases h1 : j = i
        · subst h1; simp [Ne.symm h]
        · simp [h1]

theorem Sparse.get_erase (d : Nat → α) (m : Sparse α) (k j : Nat) :
    Sparse.get d (Sparse.erase m k) j = if j = k then d k else Sparse.get d m j := by
  induction m with
  | nil => by_cases h : j = k <;> simp [Sparse.erase, Sparse.get, h]
  | cons e m ih =>
    obtain ⟨i, u⟩ := e
    simp only [Sparse.erase] at ih ⊢
    by_cases h : i = k
    · subst h
      simp only [List.filter, bne_self_eq_false, ih, Sparse.get]
      split <;> rfl
    · have : (i != k) = true := by simpa using h
      simp only [List.filter, this, Sparse.get, ih]
      by_cases h1 : j = i
      · subst h1; simp [h]
      · simp [h1]

/-- A read after a write: the written key holds the value, every other key what it held. -/
theorem Sparse.get_set [DecidableEq α] (d : Nat → α) (m : Sparse α) (k j : Nat) (v : α) :
    Sparse.get d (Sparse.set d m k v) j = if j = k then v else Sparse.get d m j := by
  unfold Sparse.set
  split
  · rename_i h; rw [Sparse.get_erase]; simp [h]
  · exact Sparse.get_put d m k j v

@[simp] theorem Sparse.get_set_same [DecidableEq α] (d : Nat → α) (m : Sparse α) (k : Nat) (v : α) :
    Sparse.get d (Sparse.set d m k v) k = v := by simp [Sparse.get_set]

theorem Sparse.get_set_other [DecidableEq α] (d : Nat → α) (m : Sparse α) {k j : Nat} (v : α) (h : j ≠ k) :
    Sparse.get d (Sparse.set d m k v) j = Sparse.get d m j := by simp [Sparse.get_set, h]

theorem Sparse.mem_put {m : Sparse α} {k : Nat} {v : α} {e : Nat × α} (h : e ∈ Sparse.put m k v) : e = (k, v) ∨ e ∈ m := by
  induction m with
  | nil => simpa [Sparse.put] using h
  | cons x m ih =>
    obtain ⟨i, u⟩ := x
    simp only [Sparse.put] at h
    split at h
    · simpa using h
    · split at h
      · rcases List.mem_cons.1 h with h | h
        · exact .inl h
        · exact .inr (List.mem_cons_of_mem _ h)
      · rcases List.mem_cons.1 h with h | h
        · exact .inr (h ▸ List.mem_cons_self)
        · rcases ih h with h | h
          · exact .inl h
          · exact .inr (List.mem_cons_of_mem _ h)

theorem Sparse.rising_put {m : Sparse α} (k : Nat) (v : α) (h : m.Pairwise (fun a b => a.1 < b.1)) :
    (Sparse.put m k v).Pairwise (fun a b => a.1 < b.1) := by
  induction m with
  | nil => simp [Sparse.put]
  | cons x m ih =>
    obtain ⟨i, u⟩ := x
    obtain ⟨h1, h2⟩ := List.pairwise_cons.1 h
    simp only [Sparse.put]
    split
    · rename_i hk
      refine List.pairwise_cons.2 ⟨fun b hb => ?_, h⟩
      rcases List.mem_cons.1 hb with rfl | hb
      · exact hk
      · exact Nat.lt_trans hk (h1 b hb)
    · split
      · rename_i hk; subst hk
        exact List.pairwise_cons.2 ⟨h1, h2⟩
      · refine List.pairwise_cons.2 ⟨fun b hb => ?_, ih h2⟩
        rcases Sparse.mem_put hb with rfl | hb
        · show i < k; omega
        · exact h1 b hb

/-- Every write keeps the canonical form. -/
theorem Sparse.wf_set [DecidableEq α] {d : Nat → α} {m : Sparse α} (k : Nat) (v : α) (h : Sparse.wf d m) :
    Sparse.wf d (Sparse.set d m k v) := by
  unfold Sparse.set
  split
  · exact ⟨h.1.filter _, fun e he => h.2 e (List.mem_filter.1 he).1⟩
  · rename_i hv
    refine ⟨Sparse.rising_put k v h.1, fun e he => ?_⟩
    rcases Sparse.mem_put he with rfl | he
    · exact hv
    · exact h.2 e he

theorem Sparse.wf_nil (d : Nat → α) : Sparse.wf d ([] : Sparse α) := ⟨List.Pairwise.nil, by simp⟩

/-! ### Byte memories -/

theorem Memory.read_write (m : Memory) (a b : Nat) (v : Byte) :
    Memory.read (Memory.write m a v) b = if b = a then v else Memory.read m b := Sparse.get_set _ m a b v

theorem Memory.wf_write {m : Memory} (a : Nat) (v : Byte) (h : Memory.wf m) : Memory.wf (Memory.write m a v) := Sparse.wf_set a v h

/-- A write of bytes keeps the canonical form. -/
theorem Memory.wf_writeN {m : Memory} (a : Nat) (bs : List Byte) (h : Memory.wf m) : Memory.wf (Memory.writeN m a bs) := by
  induction bs generalizing m a with
  | nil => exact h
  | cons b bs ih => exact ih (a + 1) (Memory.wf_write a b h)

/-- After a write of bytes, an address inside holds its byte and every other address what it held. -/
theorem Memory.read_writeN (m : Memory) (a : Nat) (bs : List Byte) (b : Nat) :
    Memory.read (Memory.writeN m a bs) b = if a ≤ b ∧ b < a + bs.length then bs.getD (b - a) 0 else Memory.read m b := by
  induction bs generalizing m a with
  | nil => simp only [Memory.writeN, List.length_nil, Nat.add_zero]; exact (if_neg (by omega)).symm
  | cons v bs ih =>
    simp only [Memory.writeN, ih, Memory.read_write, List.length_cons]
    by_cases h : b = a
    · subst h; rw [if_neg (by omega)]; simp
    · by_cases h1 : a + 1 ≤ b ∧ b < a + 1 + bs.length
      · have : b - a = (b - (a + 1)) + 1 := by omega
        rw [if_pos h1, if_pos (by omega), this]; rfl
      · rw [if_neg h1, if_neg h, if_neg (by omega)]

theorem Memory.readN_length (m : Memory) (a n : Nat) : (Memory.readN m a n).length = n := by simp [Memory.readN]

/-- Reading back the bytes just written gives them. -/
theorem Memory.readN_writeN (m : Memory) (a : Nat) (bs : List Byte) : Memory.readN (Memory.writeN m a bs) a bs.length = bs := by
  apply List.ext_getElem
  · simp [Memory.readN]
  · intro i h1 h2
    simp [Memory.readN, Memory.read_writeN, h2]

/-- A write of bytes leaves every range it does not meet. -/
theorem Memory.readN_writeN_other (m : Memory) (a : Nat) (bs : List Byte) (b n : Nat) (h : a + bs.length ≤ b ∨ b + n ≤ a) :
    Memory.readN (Memory.writeN m a bs) b n = Memory.readN m b n := by
  unfold Memory.readN
  refine List.map_congr_left fun i hi => ?_
  have := List.mem_range.1 hi
  rw [Memory.read_writeN, if_neg (by omega)]

end Sys2Proof.Machine
end

