-- ==== Sys2Proof/Laws/Links.lean ====
section
/-! SUPPORT. The routes of R24 join the dies they say, over the links of R23. -/

namespace Sys2Proof

open Sys2Proof.Machine

/-- A route between Wings leaves the one, reaches the other, each hop going on from the die the last one reached, over at most two links. -/
theorem wingRoute_joins : ∀ v w : Wing, v ≠ w →
    (wingRoute v w).head?.map Hop.source = some (LinkEnd.wing v) ∧ (wingRoute v w).getLast?.map Hop.target = some (LinkEnd.wing w) ∧
    ((wingRoute v w).zip ((wingRoute v w).drop 1)).all (fun p => decide (p.1.target = p.2.source)) = true ∧ (wingRoute v w).length ≤ 2 := by
  decide

/-- A Wing and the Front Office use that Wing's office link alone. -/
theorem officeRoute_joins : ∀ w : Wing, (route .office (.wing w)).map Hop.source = [LinkEnd.office] ∧ (route .office (.wing w)).map Hop.target = [LinkEnd.wing w] ∧
    (route (.wing w) .office).map Hop.source = [LinkEnd.wing w] ∧ (route (.wing w) .office).map Hop.target = [LinkEnd.office] := by
  decide

/-- The counts of different links, directions and channels stand at different keys. -/
theorem linkKey_inj {h j : Hop} {c e : Nat} (hc : c < 4) (he : e < 4) : linkKey h c = linkKey j e ↔ h = j ∧ c = e := by
  obtain ⟨a, p⟩ := h
  obtain ⟨b, q⟩ := j
  constructor
  · intro hk
    have hp : b2n p ≤ 1 ∧ b2n q ≤ 1 ∧ (b2n p = b2n q → p = q) := by cases p <;> cases q <;> simp [b2n]
    unfold linkKey at hk
    have h1 : a.val = b.val ∧ b2n p = b2n q ∧ c = e := by simp only at hk; omega
    exact ⟨by rw [Fin.ext h1.1, hp.2.2 h1.2.1], h1.2.2⟩
  · rintro ⟨hh, rfl⟩
    rw [hh]

/-- A transfer over a route of one hop raises the count of that link, direction and channel by its flits, and no other. -/
theorem flits_carry_one {s : State} {src dst : LinkEnd} {k : Hop} {ch n : Nat} (hr : route src dst = [k]) (hn : n ≠ 0) (hch : ch < 4) (h : Hop) (c : Nat) (hc : c < 4) :
    (s.carry src dst ch n).flits h c = if h = k ∧ c = ch then (s.flits h c + ceilDiv n 256) % 2 ^ 32 else s.flits h c := by
  unfold State.carry State.flits State.channel
  rw [if_neg hn, hr]
  simp only [List.foldl_cons, List.foldl_nil]
  rw [Sparse.get_set]
  by_cases hk : h = k ∧ c = ch
  · rw [if_pos hk, if_pos (by rw [hk.1, hk.2]), hk.1, hk.2]
    rfl
  · rw [if_neg hk, if_neg (fun he => hk ((linkKey_inj hc hch).1 he))]

/-- After an audit the channel it is of stands as the audit found it, and every other as before. -/
theorem channel_setAudited (s : State) (a : Audit) (h : Hop) (c : Nat) (hc : c < 4) :
    (s.setAudited a).channel h c = if h = auditHop a ∧ c = a.channel.val then s.audited a else s.channel h c := by
  unfold State.setAudited State.channel
  rw [Sparse.get_set]
  by_cases hk : h = auditHop a ∧ c = a.channel.val
  · rw [if_pos hk, if_pos (by rw [hk.1, hk.2])]
  · rw [if_neg hk, if_neg (fun he => hk ((linkKey_inj hc a.channel.isLt).1 he))]

/-- An audit changes no count of flits sent. -/
theorem flits_setAudited (s : State) (a : Audit) (h : Hop) (c : Nat) (hc : c < 4) : (s.setAudited a).flits h c = s.flits h c := by
  unfold State.flits
  rw [channel_setAudited s a h c hc]
  split
  · rename_i hk; rw [hk.1, hk.2]; rfl
  · rfl

/-- A transfer changes the counts of the links alone. -/
theorem carry_rest (s : State) (src dst : LinkEnd) (ch n : Nat) : { s.carry src dst ch n with mem := { (s.carry src dst ch n).mem with links := s.mem.links } } = s := by
  unfold State.carry
  split <;> rfl

end Sys2Proof
end

