-- ==== Sys2Proof/Laws/State.lean ====
section
/-! SUPPORT. What each named update of the state leaves: one lemma for each field it does not write, and for what it writes what a read gives. -/

namespace Sys2Proof.Machine

open Sys2Proof

/-! ### Registers -/

@[simp] theorem State.reg_setReg_same (s : State) (o : Nat) (v : Reg) : (s.setReg o v).reg o = v := Sparse.get_set_same ..

theorem State.reg_setReg_other (s : State) {o p : Nat} (v : Reg) (h : p ≠ o) : (s.setReg o v).reg p = s.reg p :=
  Sparse.get_set_other _ _ v h

theorem State.reg_setReg (s : State) (o p : Nat) (v : Reg) : (s.setReg o v).reg p = if p = o then v else s.reg p := Sparse.get_set ..

@[simp] theorem State.reg_bump_same (s : State) (o n : Nat) : (s.bump o n).reg o = s.reg o + BitVec.ofNat 64 n := Sparse.get_set_same ..

theorem State.reg_bump_other (s : State) {o p : Nat} (n : Nat) (h : p ≠ o) : (s.bump o n).reg p = s.reg p := State.reg_setReg_other s _ h

/-- A register write keeps the register table in its canonical form. -/
theorem State.regs_wf_setReg {s : State} (o : Nat) (v : Reg) (h : Sparse.wf regReset s.regs) : Sparse.wf regReset (s.setReg o v).regs :=
  Sparse.wf_set o v h

/-! ### Classrooms and Wings -/

@[simp] theorem State.room_setRoom_same (s : State) (k : Fin 32) (r : Classroom) : (s.setRoom k r).room k = r := by
  show (s.rooms.set k.val r k.isLt)[k.val] = r
  simp

theorem State.room_setRoom_other (s : State) {k j : Fin 32} (r : Classroom) (h : j ≠ k) : (s.setRoom k r).room j = s.room j := by
  have : k.val ≠ j.val := fun e => h (Fin.ext e.symm)
  show (s.rooms.set k.val r k.isLt)[j.val] = s.rooms[j.val]
  rw [Vector.getElem_set_ne _ _ this]

@[simp] theorem State.room_modRoom_same (s : State) (k : Fin 32) (f : Classroom → Classroom) : (s.modRoom k f).room k = f (s.room k) :=
  State.room_setRoom_same ..

theorem State.room_modRoom_other (s : State) {k j : Fin 32} (f : Classroom → Classroom) (h : j ≠ k) : (s.modRoom k f).room j = s.room j :=
  State.room_setRoom_other s _ h

@[simp] theorem State.wing_setWing_same (s : State) (w : Wing) (x : WingSt) : (s.setWing w x).wing w = x := by
  show (s.wings.set w.val x w.isLt)[w.val] = x
  simp

theorem State.wing_setWing_other (s : State) {w v : Wing} (x : WingSt) (h : v ≠ w) : (s.setWing w x).wing v = s.wing v := by
  have : w.val ≠ v.val := fun e => h (Fin.ext e.symm)
  show (s.wings.set w.val x w.isLt)[v.val] = s.wings[v.val]
  rw [Vector.getElem_set_ne _ _ this]

@[simp] theorem State.seq_modSeq_same (s : State) (w : Wing) (f : Sequencer → Sequencer) : (s.modSeq w f).seq w = f (s.seq w) := by
  simp [State.modSeq, State.seq]

theorem State.seq_modSeq_other (s : State) {w v : Wing} (f : Sequencer → Sequencer) (h : v ≠ w) : (s.modSeq w f).seq v = s.seq v := by
  simp [State.modSeq, State.seq, State.wing_setWing_other _ _ h]

@[simp] theorem State.cache_modSeq (s : State) (w v : Wing) (f : Sequencer → Sequencer) : ((s.modSeq w f).wing v).cache = (s.wing v).cache := by
  by_cases h : v = w
  · subst h; simp [State.modSeq]
  · simp [State.modSeq, State.wing_setWing_other _ _ h]

/-! ### Fields an update does not write -/

@[simp] theorem State.setReg_pending (s : State) (o : Nat) (v : Reg) : (s.setReg o v).pending = s.pending := rfl
@[simp] theorem State.setReg_bus (s : State) (o : Nat) (v : Reg) : (s.setReg o v).bus = s.bus := rfl
@[simp] theorem State.setReg_staged (s : State) (o : Nat) (v : Reg) : (s.setReg o v).staged = s.staged := rfl
@[simp] theorem State.setReg_heldWrites (s : State) (o : Nat) (v : Reg) : (s.setReg o v).heldWrites = s.heldWrites := rfl
@[simp] theorem State.setReg_commits (s : State) (o : Nat) (v : Reg) : (s.setReg o v).commits = s.commits := rfl
@[simp] theorem State.setReg_rooms (s : State) (o : Nat) (v : Reg) : (s.setReg o v).rooms = s.rooms := rfl
@[simp] theorem State.setReg_wings (s : State) (o : Nat) (v : Reg) : (s.setReg o v).wings = s.wings := rfl
@[simp] theorem State.setReg_mem (s : State) (o : Nat) (v : Reg) : (s.setReg o v).mem = s.mem := rfl
@[simp] theorem State.setReg_srv (s : State) (o : Nat) (v : Reg) : (s.setReg o v).srv = s.srv := rfl
@[simp] theorem State.setReg_mdl (s : State) (o : Nat) (v : Reg) : (s.setReg o v).mdl = s.mdl := rfl
@[simp] theorem State.setReg_hif (s : State) (o : Nat) (v : Reg) : (s.setReg o v).hif = s.hif := rfl
@[simp] theorem State.setReg_err (s : State) (o : Nat) (v : Reg) : (s.setReg o v).err = s.err := rfl
@[simp] theorem State.setReg_fab (s : State) (o : Nat) (v : Reg) : (s.setReg o v).fab = s.fab := rfl
@[simp] theorem State.setReg_asm (s : State) (o : Nat) (v : Reg) : (s.setReg o v).asm = s.asm := rfl
@[simp] theorem State.setReg_pwr (s : State) (o : Nat) (v : Reg) : (s.setReg o v).pwr = s.pwr := rfl
@[simp] theorem State.setReg_sec (s : State) (o : Nat) (v : Reg) : (s.setReg o v).sec = s.sec := rfl
@[simp] theorem State.setReg_rbk (s : State) (o : Nat) (v : Reg) : (s.setReg o v).rbk = s.rbk := rfl
@[simp] theorem State.setReg_rlink (s : State) (o : Nat) (v : Reg) : (s.setReg o v).rlink = s.rlink := rfl

@[simp] theorem State.bump_pending (s : State) (o n : Nat) : (s.bump o n).pending = s.pending := rfl
@[simp] theorem State.bump_bus (s : State) (o n : Nat) : (s.bump o n).bus = s.bus := rfl
@[simp] theorem State.bump_staged (s : State) (o n : Nat) : (s.bump o n).staged = s.staged := rfl
@[simp] theorem State.bump_heldWrites (s : State) (o n : Nat) : (s.bump o n).heldWrites = s.heldWrites := rfl
@[simp] theorem State.bump_commits (s : State) (o n : Nat) : (s.bump o n).commits = s.commits := rfl
@[simp] theorem State.bump_rooms (s : State) (o n : Nat) : (s.bump o n).rooms = s.rooms := rfl
@[simp] theorem State.bump_wings (s : State) (o n : Nat) : (s.bump o n).wings = s.wings := rfl
@[simp] theorem State.bump_mem (s : State) (o n : Nat) : (s.bump o n).mem = s.mem := rfl
@[simp] theorem State.bump_srv (s : State) (o n : Nat) : (s.bump o n).srv = s.srv := rfl
@[simp] theorem State.bump_mdl (s : State) (o n : Nat) : (s.bump o n).mdl = s.mdl := rfl
@[simp] theorem State.bump_hif (s : State) (o n : Nat) : (s.bump o n).hif = s.hif := rfl
@[simp] theorem State.bump_err (s : State) (o n : Nat) : (s.bump o n).err = s.err := rfl
@[simp] theorem State.bump_fab (s : State) (o n : Nat) : (s.bump o n).fab = s.fab := rfl
@[simp] theorem State.bump_asm (s : State) (o n : Nat) : (s.bump o n).asm = s.asm := rfl
@[simp] theorem State.bump_pwr (s : State) (o n : Nat) : (s.bump o n).pwr = s.pwr := rfl
@[simp] theorem State.bump_sec (s : State) (o n : Nat) : (s.bump o n).sec = s.sec := rfl
@[simp] theorem State.bump_rbk (s : State) (o n : Nat) : (s.bump o n).rbk = s.rbk := rfl
@[simp] theorem State.bump_rlink (s : State) (o n : Nat) : (s.bump o n).rlink = s.rlink := rfl

@[simp] theorem State.setRoom_pending (s : State) (k : Fin 32) (r : Classroom) : (s.setRoom k r).pending = s.pending := rfl
@[simp] theorem State.setRoom_bus (s : State) (k : Fin 32) (r : Classroom) : (s.setRoom k r).bus = s.bus := rfl
@[simp] theorem State.setRoom_regs (s : State) (k : Fin 32) (r : Classroom) : (s.setRoom k r).regs = s.regs := rfl
@[simp] theorem State.setRoom_staged (s : State) (k : Fin 32) (r : Classroom) : (s.setRoom k r).staged = s.staged := rfl
@[simp] theorem State.setRoom_heldWrites (s : State) (k : Fin 32) (r : Classroom) : (s.setRoom k r).heldWrites = s.heldWrites := rfl
@[simp] theorem State.setRoom_commits (s : State) (k : Fin 32) (r : Classroom) : (s.setRoom k r).commits = s.commits := rfl
@[simp] theorem State.setRoom_wings (s : State) (k : Fin 32) (r : Classroom) : (s.setRoom k r).wings = s.wings := rfl
@[simp] theorem State.setRoom_mem (s : State) (k : Fin 32) (r : Classroom) : (s.setRoom k r).mem = s.mem := rfl
@[simp] theorem State.setRoom_srv (s : State) (k : Fin 32) (r : Classroom) : (s.setRoom k r).srv = s.srv := rfl
@[simp] theorem State.setRoom_mdl (s : State) (k : Fin 32) (r : Classroom) : (s.setRoom k r).mdl = s.mdl := rfl
@[simp] theorem State.setRoom_hif (s : State) (k : Fin 32) (r : Classroom) : (s.setRoom k r).hif = s.hif := rfl
@[simp] theorem State.setRoom_err (s : State) (k : Fin 32) (r : Classroom) : (s.setRoom k r).err = s.err := rfl
@[simp] theorem State.setRoom_fab (s : State) (k : Fin 32) (r : Classroom) : (s.setRoom k r).fab = s.fab := rfl
@[simp] theorem State.setRoom_asm (s : State) (k : Fin 32) (r : Classroom) : (s.setRoom k r).asm = s.asm := rfl
@[simp] theorem State.setRoom_pwr (s : State) (k : Fin 32) (r : Classroom) : (s.setRoom k r).pwr = s.pwr := rfl
@[simp] theorem State.setRoom_sec (s : State) (k : Fin 32) (r : Classroom) : (s.setRoom k r).sec = s.sec := rfl
@[simp] theorem State.setRoom_rbk (s : State) (k : Fin 32) (r : Classroom) : (s.setRoom k r).rbk = s.rbk := rfl
@[simp] theorem State.setRoom_rlink (s : State) (k : Fin 32) (r : Classroom) : (s.setRoom k r).rlink = s.rlink := rfl

@[simp] theorem State.modRoom_pending (s : State) (k : Fin 32) (f : Classroom → Classroom) : (s.modRoom k f).pending = s.pending := rfl
@[simp] theorem State.modRoom_bus (s : State) (k : Fin 32) (f : Classroom → Classroom) : (s.modRoom k f).bus = s.bus := rfl
@[simp] theorem State.modRoom_regs (s : State) (k : Fin 32) (f : Classroom → Classroom) : (s.modRoom k f).regs = s.regs := rfl
@[simp] theorem State.modRoom_staged (s : State) (k : Fin 32) (f : Classroom → Classroom) : (s.modRoom k f).staged = s.staged := rfl
@[simp] theorem State.modRoom_heldWrites (s : State) (k : Fin 32) (f : Classroom → Classroom) : (s.modRoom k f).heldWrites = s.heldWrites := rfl
@[simp] theorem State.modRoom_commits (s : State) (k : Fin 32) (f : Classroom → Classroom) : (s.modRoom k f).commits = s.commits := rfl
@[simp] theorem State.modRoom_wings (s : State) (k : Fin 32) (f : Classroom → Classroom) : (s.modRoom k f).wings = s.wings := rfl
@[simp] theorem State.modRoom_mem (s : State) (k : Fin 32) (f : Classroom → Classroom) : (s.modRoom k f).mem = s.mem := rfl
@[simp] theorem State.modRoom_srv (s : State) (k : Fin 32) (f : Classroom → Classroom) : (s.modRoom k f).srv = s.srv := rfl
@[simp] theorem State.modRoom_mdl (s : State) (k : Fin 32) (f : Classroom → Classroom) : (s.modRoom k f).mdl = s.mdl := rfl
@[simp] theorem State.modRoom_hif (s : State) (k : Fin 32) (f : Classroom → Classroom) : (s.modRoom k f).hif = s.hif := rfl
@[simp] theorem State.modRoom_err (s : State) (k : Fin 32) (f : Classroom → Classroom) : (s.modRoom k f).err = s.err := rfl
@[simp] theorem State.modRoom_fab (s : State) (k : Fin 32) (f : Classroom → Classroom) : (s.modRoom k f).fab = s.fab := rfl
@[simp] theorem State.modRoom_asm (s : State) (k : Fin 32) (f : Classroom → Classroom) : (s.modRoom k f).asm = s.asm := rfl
@[simp] theorem State.modRoom_pwr (s : State) (k : Fin 32) (f : Classroom → Classroom) : (s.modRoom k f).pwr = s.pwr := rfl
@[simp] theorem State.modRoom_sec (s : State) (k : Fin 32) (f : Classroom → Classroom) : (s.modRoom k f).sec = s.sec := rfl
@[simp] theorem State.modRoom_rbk (s : State) (k : Fin 32) (f : Classroom → Classroom) : (s.modRoom k f).rbk = s.rbk := rfl
@[simp] theorem State.modRoom_rlink (s : State) (k : Fin 32) (f : Classroom → Classroom) : (s.modRoom k f).rlink = s.rlink := rfl

@[simp] theorem State.setWing_pending (s : State) (w : Wing) (x : WingSt) : (s.setWing w x).pending = s.pending := rfl
@[simp] theorem State.setWing_bus (s : State) (w : Wing) (x : WingSt) : (s.setWing w x).bus = s.bus := rfl
@[simp] theorem State.setWing_regs (s : State) (w : Wing) (x : WingSt) : (s.setWing w x).regs = s.regs := rfl
@[simp] theorem State.setWing_staged (s : State) (w : Wing) (x : WingSt) : (s.setWing w x).staged = s.staged := rfl
@[simp] theorem State.setWing_heldWrites (s : State) (w : Wing) (x : WingSt) : (s.setWing w x).heldWrites = s.heldWrites := rfl
@[simp] theorem State.setWing_commits (s : State) (w : Wing) (x : WingSt) : (s.setWing w x).commits = s.commits := rfl
@[simp] theorem State.setWing_rooms (s : State) (w : Wing) (x : WingSt) : (s.setWing w x).rooms = s.rooms := rfl
@[simp] theorem State.setWing_mem (s : State) (w : Wing) (x : WingSt) : (s.setWing w x).mem = s.mem := rfl
@[simp] theorem State.setWing_srv (s : State) (w : Wing) (x : WingSt) : (s.setWing w x).srv = s.srv := rfl
@[simp] theorem State.setWing_mdl (s : State) (w : Wing) (x : WingSt) : (s.setWing w x).mdl = s.mdl := rfl
@[simp] theorem State.setWing_hif (s : State) (w : Wing) (x : WingSt) : (s.setWing w x).hif = s.hif := rfl
@[simp] theorem State.setWing_err (s : State) (w : Wing) (x : WingSt) : (s.setWing w x).err = s.err := rfl
@[simp] theorem State.setWing_fab (s : State) (w : Wing) (x : WingSt) : (s.setWing w x).fab = s.fab := rfl
@[simp] theorem State.setWing_asm (s : State) (w : Wing) (x : WingSt) : (s.setWing w x).asm = s.asm := rfl
@[simp] theorem State.setWing_pwr (s : State) (w : Wing) (x : WingSt) : (s.setWing w x).pwr = s.pwr := rfl
@[simp] theorem State.setWing_sec (s : State) (w : Wing) (x : WingSt) : (s.setWing w x).sec = s.sec := rfl
@[simp] theorem State.setWing_rbk (s : State) (w : Wing) (x : WingSt) : (s.setWing w x).rbk = s.rbk := rfl
@[simp] theorem State.setWing_rlink (s : State) (w : Wing) (x : WingSt) : (s.setWing w x).rlink = s.rlink := rfl

@[simp] theorem State.modSeq_pending (s : State) (w : Wing) (f : Sequencer → Sequencer) : (s.modSeq w f).pending = s.pending := rfl
@[simp] theorem State.modSeq_bus (s : State) (w : Wing) (f : Sequencer → Sequencer) : (s.modSeq w f).bus = s.bus := rfl
@[simp] theorem State.modSeq_regs (s : State) (w : Wing) (f : Sequencer → Sequencer) : (s.modSeq w f).regs = s.regs := rfl
@[simp] theorem State.modSeq_staged (s : State) (w : Wing) (f : Sequencer → Sequencer) : (s.modSeq w f).staged = s.staged := rfl
@[simp] theorem State.modSeq_heldWrites (s : State) (w : Wing) (f : Sequencer → Sequencer) : (s.modSeq w f).heldWrites = s.heldWrites := rfl
@[simp] theorem State.modSeq_commits (s : State) (w : Wing) (f : Sequencer → Sequencer) : (s.modSeq w f).commits = s.commits := rfl
@[simp] theorem State.modSeq_rooms (s : State) (w : Wing) (f : Sequencer → Sequencer) : (s.modSeq w f).rooms = s.rooms := rfl
@[simp] theorem State.modSeq_mem (s : State) (w : Wing) (f : Sequencer → Sequencer) : (s.modSeq w f).mem = s.mem := rfl
@[simp] theorem State.modSeq_srv (s : State) (w : Wing) (f : Sequencer → Sequencer) : (s.modSeq w f).srv = s.srv := rfl
@[simp] theorem State.modSeq_mdl (s : State) (w : Wing) (f : Sequencer → Sequencer) : (s.modSeq w f).mdl = s.mdl := rfl
@[simp] theorem State.modSeq_hif (s : State) (w : Wing) (f : Sequencer → Sequencer) : (s.modSeq w f).hif = s.hif := rfl
@[simp] theorem State.modSeq_err (s : State) (w : Wing) (f : Sequencer → Sequencer) : (s.modSeq w f).err = s.err := rfl
@[simp] theorem State.modSeq_fab (s : State) (w : Wing) (f : Sequencer → Sequencer) : (s.modSeq w f).fab = s.fab := rfl
@[simp] theorem State.modSeq_asm (s : State) (w : Wing) (f : Sequencer → Sequencer) : (s.modSeq w f).asm = s.asm := rfl
@[simp] theorem State.modSeq_pwr (s : State) (w : Wing) (f : Sequencer → Sequencer) : (s.modSeq w f).pwr = s.pwr := rfl
@[simp] theorem State.modSeq_sec (s : State) (w : Wing) (f : Sequencer → Sequencer) : (s.modSeq w f).sec = s.sec := rfl
@[simp] theorem State.modSeq_rbk (s : State) (w : Wing) (f : Sequencer → Sequencer) : (s.modSeq w f).rbk = s.rbk := rfl
@[simp] theorem State.modSeq_rlink (s : State) (w : Wing) (f : Sequencer → Sequencer) : (s.modSeq w f).rlink = s.rlink := rfl

@[simp] theorem State.markTrouble_pending (s : State) (w : Wing) : (s.markTrouble w).pending = s.pending := rfl
@[simp] theorem State.markTrouble_bus (s : State) (w : Wing) : (s.markTrouble w).bus = s.bus := rfl
@[simp] theorem State.markTrouble_regs (s : State) (w : Wing) : (s.markTrouble w).regs = s.regs := rfl
@[simp] theorem State.markTrouble_staged (s : State) (w : Wing) : (s.markTrouble w).staged = s.staged := rfl
@[simp] theorem State.markTrouble_heldWrites (s : State) (w : Wing) : (s.markTrouble w).heldWrites = s.heldWrites := rfl
@[simp] theorem State.markTrouble_commits (s : State) (w : Wing) : (s.markTrouble w).commits = s.commits := rfl
@[simp] theorem State.markTrouble_rooms (s : State) (w : Wing) : (s.markTrouble w).rooms = s.rooms := rfl
@[simp] theorem State.markTrouble_mem (s : State) (w : Wing) : (s.markTrouble w).mem = s.mem := rfl
@[simp] theorem State.markTrouble_srv (s : State) (w : Wing) : (s.markTrouble w).srv = s.srv := rfl
@[simp] theorem State.markTrouble_mdl (s : State) (w : Wing) : (s.markTrouble w).mdl = s.mdl := rfl
@[simp] theorem State.markTrouble_hif (s : State) (w : Wing) : (s.markTrouble w).hif = s.hif := rfl
@[simp] theorem State.markTrouble_err (s : State) (w : Wing) : (s.markTrouble w).err = s.err := rfl
@[simp] theorem State.markTrouble_fab (s : State) (w : Wing) : (s.markTrouble w).fab = s.fab := rfl
@[simp] theorem State.markTrouble_asm (s : State) (w : Wing) : (s.markTrouble w).asm = s.asm := rfl
@[simp] theorem State.markTrouble_pwr (s : State) (w : Wing) : (s.markTrouble w).pwr = s.pwr := rfl
@[simp] theorem State.markTrouble_sec (s : State) (w : Wing) : (s.markTrouble w).sec = s.sec := rfl
@[simp] theorem State.markTrouble_rbk (s : State) (w : Wing) : (s.markTrouble w).rbk = s.rbk := rfl
@[simp] theorem State.markTrouble_rlink (s : State) (w : Wing) : (s.markTrouble w).rlink = s.rlink := rfl

@[simp] theorem State.markError_pending (s : State) (w : Wing) : (s.markError w).pending = s.pending := rfl
@[simp] theorem State.markError_bus (s : State) (w : Wing) : (s.markError w).bus = s.bus := rfl
@[simp] theorem State.markError_regs (s : State) (w : Wing) : (s.markError w).regs = s.regs := rfl
@[simp] theorem State.markError_staged (s : State) (w : Wing) : (s.markError w).staged = s.staged := rfl
@[simp] theorem State.markError_heldWrites (s : State) (w : Wing) : (s.markError w).heldWrites = s.heldWrites := rfl
@[simp] theorem State.markError_commits (s : State) (w : Wing) : (s.markError w).commits = s.commits := rfl
@[simp] theorem State.markError_rooms (s : State) (w : Wing) : (s.markError w).rooms = s.rooms := rfl
@[simp] theorem State.markError_mem (s : State) (w : Wing) : (s.markError w).mem = s.mem := rfl
@[simp] theorem State.markError_srv (s : State) (w : Wing) : (s.markError w).srv = s.srv := rfl
@[simp] theorem State.markError_mdl (s : State) (w : Wing) : (s.markError w).mdl = s.mdl := rfl
@[simp] theorem State.markError_hif (s : State) (w : Wing) : (s.markError w).hif = s.hif := rfl
@[simp] theorem State.markError_err (s : State) (w : Wing) : (s.markError w).err = s.err := rfl
@[simp] theorem State.markError_fab (s : State) (w : Wing) : (s.markError w).fab = s.fab := rfl
@[simp] theorem State.markError_asm (s : State) (w : Wing) : (s.markError w).asm = s.asm := rfl
@[simp] theorem State.markError_pwr (s : State) (w : Wing) : (s.markError w).pwr = s.pwr := rfl
@[simp] theorem State.markError_sec (s : State) (w : Wing) : (s.markError w).sec = s.sec := rfl
@[simp] theorem State.markError_rbk (s : State) (w : Wing) : (s.markError w).rbk = s.rbk := rfl
@[simp] theorem State.markError_rlink (s : State) (w : Wing) : (s.markError w).rlink = s.rlink := rfl

@[simp] theorem State.markErrorIn_pending (s : State) (k : Fin 32) : (s.markErrorIn k).pending = s.pending := rfl
@[simp] theorem State.markErrorIn_bus (s : State) (k : Fin 32) : (s.markErrorIn k).bus = s.bus := rfl
@[simp] theorem State.markErrorIn_regs (s : State) (k : Fin 32) : (s.markErrorIn k).regs = s.regs := rfl
@[simp] theorem State.markErrorIn_staged (s : State) (k : Fin 32) : (s.markErrorIn k).staged = s.staged := rfl
@[simp] theorem State.markErrorIn_heldWrites (s : State) (k : Fin 32) : (s.markErrorIn k).heldWrites = s.heldWrites := rfl
@[simp] theorem State.markErrorIn_commits (s : State) (k : Fin 32) : (s.markErrorIn k).commits = s.commits := rfl
@[simp] theorem State.markErrorIn_rooms (s : State) (k : Fin 32) : (s.markErrorIn k).rooms = s.rooms := rfl
@[simp] theorem State.markErrorIn_mem (s : State) (k : Fin 32) : (s.markErrorIn k).mem = s.mem := rfl
@[simp] theorem State.markErrorIn_mdl (s : State) (k : Fin 32) : (s.markErrorIn k).mdl = s.mdl := rfl
@[simp] theorem State.markErrorIn_hif (s : State) (k : Fin 32) : (s.markErrorIn k).hif = s.hif := rfl
@[simp] theorem State.markErrorIn_err (s : State) (k : Fin 32) : (s.markErrorIn k).err = s.err := rfl
@[simp] theorem State.markErrorIn_fab (s : State) (k : Fin 32) : (s.markErrorIn k).fab = s.fab := rfl
@[simp] theorem State.markErrorIn_asm (s : State) (k : Fin 32) : (s.markErrorIn k).asm = s.asm := rfl
@[simp] theorem State.markErrorIn_pwr (s : State) (k : Fin 32) : (s.markErrorIn k).pwr = s.pwr := rfl
@[simp] theorem State.markErrorIn_sec (s : State) (k : Fin 32) : (s.markErrorIn k).sec = s.sec := rfl
@[simp] theorem State.markErrorIn_rbk (s : State) (k : Fin 32) : (s.markErrorIn k).rbk = s.rbk := rfl
@[simp] theorem State.markErrorIn_rlink (s : State) (k : Fin 32) : (s.markErrorIn k).rlink = s.rlink := rfl

@[simp] theorem State.setOut_pending (s : State) (q : Nat) (r : OutRing) : (s.setOut q r).pending = s.pending := rfl
@[simp] theorem State.setOut_bus (s : State) (q : Nat) (r : OutRing) : (s.setOut q r).bus = s.bus := rfl
@[simp] theorem State.setOut_regs (s : State) (q : Nat) (r : OutRing) : (s.setOut q r).regs = s.regs := rfl
@[simp] theorem State.setOut_staged (s : State) (q : Nat) (r : OutRing) : (s.setOut q r).staged = s.staged := rfl
@[simp] theorem State.setOut_heldWrites (s : State) (q : Nat) (r : OutRing) : (s.setOut q r).heldWrites = s.heldWrites := rfl
@[simp] theorem State.setOut_commits (s : State) (q : Nat) (r : OutRing) : (s.setOut q r).commits = s.commits := rfl
@[simp] theorem State.setOut_rooms (s : State) (q : Nat) (r : OutRing) : (s.setOut q r).rooms = s.rooms := rfl
@[simp] theorem State.setOut_wings (s : State) (q : Nat) (r : OutRing) : (s.setOut q r).wings = s.wings := rfl
@[simp] theorem State.setOut_mem (s : State) (q : Nat) (r : OutRing) : (s.setOut q r).mem = s.mem := rfl
@[simp] theorem State.setOut_srv (s : State) (q : Nat) (r : OutRing) : (s.setOut q r).srv = s.srv := rfl
@[simp] theorem State.setOut_mdl (s : State) (q : Nat) (r : OutRing) : (s.setOut q r).mdl = s.mdl := rfl
@[simp] theorem State.setOut_err (s : State) (q : Nat) (r : OutRing) : (s.setOut q r).err = s.err := rfl
@[simp] theorem State.setOut_fab (s : State) (q : Nat) (r : OutRing) : (s.setOut q r).fab = s.fab := rfl
@[simp] theorem State.setOut_asm (s : State) (q : Nat) (r : OutRing) : (s.setOut q r).asm = s.asm := rfl
@[simp] theorem State.setOut_pwr (s : State) (q : Nat) (r : OutRing) : (s.setOut q r).pwr = s.pwr := rfl
@[simp] theorem State.setOut_sec (s : State) (q : Nat) (r : OutRing) : (s.setOut q r).sec = s.sec := rfl
@[simp] theorem State.setOut_rbk (s : State) (q : Nat) (r : OutRing) : (s.setOut q r).rbk = s.rbk := rfl
@[simp] theorem State.setOut_rlink (s : State) (q : Nat) (r : OutRing) : (s.setOut q r).rlink = s.rlink := rfl

@[simp] theorem State.setSub_pending (s : State) (r : Nat) (x : SubRing) : (s.setSub r x).pending = s.pending := rfl
@[simp] theorem State.setSub_bus (s : State) (r : Nat) (x : SubRing) : (s.setSub r x).bus = s.bus := rfl
@[simp] theorem State.setSub_regs (s : State) (r : Nat) (x : SubRing) : (s.setSub r x).regs = s.regs := rfl
@[simp] theorem State.setSub_staged (s : State) (r : Nat) (x : SubRing) : (s.setSub r x).staged = s.staged := rfl
@[simp] theorem State.setSub_heldWrites (s : State) (r : Nat) (x : SubRing) : (s.setSub r x).heldWrites = s.heldWrites := rfl
@[simp] theorem State.setSub_commits (s : State) (r : Nat) (x : SubRing) : (s.setSub r x).commits = s.commits := rfl
@[simp] theorem State.setSub_rooms (s : State) (r : Nat) (x : SubRing) : (s.setSub r x).rooms = s.rooms := rfl
@[simp] theorem State.setSub_wings (s : State) (r : Nat) (x : SubRing) : (s.setSub r x).wings = s.wings := rfl
@[simp] theorem State.setSub_mem (s : State) (r : Nat) (x : SubRing) : (s.setSub r x).mem = s.mem := rfl
@[simp] theorem State.setSub_srv (s : State) (r : Nat) (x : SubRing) : (s.setSub r x).srv = s.srv := rfl
@[simp] theorem State.setSub_mdl (s : State) (r : Nat) (x : SubRing) : (s.setSub r x).mdl = s.mdl := rfl
@[simp] theorem State.setSub_err (s : State) (r : Nat) (x : SubRing) : (s.setSub r x).err = s.err := rfl
@[simp] theorem State.setSub_fab (s : State) (r : Nat) (x : SubRing) : (s.setSub r x).fab = s.fab := rfl
@[simp] theorem State.setSub_asm (s : State) (r : Nat) (x : SubRing) : (s.setSub r x).asm = s.asm := rfl
@[simp] theorem State.setSub_pwr (s : State) (r : Nat) (x : SubRing) : (s.setSub r x).pwr = s.pwr := rfl
@[simp] theorem State.setSub_sec (s : State) (r : Nat) (x : SubRing) : (s.setSub r x).sec = s.sec := rfl
@[simp] theorem State.setSub_rbk (s : State) (r : Nat) (x : SubRing) : (s.setSub r x).rbk = s.rbk := rfl
@[simp] theorem State.setSub_rlink (s : State) (r : Nat) (x : SubRing) : (s.setSub r x).rlink = s.rlink := rfl

@[simp] theorem State.nextSeq_pending (s : State) : (s.nextSeq).pending = s.pending := rfl
@[simp] theorem State.nextSeq_bus (s : State) : (s.nextSeq).bus = s.bus := rfl
@[simp] theorem State.nextSeq_regs (s : State) : (s.nextSeq).regs = s.regs := rfl
@[simp] theorem State.nextSeq_staged (s : State) : (s.nextSeq).staged = s.staged := rfl
@[simp] theorem State.nextSeq_heldWrites (s : State) : (s.nextSeq).heldWrites = s.heldWrites := rfl
@[simp] theorem State.nextSeq_commits (s : State) : (s.nextSeq).commits = s.commits := rfl
@[simp] theorem State.nextSeq_rooms (s : State) : (s.nextSeq).rooms = s.rooms := rfl
@[simp] theorem State.nextSeq_wings (s : State) : (s.nextSeq).wings = s.wings := rfl
@[simp] theorem State.nextSeq_mem (s : State) : (s.nextSeq).mem = s.mem := rfl
@[simp] theorem State.nextSeq_srv (s : State) : (s.nextSeq).srv = s.srv := rfl
@[simp] theorem State.nextSeq_mdl (s : State) : (s.nextSeq).mdl = s.mdl := rfl
@[simp] theorem State.nextSeq_err (s : State) : (s.nextSeq).err = s.err := rfl
@[simp] theorem State.nextSeq_fab (s : State) : (s.nextSeq).fab = s.fab := rfl
@[simp] theorem State.nextSeq_asm (s : State) : (s.nextSeq).asm = s.asm := rfl
@[simp] theorem State.nextSeq_pwr (s : State) : (s.nextSeq).pwr = s.pwr := rfl
@[simp] theorem State.nextSeq_sec (s : State) : (s.nextSeq).sec = s.sec := rfl
@[simp] theorem State.nextSeq_rbk (s : State) : (s.nextSeq).rbk = s.rbk := rfl
@[simp] theorem State.nextSeq_rlink (s : State) : (s.nextSeq).rlink = s.rlink := rfl

@[simp] theorem State.setReg_room (s : State) (o : Nat) (v : Reg) (j : Fin 32) : (s.setReg o v).room j = s.room j := rfl
@[simp] theorem State.setReg_wing (s : State) (o : Nat) (v : Reg) (u : Wing) : (s.setReg o v).wing u = s.wing u := rfl
@[simp] theorem State.setReg_seq (s : State) (o : Nat) (v : Reg) (u : Wing) : (s.setReg o v).seq u = s.seq u := rfl
@[simp] theorem State.bump_room (s : State) (o n : Nat) (j : Fin 32) : (s.bump o n).room j = s.room j := rfl
@[simp] theorem State.bump_wing (s : State) (o n : Nat) (v : Wing) : (s.bump o n).wing v = s.wing v := rfl
@[simp] theorem State.bump_seq (s : State) (o n : Nat) (v : Wing) : (s.bump o n).seq v = s.seq v := rfl
@[simp] theorem State.setRoom_wing (s : State) (k : Fin 32) (r : Classroom) (v : Wing) : (s.setRoom k r).wing v = s.wing v := rfl
@[simp] theorem State.setRoom_seq (s : State) (k : Fin 32) (r : Classroom) (v : Wing) : (s.setRoom k r).seq v = s.seq v := rfl
@[simp] theorem State.setRoom_reg (s : State) (k : Fin 32) (r : Classroom) (p : Nat) : (s.setRoom k r).reg p = s.reg p := rfl
@[simp] theorem State.modRoom_wing (s : State) (k : Fin 32) (f : Classroom → Classroom) (v : Wing) : (s.modRoom k f).wing v = s.wing v := rfl
@[simp] theorem State.modRoom_seq (s : State) (k : Fin 32) (f : Classroom → Classroom) (v : Wing) : (s.modRoom k f).seq v = s.seq v := rfl
@[simp] theorem State.modRoom_reg (s : State) (k : Fin 32) (f : Classroom → Classroom) (p : Nat) : (s.modRoom k f).reg p = s.reg p := rfl
@[simp] theorem State.setWing_room (s : State) (w : Wing) (x : WingSt) (j : Fin 32) : (s.setWing w x).room j = s.room j := rfl
@[simp] theorem State.setWing_reg (s : State) (w : Wing) (x : WingSt) (p : Nat) : (s.setWing w x).reg p = s.reg p := rfl
@[simp] theorem State.modSeq_room (s : State) (w : Wing) (f : Sequencer → Sequencer) (j : Fin 32) : (s.modSeq w f).room j = s.room j := rfl
@[simp] theorem State.modSeq_reg (s : State) (w : Wing) (f : Sequencer → Sequencer) (p : Nat) : (s.modSeq w f).reg p = s.reg p := rfl
@[simp] theorem State.markTrouble_room (s : State) (w : Wing) (j : Fin 32) : (s.markTrouble w).room j = s.room j := rfl
@[simp] theorem State.markTrouble_reg (s : State) (w : Wing) (p : Nat) : (s.markTrouble w).reg p = s.reg p := rfl
@[simp] theorem State.markError_room (s : State) (w : Wing) (j : Fin 32) : (s.markError w).room j = s.room j := rfl
@[simp] theorem State.markError_reg (s : State) (w : Wing) (p : Nat) : (s.markError w).reg p = s.reg p := rfl
@[simp] theorem State.markErrorIn_room (s : State) (k : Fin 32) (j : Fin 32) : (s.markErrorIn k).room j = s.room j := rfl
@[simp] theorem State.markErrorIn_reg (s : State) (k : Fin 32) (p : Nat) : (s.markErrorIn k).reg p = s.reg p := rfl
@[simp] theorem State.setOut_room (s : State) (q : Nat) (r : OutRing) (j : Fin 32) : (s.setOut q r).room j = s.room j := rfl
@[simp] theorem State.setOut_wing (s : State) (q : Nat) (r : OutRing) (v : Wing) : (s.setOut q r).wing v = s.wing v := rfl
@[simp] theorem State.setOut_seq (s : State) (q : Nat) (r : OutRing) (v : Wing) : (s.setOut q r).seq v = s.seq v := rfl
@[simp] theorem State.setOut_reg (s : State) (q : Nat) (r : OutRing) (p : Nat) : (s.setOut q r).reg p = s.reg p := rfl
@[simp] theorem State.setSub_room (s : State) (r : Nat) (x : SubRing) (j : Fin 32) : (s.setSub r x).room j = s.room j := rfl
@[simp] theorem State.setSub_wing (s : State) (r : Nat) (x : SubRing) (v : Wing) : (s.setSub r x).wing v = s.wing v := rfl
@[simp] theorem State.setSub_seq (s : State) (r : Nat) (x : SubRing) (v : Wing) : (s.setSub r x).seq v = s.seq v := rfl
@[simp] theorem State.setSub_reg (s : State) (r : Nat) (x : SubRing) (p : Nat) : (s.setSub r x).reg p = s.reg p := rfl
@[simp] theorem State.nextSeq_room (s : State) (j : Fin 32) : (s.nextSeq).room j = s.room j := rfl
@[simp] theorem State.nextSeq_wing (s : State) (v : Wing) : (s.nextSeq).wing v = s.wing v := rfl
@[simp] theorem State.nextSeq_seq (s : State) (v : Wing) : (s.nextSeq).seq v = s.seq v := rfl
@[simp] theorem State.nextSeq_reg (s : State) (p : Nat) : (s.nextSeq).reg p = s.reg p := rfl

@[simp] theorem State.eventWrite_rooms (s : State) (a : Nat) (e : EventRec) (p : Nat) : (s.eventWrite a e p).rooms = s.rooms := by
  unfold State.eventWrite State.hostWrite; split <;> (try split) <;> rfl
@[simp] theorem State.eventWrite_regs (s : State) (a : Nat) (e : EventRec) (p : Nat) : (s.eventWrite a e p).regs = s.regs := by
  unfold State.eventWrite State.hostWrite; split <;> (try split) <;> rfl
@[simp] theorem State.eventWrite_pwr (s : State) (a : Nat) (e : EventRec) (p : Nat) : (s.eventWrite a e p).pwr = s.pwr := by
  unfold State.eventWrite State.hostWrite; split <;> (try split) <;> rfl
@[simp] theorem State.eventWrite_srv (s : State) (a : Nat) (e : EventRec) (p : Nat) : (s.eventWrite a e p).srv = s.srv := by
  unfold State.eventWrite State.hostWrite; split <;> (try split) <;> rfl
@[simp] theorem State.eventWrite_rbk (s : State) (a : Nat) (e : EventRec) (p : Nat) : (s.eventWrite a e p).rbk = s.rbk := by
  unfold State.eventWrite State.hostWrite; split <;> (try split) <;> rfl
@[simp] theorem State.eventWrite_sec (s : State) (a : Nat) (e : EventRec) (p : Nat) : (s.eventWrite a e p).sec = s.sec := by
  unfold State.eventWrite State.hostWrite; split <;> (try split) <;> rfl

end Sys2Proof.Machine
end

