-- ==== Sys2Proof/Laws/Noise.lean ====
section
/-! SUPPORT. Records, messages and events change only what `Noise` names; a command's end changes no more in a quiet state. -/

namespace Sys2Proof

open Sys2Proof.Machine

theorem Noise.refl (s : State) : Noise s s := ⟨rfl, fun _ _ _ => rfl, rfl⟩

/-- What `Noise` says of the state, field by field. -/
theorem Noise.fields {s t : State} (h : Noise s t) :
    t.pending = s.pending ∧ t.bus = s.bus ∧ t.staged = s.staged ∧ t.heldWrites = s.heldWrites ∧ t.commits = s.commits ∧ t.rooms = s.rooms ∧
    t.wings = s.wings ∧ t.srv = s.srv ∧ t.mdl = s.mdl ∧ t.err = s.err ∧ t.fab = s.fab ∧ t.asm = s.asm ∧ t.pwr = s.pwr ∧ t.sec = s.sec ∧
    t.rbk = s.rbk ∧ t.rlink = s.rlink := by
  have h := h.rest
  refine ⟨?_, ?_, ?_, ?_, ?_, ?_, ?_, ?_, ?_, ?_, ?_, ?_, ?_, ?_, ?_, ?_⟩ <;> rw [← h]

theorem Noise.hifFields {s t : State} (h : Noise s t) :
    t.hif.bme = s.hif.bme ∧ t.hif.d3 = s.hif.d3 ∧ t.hif.msix = s.hif.msix ∧ t.hif.msixOpen = s.hif.msixOpen ∧ t.hif.subs = s.hif.subs ∧
    t.hif.tel = s.hif.tel ∧ t.hif.evReady = s.hif.evReady ∧ t.hif.samples = s.hif.samples ∧ t.hif.beats = s.hif.beats ∧ t.hif.ticks = s.hif.ticks ∧
    t.hif.fetched = s.hif.fetched ∧ t.hif.stalled = s.hif.stalled := by
  have h := h.hif
  refine ⟨?_, ?_, ?_, ?_, ?_, ?_, ?_, ?_, ?_, ?_, ?_, ?_⟩ <;> rw [← h]

theorem Noise.trans {s t u : State} (h : Noise s t) (g : Noise t u) : Noise s u := by
  refine ⟨?_, fun o h1 h2 => (g.regs o h1 h2).trans (h.regs o h1 h2), ?_⟩
  · obtain ⟨h1⟩ := h; obtain ⟨g1⟩ := g
    rw [← h1, ← g1]
  · obtain ⟨_, _, h1⟩ := h; obtain ⟨_, _, g1⟩ := g
    rw [← h1, ← g1]

theorem Noise.canIssue {s t : State} (h : Noise s t) : t.canIssue = s.canIssue := by
  simp [State.canIssue, h.hifFields]

theorem Noise.quiet {s t : State} (h : Noise s t) (q : Quiet s) : Quiet t := by
  refine ⟨?_, ?_⟩
  · rw [h.fields.2.2.2.2.2.2.2.2.2.1]; exact q.1
  · rw [h.hifFields.2.2.2.2.2.2.2.2.2.2.2]; exact q.2

/-! ### The operations -/

section
variable {s t : State}

/-- A change of the host interface within what `Noise` leaves free. -/
theorem Noise.setHif (h : Noise s t) (x : HostIf)
    (hx : { x with
      outs := t.hif.outs, ev := t.hif.ev, heldEvents := t.hif.heldEvents, lostEvents := t.hif.lostEvents, evSeq := t.hif.evSeq
      msixPend := t.hif.msixPend, sent := t.hif.sent, waitReqs := t.hif.waitReqs, burst := t.hif.burst } = t.hif) :
    Noise s { t with hif := x } := h.trans ⟨rfl, fun _ _ _ => rfl, hx⟩

theorem Noise.hostWrite (h : Noise s t) (a : Nat) (bs : List Byte) : Noise s (t.hostWrite a bs) := by
  refine h.trans ?_
  unfold State.hostWrite; split <;> exact ⟨rfl, fun _ _ _ => rfl, rfl⟩

theorem Noise.bumpMsix (h : Noise s t) (n : Nat) : Noise s (t.bump Off.hifMsixSent n) :=
  h.trans ⟨rfl, fun _ _ g => State.reg_bump_other t n g, rfl⟩

theorem Noise.bumpLost (h : Noise s t) (n : Nat) : Noise s (t.bump Off.hifEventsLost n) :=
  h.trans ⟨rfl, fun _ g _ => State.reg_bump_other t n g, rfl⟩

theorem Noise.setOut (h : Noise s t) (q : Nat) (r : OutRing) : Noise s (t.setOut q r) := h.setHif _ rfl

theorem Noise.nextSeq (h : Noise s t) : Noise s t.nextSeq := h.setHif _ rfl

theorem Noise.msixSend (h : Noise s t) (v : Nat) : Noise s (t.msixSend v) := by
  unfold State.msixSend
  dsimp only
  split
  · exact (h.bumpMsix 1).setHif _ rfl
  · split <;> exact (h.bumpMsix 1).setHif _ rfl

theorem Noise.endBurst (h : Noise s t) (q : Nat) : Noise s (t.endBurst q) := by
  unfold State.endBurst
  dsimp only
  split
  · exact ((h.hostWrite _ _).setOut _ _).msixSend _
  · exact (h.hostWrite _ _).setOut _ _

theorem Noise.foldl {β : Type} (f : State → β → State) (hf : ∀ (u : State) (b : β), Noise s u → Noise s (f u b)) (l : List β) (h : Noise s t) :
    Noise s (l.foldl f t) := by
  induction l generalizing t with
  | nil => exact h
  | cons b l ih => exact ih (hf t b h)

theorem Noise.endBursts (h : Noise s t) : Noise s t.endBursts :=
  Noise.foldl _ (fun _ (e : Nat × OutRing) g => g.endBurst e.1) _ (h.setHif { t.hif with burst := false } rfl)

theorem Noise.eventWrite (h : Noise s t) (a : Nat) (e : EventRec) (phase : Nat) : Noise s (t.eventWrite a e phase) := by
  unfold State.eventWrite
  split
  · exact h.hostWrite _ _
  · exact h.setHif _ rfl

theorem Noise.putEvent (h : Noise s t) (e : EventRec) : Noise s (t.putEvent e) := by
  unfold State.putEvent
  refine Noise.msixSend ?_ _
  apply Noise.setHif
  · exact (h.eventWrite _ _ _).hostWrite _ _
  · rfl

theorem Noise.putLost (h : Noise s t) : Noise s t.putLost := by
  unfold State.putLost
  split
  · apply Noise.setHif
    · exact (h.putEvent _).nextSeq
    · rfl
  · exact h

theorem Noise.putHeld (n : Nat) (h : Noise s t) : Noise s (State.putHeld n t) := by
  induction n generalizing t with
  | zero => exact h
  | succ n ih =>
    unfold State.putHeld
    split
    · exact h
    · split
      · refine ih (Noise.putEvent ?_ _)
        apply Noise.setHif h
        rfl
      · exact h

theorem Noise.dropEvent (h : Noise s t) : Noise s t.dropEvent := Noise.setHif (h.bumpLost 1) _ rfl

theorem Noise.holdEvent (h : Noise s t) (e : EventRec) : Noise s (t.holdEvent e) := by
  unfold State.holdEvent
  split
  · exact Noise.nextSeq (h.setHif _ rfl)
  · exact h.dropEvent

/-- Raising an event is `Noise`. -/
theorem Noise.event (h : Noise s t) (kind status subject detail detail2 : Nat) : Noise s (t.event kind status subject detail detail2) := by
  unfold State.event
  extract_lets e t1 t2
  split
  · exact h.holdEvent e
  · split
    · exact h.dropEvent
    · split
      · exact (h.putHeld 64).dropEvent
      · split
        · exact ((h.putHeld 64).putLost.putEvent _).nextSeq
        · exact (h.putHeld 64).putLost.dropEvent

end

theorem pump_quiet {s : State} (h : s.hif.stalled = []) : s.pump = s := by simp [State.pump, h, State.pumpN]

theorem actFault_quiet {s : State} (h : s.err.due = none) : s.actFault = s := by simp [State.actFault, h]

/-- In a quiet state a command's end only ends bursts. -/
theorem finish_quiet {s : State} (h : Quiet s) : s.finish = s.endBursts := by
  simp [State.finish, actFault_quiet h.1, pump_quiet h.2]

theorem noise_finish {s : State} (h : Quiet s) : Noise s s.finish := by
  rw [finish_quiet h]; exact (Noise.refl s).endBursts

end Sys2Proof
end

