-- ==== Sys2Proof/Laws/Reads.lean ====
section
/-! SUPPORT. What a read of T1, T2 or T3 may change: registers, records and marks of what it met, and nothing that it reads (R198, R208, R296). -/

namespace Sys2Proof

open Sys2Proof.Machine

/-- `t` is `s` but for registers, the host interface, host memory, the counts of the stacks and links, the Library caches with the check bits of their cells, the
fabric over which a peer is asked, a fault that falls due and marks of POISONED chunks. -/
structure ReadFrame (s t : State) : Prop where
  rest : { t with regs := s.regs, hif := s.hif, err := s.err, mdl := s.mdl, wings := s.wings, fab := s.fab,
                  mem := { t.mem with hbmStacks := s.mem.hbmStacks, host := s.mem.host, links := s.mem.links, libBad := s.mem.libBad, libCorr := s.mem.libCorr } } = s

theorem ReadFrame.refl (s : State) : ReadFrame s s := ⟨rfl⟩

theorem ReadFrame.trans {s t u : State} (h : ReadFrame s t) (g : ReadFrame t u) : ReadFrame s u := by
  obtain ⟨h⟩ := h; obtain ⟨g⟩ := g
  exact ⟨by rw [← h, ← g]⟩

theorem ReadFrame.fields {s t : State} (h : ReadFrame s t) :
    t.pending = s.pending ∧ t.rooms = s.rooms ∧ t.srv = s.srv ∧ t.asm = s.asm ∧ t.pwr = s.pwr ∧ t.sec = s.sec ∧
    t.rbk = s.rbk ∧ t.rlink = s.rlink ∧ t.mem.hbm = s.mem.hbm ∧ t.mem.peer = s.mem.peer ∧ t.mem.lib = s.mem.lib ∧ t.mem.windows = s.mem.windows ∧
    t.mem.quotas = s.mem.quotas := by
  have h := h.rest
  refine ⟨?_, ?_, ?_, ?_, ?_, ?_, ?_, ?_, ?_, ?_, ?_, ?_, ?_⟩ <;> rw [← h]

theorem Noise.readFrame {s t : State} (h : Noise s t) : ReadFrame s t := by
  have h := h.rest
  exact ⟨by rw [← h]⟩

section
variable {s t : State}

theorem ReadFrame.setReg (h : ReadFrame s t) (o : Nat) (v : Reg) : ReadFrame s (t.setReg o v) := h.trans ⟨rfl⟩
theorem ReadFrame.bump (h : ReadFrame s t) (o n : Nat) : ReadFrame s (t.bump o n) := h.setReg ..
theorem ReadFrame.modStack (h : ReadFrame s t) (k : Fin 32) (f : Stack → Stack) : ReadFrame s (t.modStack k f) := h.trans ⟨rfl⟩
theorem ReadFrame.setSlot (h : ReadFrame s t) (k : Nat) (r : SlotRec) : ReadFrame s (t.setSlot k r) := h.trans ⟨rfl⟩
theorem ReadFrame.setVer (h : ReadFrame s t) (v : Nat) (r : VerRec) : ReadFrame s (t.setVer v r) := h.trans ⟨rfl⟩
theorem ReadFrame.event (h : ReadFrame s t) (kind status subject detail detail2 : Nat) : ReadFrame s (t.event kind status subject detail detail2) :=
  h.trans ((Noise.refl t).event ..).readFrame
theorem ReadFrame.setWing (h : ReadFrame s t) (w : Wing) (x : WingSt) : ReadFrame s (t.setWing w x) := h.trans ⟨rfl⟩
theorem ReadFrame.setFab (h : ReadFrame s t) (x : Fabric) : ReadFrame s { t with fab := x } := h.trans ⟨rfl⟩
theorem ReadFrame.setCheck (h : ReadFrame s t) (b c : Sparse Bool) : ReadFrame s { t with mem := { t.mem with libBad := b, libCorr := c } } := h.trans ⟨rfl⟩
theorem ReadFrame.setCtx (h : ReadFrame s t) (k : Nat) (c : Ctx) : ReadFrame s (t.setCtx k c) := h.trans ⟨rfl⟩
theorem ReadFrame.modCtx (h : ReadFrame s t) (k : Nat) (f : Ctx → Ctx) : ReadFrame s (t.modCtx k f) := h.trans ⟨rfl⟩
theorem ReadFrame.carry (h : ReadFrame s t) (a b : LinkEnd) (ch n : Nat) : ReadFrame s (t.carry a b ch n) := by
  unfold State.carry; split
  · exact h
  · exact h.trans ⟨rfl⟩
theorem ReadFrame.foldl {β : Type} (f : State → β → State) (hf : ∀ (u : State) (b : β), ReadFrame s u → ReadFrame s (f u b)) (l : List β) (h : ReadFrame s t) :
    ReadFrame s (l.foldl f t) := by
  induction l generalizing t with
  | nil => exact h
  | cons b l ih => exact ih (hf t b h)
theorem ReadFrame.carryT1 (h : ReadFrame s t) (e : LinkEnd) (w : Bool) (cls a n : Nat) : ReadFrame s (t.carryT1 e w cls a n) :=
  ReadFrame.foldl _ (fun u b hu => by dsimp only; split <;> exact hu.carry ..) _ h
theorem ReadFrame.noteUe (h : ReadFrame s t) (k : Fin 32) : ReadFrame s (t.noteUe k) := by
  unfold State.noteUe
  extract_lets ts u lim
  have hu : ReadFrame s u := h.modStack ..
  split
  · exact hu.trans ⟨rfl⟩
  · exact hu

end

theorem readFrame_poisonChunk (s : State) (r : ImageRef) (c : Nat) : ReadFrame s (s.poisonChunk r c) := by
  unfold State.poisonChunk
  extract_lets u
  have hu : ReadFrame s u := (ReadFrame.refl s).bump ..
  split
  · exact .refl s
  · cases r
    · exact (hu.setSlot ..).event ..
    · exact (hu.setVer ..).event ..

theorem readFrame_reportChunk (s : State) (x : Nat) : ReadFrame s (s.reportChunk x) := by
  unfold State.reportChunk
  split
  · exact .refl s
  · split
    · exact readFrame_poisonChunk ..
    · exact .refl s

theorem readFrame_noteBad (s : State) (x : Nat) : ReadFrame s (s.noteBad x) := (((ReadFrame.refl s).bump ..).setReg ..).noteUe _

theorem readFrame_issue (s : State) (cls x : Nat) : ReadFrame s (s.issue cls x) := by
  unfold State.issue
  extract_lets k u
  have h : ReadFrame s u := by
    show ReadFrame s (if _ then _ else _)
    split
    · exact (ReadFrame.refl s).modStack ..
    · exact .refl s
  split
  · exact (h.modStack ..).bump ..
  · split <;> exact (h.modStack ..).bump ..

/-- One sector. -/
theorem readFrame_readSector (s : State) (cls x : Nat) : ReadFrame s (s.readSector cls x).2 := by
  unfold State.readSector
  extract_lets u
  have hu : ReadFrame s u := readFrame_issue s cls x
  split
  · exact (hu.trans (readFrame_noteBad u x)).trans (readFrame_reportChunk _ x)
  · split
    · exact hu.bump ..
    · exact hu

theorem readFrame_readSectors (s : State) (cls : Nat) (l : List Nat) : ReadFrame s (s.readSectors cls l).2 := by
  induction l generalizing s with
  | nil => exact .refl s
  | cons x xs ih => exact (readFrame_readSector s cls x).trans (ih _)

/-- A read of T1. -/
theorem readFrame_hbmRead (s : State) (cls a n : Nat) : ReadFrame s (s.hbmRead cls a n).2.2 := readFrame_readSectors s cls _

/-! ### Through the cache -/

theorem readFrame_keepHint (s : State) (w : Wing) (c : CacheSet) (hint : Nat) (has : Bool) : ReadFrame s (s.keepHint w c hint has).2 := by
  unfold State.keepHint
  split
  · exact (ReadFrame.refl s).bump ..
  · exact .refl s

theorem readFrame_fillWay (s : State) (w : Wing) (x i : Nat) (c : CacheSet) (l : CacheLine) : ReadFrame s (s.fillWay w x i c l) := by
  unfold State.fillWay
  extract_lets u xs
  have hu : ReadFrame s u := (ReadFrame.refl s).setWing ..
  exact hu.trans ⟨rfl⟩

theorem readFrame_cacheAbsent (s : State) (w : Wing) (write : Bool) (hint ways sec : Nat) (ok : Bool) :
    ReadFrame s (s.cacheAbsent w write hint ways sec ok) := by
  unfold State.cacheAbsent
  extract_lets x c
  have h := readFrame_keepHint s w c hint false
  revert h
  rcases s.keepHint w c hint false with ⟨hint, u⟩
  intro h
  dsimp only
  have h2 : ReadFrame s (if write = true then u else u.bump (Off.libMisses w) 1) := by
    split
    · exact h
    · exact h.bump ..
  split
  · exact h2
  · split
    · exact h2
    · exact h2.trans (readFrame_fillWay ..)

theorem readFrame_cachePresent (s : State) (w : Wing) (write : Bool) (hint sec i : Nat) (l : CacheLine) (ok : Bool) :
    ReadFrame s (s.cachePresent w write hint sec i l ok) := by
  unfold State.cachePresent
  extract_lets x c
  have h := readFrame_keepHint s w c hint l.keep
  revert h
  rcases s.keepHint w c hint l.keep with ⟨hint, u⟩
  intro h
  dsimp only
  have h2 : ReadFrame s (if write = true then u else if bit l.valid.toNat (sec % 32) = true then u.bump (Off.libHits w) 1 else u.bump (Off.libMisses w) 1) := by
    split
    · exact h
    · split <;> exact h.bump ..
  split
  · exact h2.setWing ..
  · split
    · exact ReadFrame.setCheck (h2.setWing ..) _ _
    · exact h2.setWing ..

theorem readFrame_cacheRefetch (s : State) (w : Wing) (x i j : Nat) : ReadFrame s (s.cacheRefetch w x i j) := by
  unfold State.cacheRefetch
  extract_lets k u v
  have hu : ReadFrame s u := (ReadFrame.refl s).setWing ..
  have hv : ReadFrame s v := (hu.bump _ _).bump _ _
  exact hv.setReg _ _

/-- An access to a line of a cache. -/
theorem readFrame_cacheAccess (s : State) (w : Wing) (write : Bool) (hint ways sec : Nat) (ok : Bool) :
    ReadFrame s (s.cacheAccess w write hint ways sec ok) := by
  unfold State.cacheAccess
  extract_lets sets x
  split
  · split
    · exact .refl s
    · exact (ReadFrame.refl s).bump ..
  · split
    · exact readFrame_cacheAbsent ..
    · rename_i i l _
      split
      · exact (readFrame_cacheRefetch s w x i (sec % 32)).trans (readFrame_cacheAbsent ..)
      · dsimp only
        refine ReadFrame.trans ?_ (readFrame_cachePresent ..)
        split
        · exact (ReadFrame.refl s).bump ..
        · exact .refl s

theorem readFrame_cachedRead (s : State) (cls hint ways x : Nat) : ReadFrame s (s.cachedRead cls hint ways x).2 := by
  unfold State.cachedRead
  dsimp only
  refine ReadFrame.trans ?_ (readFrame_cacheAccess ..)
  split
  · exact .refl s
  · exact readFrame_readSector ..

theorem readFrame_cachedReads (s : State) (cls hint ways : Nat) (l : List Nat) : ReadFrame s (s.cachedReads cls hint ways l).2 := by
  induction l generalizing s with
  | nil => exact .refl s
  | cons x xs ih => exact (readFrame_cachedRead s cls hint ways x).trans (ih _)

/-- A read of T1 for a tenant. -/
theorem readFrame_t1Read (s : State) (cls hint : Nat) (tenant : Option Nat) (a n : Nat) : ReadFrame s (s.t1Read cls hint tenant a n).2.2 :=
  ((ReadFrame.refl s).carryT1 .office false cls a n).trans (readFrame_cachedReads ..)

/-! ### Over the fabric -/

section
variable {s t : State}

theorem ReadFrame.wireOut (h : ReadFrame s t) (f : WireFrame) : ReadFrame s (t.wireOut f) := (h.setFab _).bump ..

theorem ReadFrame.toPort (h : ReadFrame s t) (n : Nat) (f : WireFrame) : ReadFrame s (t.toPort n f) := by
  unfold State.toPort
  split
  · exact h.setFab _
  · exact h.wireOut f

theorem ReadFrame.noteInjection (h : ReadFrame s t) (k n : Nat) : ReadFrame s (t.noteInjection k n) := by
  unfold State.noteInjection
  dsimp only
  split
  · exact h
  · split
    · exact (h.modCtx ..).bump ..
    · exact ((h.modCtx ..).bump ..).event ..

theorem ReadFrame.freeBehind (k j m : Nat) (h : ReadFrame s t) : ReadFrame s (State.freeBehind k j t m) := by
  induction j generalizing t m with
  | zero => exact h
  | succ j ih =>
    unfold State.freeBehind
    dsimp only
    split
    · exact h
    · exact ih _ (ReadFrame.foldl _ (fun v f hv => hv.toPort ..) _ (h.modCtx ..))

theorem ReadFrame.sendOut (h : ReadFrame s t) (k n : Nat) (fs : List WireFrame) : ReadFrame s (t.sendOut k n fs) := by
  unfold State.sendOut
  dsimp only
  refine ReadFrame.freeBehind k _ n ?_
  split
  · exact h
  · exact ReadFrame.foldl _ (fun v f hv => hv.toPort ..) _ h

theorem ReadFrame.emitFrame (h : ReadFrame s t) (k : Nat) (f : WireFrame) : ReadFrame s (t.emitFrame k f) := by
  unfold State.emitFrame
  extract_lets c i u fs
  split
  · exact h
  · have hu : ReadFrame s u := (h.modCtx ..).noteInjection ..
    split
    · exact hu.sendOut ..
    · split
      · exact hu.modCtx ..
      · split
        · exact hu.modCtx ..
        · exact hu.sendOut ..

theorem ReadFrame.pumpTx (k n : Nat) (h : ReadFrame s t) : ReadFrame s (State.pumpTx k n t) := by
  induction n generalizing t with
  | zero => exact h
  | succ n ih =>
    unfold State.pumpTx
    split
    · exact h
    · split
      · exact ih ((h.setCtx ..).emitFrame ..)
      · exact h

theorem ReadFrame.sendSegs (h : ReadFrame s t) (k : Nat) (gs : List Seg4) : ReadFrame s (t.sendSegs k gs) := by
  unfold State.sendSegs
  split
  · exact h
  · exact (h.modCtx ..).pumpTx ..

end

/-! ### For an operation -/

theorem readFrame_readPiece (s : State) (q : Requester) (x : Ext) (a n : Nat) : ReadFrame s (s.readPiece q x a n).2.2 := by
  unfold State.readPiece
  split
  · exact readFrame_t1Read ..
  · exact .refl s
  · exact ((ReadFrame.refl s).modCtx ..).sendSegs ..
  · exact .refl s

theorem readFrame_readPieces (s : State) (q : Requester) (x : Ext) (l : List (Nat × Nat)) : ReadFrame s (s.readPieces q x l).2.2 := by
  induction l generalizing s with
  | nil => exact .refl s
  | cons p ps ih => exact (readFrame_readPiece s q x p.1 p.2).trans (ih _)

/-- A read for an operation. -/
theorem readFrame_outRead (s : State) (q : Requester) (x : Ext) (a n : Nat) : ReadFrame s (s.outRead q x a n).2.2 := by
  unfold State.outRead
  dsimp only
  split
  · exact .refl s
  · exact readFrame_readPieces s q x _

/-- A read of a source of a security operation leaves keys, flash and counters. -/
theorem srcRead_sec (s : State) (d : Desc) (x : Ext) (a n : Nat) : (s.srcRead d x a n).2.2.sec = s.sec :=
  (readFrame_outRead (s.absorb x) (.office (s.tenantOf d)) x a n).fields.2.2.2.2.2.1

end Sys2Proof
end

