-- ==== Sys2Proof/Laws/Memories.lean ====
section
/-! SUPPORT. The operations on the byte memories: each keeps the canonical form of the memory it writes, a read after a write gives what was written, and every
other address what it held (R165, R174, R192, R195, R202, R408). -/

namespace Sys2Proof

open Sys2Proof.Machine

/-! ### Any memory -/

/-- Leaving entries out keeps the canonical form. -/
theorem Sparse.wf_filter {d : Nat → α} {m : Sparse α} (p : Nat × α → Bool) (h : Sparse.wf d m) : Sparse.wf d (m.filter p) :=
  ⟨h.1.filter p, fun e he => h.2 e (List.mem_filter.1 he).1⟩

/-- Single bytes written one after another keep the canonical form. -/
theorem Memory.wf_writes {α : Type} (key : α → Nat) (val : α → Byte) (l : List α) {m : Memory} (h : Memory.wf m) :
    Memory.wf (l.foldl (fun m e => Memory.write m (key e) (val e)) m) := by
  induction l generalizing m with
  | nil => exact h
  | cons e l ih => exact ih (Memory.wf_write _ _ h)

/-! ### HBM (R192, R195, R202) -/

/-- The bytes of HBM stand in their canonical form. -/
def HbmWf (m : MemSys) : Prop := Sparse.wf m.hbmUnlisted m.hbm

/-- What an unlisted byte reads as depends on the eras alone. -/
theorem hbmUnlisted_congr {m n : MemSys} (h : n.eras = m.eras) : n.hbmUnlisted = m.hbmUnlisted := by
  funext a; simp only [MemSys.hbmUnlisted, h]

/-- A store changes the bytes of HBM alone. -/
theorem hbmStore_rest (m : MemSys) (a : Nat) (bs : List Byte) : { m.hbmStore a bs with hbm := m.hbm } = m := by
  induction bs generalizing m a with
  | nil => rfl
  | cons b bs ih =>
    have h := ih { m with hbm := Sparse.set m.hbmUnlisted m.hbm a b } (a + 1)
    exact congrArg (fun x : MemSys => { x with hbm := m.hbm }) h

theorem hbmStore_eras (m : MemSys) (a : Nat) (bs : List Byte) : (m.hbmStore a bs).eras = m.eras := by
  conv => rhs; rw [← hbmStore_rest m a bs]

/-- A store keeps the canonical form. -/
theorem hbmWf_store {m : MemSys} (a : Nat) (bs : List Byte) (h : HbmWf m) : HbmWf (m.hbmStore a bs) := by
  induction bs generalizing m a with
  | nil => exact h
  | cons b bs ih => exact ih (m := { m with hbm := Sparse.set m.hbmUnlisted m.hbm a b }) (a + 1) (Sparse.wf_set a b h)

/-- After a store, an address inside holds its byte and every other address what it held. -/
theorem hbmAt_store (m : MemSys) (a : Nat) (bs : List Byte) (b : Nat) :
    (m.hbmStore a bs).hbmAt b = if a ≤ b ∧ b < a + bs.length then bs.getD (b - a) 0 else m.hbmAt b := by
  induction bs generalizing m a with
  | nil => simp only [MemSys.hbmStore, List.length_nil, Nat.add_zero]; exact (if_neg (by omega)).symm
  | cons v bs ih =>
    have hset : ({ m with hbm := Sparse.set m.hbmUnlisted m.hbm a v } : MemSys).hbmAt b = if b = a then v else m.hbmAt b :=
      Sparse.get_set m.hbmUnlisted m.hbm a b v
    simp only [MemSys.hbmStore, ih, hset, List.length_cons]
    by_cases h : b = a
    · subst h
      rw [if_neg (by omega), if_pos rfl, if_pos (by omega)]
      simp
    · by_cases h2 : a + 1 ≤ b ∧ b < a + 1 + bs.length
      · rw [if_pos h2, if_pos (by omega)]
        have : b - a = (b - (a + 1)) + 1 := by omega
        rw [this]; simp
      · rw [if_neg h2, if_neg h, if_neg (by omega)]

/-- `t` is `s` but for what a write of HBM may change: its bytes and marks, and what its read halves note (`ReadFrame`). -/
structure WriteFrame (s t : State) : Prop where
  rest : { t with regs := s.regs, hif := s.hif, err := s.err, mdl := s.mdl, wings := s.wings, fab := s.fab,
                  mem := { t.mem with hbmStacks := s.mem.hbmStacks, host := s.mem.host, links := s.mem.links, libBad := s.mem.libBad, libCorr := s.mem.libCorr,
                                      hbm := s.mem.hbm, hbmPoison := s.mem.hbmPoison,
                                      hbmBad := s.mem.hbmBad, hbmCorr := s.mem.hbmCorr } } = s
  wf : HbmWf s.mem → HbmWf t.mem

theorem WriteFrame.refl (s : State) : WriteFrame s s := ⟨rfl, id⟩

theorem WriteFrame.trans {s t u : State} (h : WriteFrame s t) (g : WriteFrame t u) : WriteFrame s u := by
  obtain ⟨h, hw⟩ := h; obtain ⟨g, gw⟩ := g
  exact ⟨by rw [← h, ← g], gw ∘ hw⟩

theorem ReadFrame.writeFrame {s t : State} (h : ReadFrame s t) : WriteFrame s t := by
  refine ⟨?_, fun w => ?_⟩
  · have h := h.rest
    rw [← h]
  · have he : t.mem.eras = s.mem.eras := by conv => rhs; rw [← h.rest]
    have hb : t.mem.hbm = s.mem.hbm := by conv => rhs; rw [← h.rest]
    unfold HbmWf
    rw [hbmUnlisted_congr he, hb]
    exact w

/-- A store of bytes, whatever has been noted before. -/
theorem WriteFrame.store {s t : State} (h : WriteFrame s t) (a : Nat) (bs : List Byte) : WriteFrame s { t with mem := t.mem.hbmStore a bs } := by
  refine h.trans ⟨?_, hbmWf_store a bs⟩
  have := hbmStore_rest t.mem a bs
  show ({ t with mem := { ({ t.mem.hbmStore a bs with hbm := t.mem.hbm } : MemSys) with
    hbmStacks := t.mem.hbmStacks, host := t.mem.host, links := t.mem.links, libBad := t.mem.libBad, libCorr := t.mem.libCorr,
    hbmPoison := t.mem.hbmPoison, hbmBad := t.mem.hbmBad, hbmCorr := t.mem.hbmCorr } } : State) = t
  rw [this]

theorem writeFrame_writeSector (s : State) (cls a : Nat) (part : List Byte) (x : Nat) : WriteFrame s (s.writeSector cls a part x).2 := by
  unfold State.writeSector
  split
  · have h : WriteFrame (s.issue cls x) ((s.issue cls x).freshSector x) := ⟨rfl, id⟩
    exact ((readFrame_issue s cls x).writeFrame.trans h).store a part
  · have h := readFrame_readSector s cls x
    revert h
    rcases s.readSector cls x with ⟨bad, u⟩
    intro h
    show WriteFrame s (if bad then (true, u) else
      (false, { ((u.issue cls x).freshSector x) with mem := ((u.issue cls x).freshSector x).mem.hbmStore a part })).2
    split
    · exact h.writeFrame
    · have g : WriteFrame (u.issue cls x) ((u.issue cls x).freshSector x) := ⟨rfl, id⟩
      exact WriteFrame.store ((h.writeFrame.trans (readFrame_issue u cls x).writeFrame).trans g) a part

theorem writeFrame_writeSectors (s : State) (cls a : Nat) (bs : List Byte) (l : List Nat) : WriteFrame s (s.writeSectors cls a bs l).2 := by
  induction l generalizing s a bs with
  | nil => exact .refl s
  | cons x xs ih => exact (writeFrame_writeSector s cls a _ x).trans (ih ..)

/-- A write of HBM changes only what `WriteFrame` names, and keeps the canonical form. -/
theorem writeFrame_hbmWrite (s : State) (cls a : Nat) (bs : List Byte) : WriteFrame s (s.hbmWrite cls a bs).2 := writeFrame_writeSectors ..

/-- A write of T1 through the cache. -/
theorem writeFrame_t1Write (s : State) (cls hint : Nat) (tenant : Option Nat) (a : Nat) (bs : List Byte) : WriteFrame s (s.t1Write cls hint tenant a bs).2 := by
  have h : WriteFrame s ((s.carryT1 .office true cls a bs.length).hbmWrite cls a bs).2 :=
    (((ReadFrame.refl s).carryT1 .office true cls a bs.length).writeFrame).trans (writeFrame_hbmWrite ..)
  refine h.trans (ReadFrame.writeFrame ?_)
  exact ReadFrame.foldl _ (fun u x hu => hu.trans (readFrame_cacheAccess ..)) _ (.refl _)

theorem writeFrame_foPut (s : State) (a : Nat) (bs : List Byte) : WriteFrame s (s.foPut a bs) := writeFrame_t1Write ..

/-- A change of MEM_INTERLEAVE keeps the canonical form: the regions whose unlisted bytes become free list nothing (R195). -/
theorem hbmWf_interleave (s : State) (old new : Nat) (h : HbmWf s.mem) : HbmWf (s.applyInterleave old new).mem := by
  have hc : ∀ (l : List Wing) (s : State), (l.foldl (fun s w => s.cacheClear w) s).mem = s.mem := by
    intro l
    induction l with
    | nil => intro s; rfl
    | cons w l ih => intro s; exact ih _
  have he : ∀ (l : List Nat) (m : Sparse Nat) (q : Nat), q ∉ l →
      Sparse.get (fun _ => 0) (l.foldl (fun m q => Sparse.set (fun _ => 0) m q (Sparse.get (fun _ => 0) m q + 1)) m) q = Sparse.get (fun _ => 0) m q := by
    intro l
    induction l with
    | nil => intro m q _; rfl
    | cons x l ih =>
      intro m q hq
      rw [List.foldl_cons, ih _ _ (fun h => hq (List.mem_cons_of_mem _ h)), Sparse.get_set_other _ _ _ (fun e => hq (by rw [e]; exact List.mem_cons_self))]
  unfold State.applyInterleave
  extract_lets u changed gone eras
  have hu : u.mem = s.mem := hc _ s
  refine ⟨(by rw [hu]; exact h.1.filter _), fun e hm => ?_⟩
  obtain ⟨hin, hg⟩ := List.mem_filter.1 hm
  have hg : e.1 / 2 ^ 35 ∉ regionsOf changed := by simpa [gone] using hg
  have := h.2 e (by rw [← hu]; exact hin)
  show e.2 ≠ ({ u.mem with hbm := u.mem.hbm.filter _, eras := eras } : MemSys).hbmUnlisted e.1
  simp only [MemSys.hbmUnlisted] at this ⊢
  rw [show Sparse.get (fun _ => 0) eras (e.1 / 2 ^ 35) = Sparse.get (fun _ => 0) s.mem.eras (e.1 / 2 ^ 35) from (he _ _ _ hg).trans (by rw [hu])]
  exact this

/-! ### The Library (R174, R175) -/

/-- A write of the Library keeps its canonical form. -/
theorem libWf_write {s : State} (w : Wing) (o : Nat) (bs : List Byte) (h : Memory.wf s.mem.lib) : Memory.wf (s.libWrite w o bs).mem.lib :=
  Memory.wf_writeN _ bs h

/-- After a write, the written offsets hold the bytes, and all others what they held. -/
theorem libRead_write (s : State) (w : Wing) (o : Nat) (bs : List Byte) (a : Nat) :
    Memory.read (s.libWrite w o bs).mem.lib a =
      if libKey w o ≤ a ∧ a < libKey w o + bs.length then bs.getD (a - libKey w o) 0 else Memory.read s.mem.lib a := Memory.read_writeN ..

/-- A new split keeps it. -/
theorem libWf_split {s : State} (w : Wing) (old new : Nat) (h : Memory.wf s.mem.lib) : Memory.wf (s.applySplit w old new).mem.lib := Sparse.wf_filter _ h

/-! ### The Slates (R158, R165) -/

/-- A store keeps the canonical form. -/
theorem slateWf_store {r : Classroom} (a : Nat) (bs : List Byte) (h : Memory.wf r.slate) : Memory.wf (r.slateStore a bs).slate :=
  Memory.wf_writes (fun e : Nat × Byte => (a + e.1) % slateSize) (fun e => e.2) _ h

/-! ### The flash (R408) -/

/-- A write of the flash keeps its canonical form, and so does an erasure. -/
theorem flashWf_put {s : State} (o : Nat) (bs : List Byte) (h : Memory.wf s.sec.flash) : Memory.wf (s.flashPut o bs).sec.flash := Memory.wf_writeN _ bs h

theorem flashWf_erase {s : State} (o n : Nat) (h : Memory.wf s.sec.flash) : Memory.wf (s.flashErase o n).sec.flash := Sparse.wf_filter _ h

/-- After a write, the written offsets hold the bytes, and all others what they held. -/
theorem flashRead_put (s : State) (o : Nat) (bs : List Byte) (a : Nat) :
    Memory.read (s.flashPut o bs).sec.flash a = if o ≤ a ∧ a < o + bs.length then bs.getD (a - o) 0 else Memory.read s.sec.flash a := Memory.read_writeN ..

/-! ### Memory outside the module -/

/-- A write to the host keeps the canonical form, done at once or made to wait. -/
theorem hostWf_write {s : State} (a : Nat) (bs : List Byte) (h : Memory.wf s.mem.host) : Memory.wf (s.hostWrite a bs).mem.host := by
  unfold State.hostWrite
  split
  · exact Memory.wf_writeN a bs h
  · exact h

/-- What an operation's reads from outside bring in keeps it, of host and of peer memory. -/
theorem outsideWf_absorb {s : State} (x : Ext) (h : Memory.wf s.mem.host ∧ Memory.wf s.mem.peer) :
    Memory.wf (s.absorb x).mem.host ∧ Memory.wf (s.absorb x).mem.peer :=
  ⟨Memory.wf_writes (fun c : Host.Cell => c.1) (fun c => c.2) x.host h.1, Memory.wf_writes (fun c : Host.Cell => c.1) (fun c => c.2) x.peer h.2⟩

/-! ### Reset -/

@[simp] theorem State.unmask_msix (s : State) (v : Nat) : (s.unmask v).hif.msix = s.hif.msix := by
  show (if _ then _ else if _ then _ else _ : State).hif.msix = _
  split
  · rfl
  · split <;> rfl

/-- A byte written to BAR4 keeps the form of the MSI-X table (R304, R337). -/
theorem msixWf_put {s : State} (a : Nat) (b : Byte) (h : Memory.wf s.hif.msix) : Memory.wf (s.bar4Put a b).hif.msix := by
  have hw : Memory.wf (Memory.write s.hif.msix a b) := Memory.wf_write _ _ h
  unfold State.bar4Put
  split
  · exact h
  · show Memory.wf (if _ then _ else if _ then _ else _ : State).hif.msix
    split
    · exact hw
    · split
      · exact hw
      · rw [State.unmask_msix]; exact hw

/-- Every memory of the state after reset stands in its canonical form. -/
theorem memories_reset : HbmWf State.reset.mem ∧ Memory.wf State.reset.mem.lib ∧ Memory.wf State.reset.mem.host ∧ Memory.wf State.reset.mem.peer ∧
    Memory.wf State.reset.sec.flash ∧ Memory.wf State.reset.hif.msix ∧ ∀ k : Fin 32, Memory.wf (State.reset.room k).slate := by
  refine ⟨Sparse.wf_nil _, Sparse.wf_nil _, Sparse.wf_nil _, Sparse.wf_nil _, Sparse.wf_nil _, Sparse.wf_nil _, fun k => ?_⟩
  have : State.reset.room k = Classroom.reset := by
    show (Vector.replicate 32 Classroom.reset)[k] = _
    simp
  rw [this]
  exact Sparse.wf_nil _

end Sys2Proof
end

