-- ==== Sys2Proof/Laws/Units.lean ====
section
/-! SUPPORT. What the shared operations of one Classroom change: each is a `UnitFrame` of that Classroom, and what also reports to the host is one followed by
`Noise` (R132, R143, R155, R165, R183). -/

namespace Sys2Proof

open Sys2Proof.Machine

/-! ### Frames of one Classroom -/

/-- The Wing of a Classroom, by its index. -/
@[simp] theorem wingOf_idx (u : Cr) : wingOf u.idx = u.w := by
  obtain ⟨w, c⟩ := u
  apply Fin.ext
  show (8 * w.val + c.val) / 8 = w.val
  omega

theorem UnitFrame.refl (k : Fin 32) (s : State) : UnitFrame k s s := ⟨fun _ _ => rfl, fun _ _ => rfl, rfl, rfl⟩

theorem UnitFrame.trans {k : Fin 32} {s t u : State} (h : UnitFrame k s t) (g : UnitFrame k t u) : UnitFrame k s u := by
  refine ⟨fun j hj => (g.rooms j hj).trans (h.rooms j hj), fun w hw => (g.wings w hw).trans (h.wings w hw), g.cache.trans h.cache, ?_⟩
  have h := h.rest; have g := g.rest
  rw [← h, ← g]

section
variable {k : Fin 32} {s t : State}

theorem UnitFrame.setReg (h : UnitFrame k s t) (o : Nat) (v : Reg) : UnitFrame k s (t.setReg o v) :=
  h.trans ⟨fun _ _ => rfl, fun _ _ => rfl, rfl, rfl⟩

theorem UnitFrame.bump (h : UnitFrame k s t) (o n : Nat) : UnitFrame k s (t.bump o n) := h.setReg ..

theorem UnitFrame.modRoom (h : UnitFrame k s t) (f : Classroom → Classroom) : UnitFrame k s (t.modRoom k f) :=
  h.trans ⟨fun _ hj => State.room_modRoom_other t f hj, fun _ _ => rfl, rfl, rfl⟩

theorem UnitFrame.modSeq (h : UnitFrame k s t) {w : Wing} (hw : wingOf k = w) (f : Sequencer → Sequencer) : UnitFrame k s (t.modSeq w f) := by
  subst hw
  exact h.trans ⟨fun _ _ => rfl, fun _ hw => State.wing_setWing_other t _ hw, State.cache_modSeq t _ _ f, rfl⟩

/-- An error of the Classroom marks the pass of its Wing and the Classroom (R75, R462). -/
theorem UnitFrame.markErrorIn (h : UnitFrame k s t) : UnitFrame k s (t.markErrorIn k) := by
  refine UnitFrame.trans (UnitFrame.modSeq h (w := wingOf k) rfl (fun q => { q with error := true })) ?_
  exact ⟨fun _ _ => rfl, fun _ _ => rfl, rfl, rfl⟩

/-- What the Slate's words report when they are read (R183). -/
theorem UnitFrame.noteSlate (h : UnitFrame k s t) (req : Nat) (ws : List Nat) : UnitFrame k s (t.noteSlate k req ws) := by
  unfold State.noteSlate
  extract_lets r bad cor u
  have hu : UnitFrame k s u := by
    show UnitFrame k s (if cor = [] then t else t.bump _ _)
    split
    · exact h
    · exact h.bump ..
  split
  · exact hu
  · exact ((hu.bump ..).setReg ..).markErrorIn

/-- A read of the Slate (R158, R183). -/
theorem UnitFrame.slateRead (h : UnitFrame k s t) (req a n : Nat) : UnitFrame k s (t.slateRead k req a n).2 := h.noteSlate ..

/-- A write of the Slate (R165, R183). -/
theorem UnitFrame.slateWrite (h : UnitFrame k s t) (req a : Nat) (bs : List Byte) : UnitFrame k s (t.slateWrite k req a bs) := (h.noteSlate ..).modRoom _

/-- A request for the Hold, and its end (R143, R144, R146). -/
theorem UnitFrame.holdOn (h : UnitFrame k s t) {w : Wing} (hw : wingOf k = w) (n : Nat) (q : HoldReq) : UnitFrame k s (t.holdOn w n q) := by
  unfold State.holdOn
  extract_lets x u
  have hu : UnitFrame k s u := by
    show UnitFrame k s (if x.held then t else t.bump _ _)
    split
    · exact h
    · exact h.bump ..
  exact hu.modSeq hw _

theorem UnitFrame.holdOff (h : UnitFrame k s t) {w : Wing} (hw : wingOf k = w) (q : HoldReq) : UnitFrame k s (t.holdOff w q) := h.modSeq hw _

end

/-! ### Frames with a report -/

/-- A lesson fault marks its Wing and two registers, and reports (R155). -/
theorem frame_lessonFault {k : Fin 32} {w : Wing} (hw : wingOf k = w) (s : State) (ref : WordRef) (unit : Nat) (room : Option Room) (status detail2 : Nat) :
    ∃ t, UnitFrame k s t ∧ Noise t (s.lessonFault w ref unit room status detail2) := by
  refine ⟨_, ?_, (Noise.refl _).event ..⟩
  exact (((UnitFrame.refl k s).bump ..).setReg ..).modSeq hw _

/-- What a sent operation leaves when it is taken from the Sequencer's skid. -/
theorem frame_takeOp (s : State) (u : Cr) (unit : Nat) (o : SlotOp) : UnitFrame u.idx s (s.takeOp u unit o).2 := by
  unfold State.takeOp
  extract_lets q
  split
  · rename_i e _
    exact UnitFrame.modSeq (UnitFrame.refl u.idx s) (wingOf_idx u) (fun q => { q with sent := q.sent.erase e })
  · exact .refl _ s

/-- A dispatch changes its Classroom and the Sequencer of its Wing, and reports at most a lesson fault (R132, R137, R155). -/
theorem frame_dispatch (s : State) (u : Cr) (unit : Nat) (o : SlotOp) : ∃ t, UnitFrame u.idx s t ∧ Noise t (s.dispatch u unit o).2 := by
  have h := frame_takeOp s u unit o
  unfold State.dispatch
  revert h
  rcases s.takeOp u unit o with ⟨e, x⟩
  intro h
  rcases hi : x.issuer u unit e with ⟨ref, un⟩
  have hf : ∃ t, UnitFrame u.idx s t ∧ Noise t (x.lessonFault u.w ref un (some u.c) 0x11 0) := by
    obtain ⟨t, ht, hn⟩ := frame_lessonFault (wingOf_idx u) x ref un (some u.c) 0x11 0
    exact ⟨t, h.trans ht, hn⟩
  have hm : ∀ f, ∃ t, UnitFrame u.idx s t ∧ Noise t (x.modRoom u.idx f) := fun f => ⟨_, UnitFrame.modRoom h f, .refl _⟩
  simp only [hi]
  repeat' split
  all_goals first
    | exact hf
    | exact ⟨s, .refl _ s, .refl _⟩
    | (dsimp only; exact hm _)

/-- An operation that is dispatched leaves a state that differs from the one before as `UnitFrame` says. -/
theorem frame_accepted {s t : State} {u : Cr} {unit : Nat} {o : SlotOp} {x : WaitOp SlotOp} (h : s.dispatch u unit o = (some x, t)) : UnitFrame u.idx s t := by
  have ht := frame_takeOp s u unit o
  unfold State.dispatch at h
  revert h ht
  rcases s.takeOp u unit o with ⟨e, y⟩
  rcases hi : y.issuer u unit e with ⟨ref, un⟩
  intro h ht
  simp only [hi] at h
  repeat' split at h
  all_goals first
    | cases h; done
    | (injection h with _ h; subst h; exact UnitFrame.modRoom ht _)

/-! ### Completions -/

/-- The state in which a descriptor has been forgotten. -/
def forgot (s : State) (d : DescRef) : State :=
  { s with hif := { s.hif with fetched := s.hif.fetched.filter (fun f => !(f.desc.ring == d.ring && f.desc.index == d.index)) } }

/-- A completion forgets its descriptor and reports to the host: nothing else changes (R316, R325, R336). -/
theorem noise_complete (s : State) (d : DescRef) (status value0 value1 : Nat) : Noise (forgot s d) (s.complete d status value0 value1) := by
  have hw : ∀ a bs q r, Noise (forgot s d) (forgot ((s.hostWrite a bs).setOut q r) d) := by
    intro a bs q r
    unfold State.hostWrite
    split <;> exact ⟨rfl, fun _ _ _ => rfl, rfl⟩
  have he : ∀ (u : State) (q : Nat), Noise (forgot s d) u → Noise (forgot s d) (if u.hif.burst then u else u.endBurst q) := by
    intro u q h
    split
    · exact h
    · exact h.endBurst q
  exact he _ _ (hw _ _ _ _)

end Sys2Proof
end

