-- ==== Sys2Proof/WellFormed.lean ====
section
/-! DEFINITION. Which commands can occur: the operands that the spec's own ranges shut out. A command outside them still has a meaning (`exec` is
total); it names an event the hardware cannot see. -/

namespace Sys2Proof

open Sys2Proof.Machine

/-- Whether an access of `n` bytes at BAR0 offset `off` is one R9 allows to the register there. -/
def allowedAccess (off n : Nat) : Bool :=
  match regInfo (off / 8 * 8) with
  | none => false
  | some i =>
    let wide := match i.access with | .rc => true | .wo => true | .cm _ => true | _ => false
    (decide (n = 8) && decide (off % 8 = 0)) || (decide (n = 4) && decide (off % 4 = 0) && !wide)

/-- The opcodes of R326 and R423. -/
def opcodeDefined (c : Nat) : Bool :=
  decide (c ≤ 0x0C ∨ (0x10 ≤ c ∧ c ≤ 0x13) ∨ (0x18 ≤ c ∧ c ≤ 0x1A) ∨ (0x20 ≤ c ∧ c ≤ 0x27) ∨ (0x40 ≤ c ∧ c ≤ 0x48))

/-- Held cycles count under at least one cause each, and under each cause at most once (R146). -/
def HeldCycles.ok (h : HeldCycles) : Bool :=
  let l := [h.dataLate, h.expanderLate, h.bellWait, h.codebookBusy, h.narrowStarved]
  l.all (fun x => decide (x ≤ h.total)) && decide (h.total ≤ l.sum)

/-- A Corridor packet carries at most 4,096 payload bytes (R350). -/
def Packet.ok (p : Packet) : Bool := decide (p.payload.length ≤ 4096)

/-- An access to BAR4 is of 4 or 8 aligned bytes, as PCI Express asks of a table of this kind (PRESUMED, log entry 4). -/
def Bar4In.ok (a : Bar4In) : Bool :=
  let fits := fun (off n : Nat) => decide (n = 4 ∨ n = 8) && decide (off % n = 0)
  match a with | .read off n => fits off.toNat n | .write off bs => fits off.toNat bs.length

/-- Whether a command is well formed. -/
def Instr.wf : Instr → Bool
  | .registerAccessError off bytes _ => decide (1 ≤ bytes ∧ bytes ≤ 8) && !allowedAccess off.toNat bytes
  | .rcCounterRead r => allowedAccess r.off.toNat (if r.wide then 8 else 4)
  | .timetableResume _ h => h.ok
  | .bar2Read _ bytes => decide (1 ≤ bytes ∧ bytes ≤ 64)
  | .bar2Write _ data => decide (1 ≤ data.length ∧ data.length ≤ 64)
  | .hmPoll p => decide (p.l0p = 0 ∨ p.l0p = 1 ∨ p.l0p = 2 ∨ p.l0p = 4 ∨ p.l0p = 8)
  | .msixVectorUnmask a => a.ok
  | .msTick n => decide (1 ≤ n)
  | .undefinedOpcode _ opcode => !opcodeDefined opcode.toNat
  | .corridorWrite p => p.ok
  | .corridorReadReq p => p.ok
  | .corridorReadResp p => p.ok
  | .corridorAsm p => p.ok
  | .corridorAck p => p.ok
  | .corridorNak p => p.ok
  | .dawnBoot b => decide (1 ≤ b.link.speed.toNat ∧ b.link.speed.toNat ≤ 6)
  | .morningBringup m => decide (1 ≤ m.link.speed.toNat ∧ m.link.speed.toNat ≤ 6)
  | .droopRelease _ total clear => decide (clear ≤ total)
  | .moverTransferLand _ l => decide (l.pairs.toNat ≤ 256)
  | .flitResend _ n => decide (1 ≤ n ∧ n ≤ 16)
  | .tallyMessage m => decide (m.length = 48)
  | _ => true

end Sys2Proof
end

