-- ==== Sys2Proof/Tests/Slice0.lean ====
section
/-! SUPPORT. Tests of the model: ill-formed commands that WellFormed refuses, words that `decodeTableWord` reads, for every statement of
Obligations.lean states and operands that meet its hypotheses, and steps whose results the spec gives. -/

namespace Sys2Proof.Tests

open Sys2Proof Sys2Proof.Machine

-- One theorem at a time: checked all at once, they ask for more memory than the check allows.
set_option Elab.async false

/-- Classroom 0 of Wing 0, Classroom 7 of Wing 3, and Mover 1 of the first. -/
def u0 : Cr := ⟨0, 0⟩
def u31 : Cr := ⟨3, 7⟩
def m0 : MoverId := ⟨0, 0, true⟩

/-- The next state of an outcome, if there is one. -/
def nextOf (o : Host.Outcome State Fault Refusal) (s : State) : State := match o with | .next t => t | _ => s

/-- A module in Day whose host interface may issue requests. -/
def day : State :=
  { State.reset with
    pwr := { Power.reset with state := .day, ready := true, tested := true }
    hif := { State.reset.hif with bme := true } }

/-- Reset with Classroom 0 as `f` leaves it. -/
def withRoom (f : Classroom → Classroom) : State := State.reset.modRoom 0 f

/-- Reset with the Sequencer of Wing 0 as `f` leaves it. -/
def withSeq (f : Sequencer → Sequencer) : State := State.reset.modSeq 0 f

/-! ### The block and registers -/

theorem witness_EmptyQueueIdles : State.reset.pending = [] := rfl

theorem witness_ForbiddenAccessIsCounted :
    State.reset.bar0On = true ∧
    (touchesReg (BitVec.ofNat 24 Off.errRegAccess).toNat 4 = true ∧ accessOk (BitVec.ofNat 24 Off.errRegAccess).toNat 4 = false) ∧
    (touchesReg (BitVec.ofNat 24 (Off.hifCtrl + 6)).toNat 8 = true ∧ accessOk (BitVec.ofNat 24 (Off.hifCtrl + 6)).toNat 8 = false) ∧
    (touchesReg (BitVec.ofNat 24 (Off.glbCommit + 4)).toNat 4 = true ∧ accessOk (BitVec.ofNat 24 (Off.glbCommit + 4)).toNat 4 = false) := by decide

theorem hasInfo {o : Nat} {a : Access} (h : (regInfo o).map (fun i => i.access) = some a) : ∃ i, regInfo o = some i ∧ i.access = a := by
  cases hi : regInfo o with
  | none => rw [hi] at h; cases h
  | some i => rw [hi] at h; exact ⟨i, rfl, Option.some.inj h⟩

theorem witness_RegisterWriteByCode :
    State.reset.bar0On = true ∧
    (accessOk (BitVec.ofNat 24 (Off.srvPace + 4)).toNat 4 = true ∧ (∃ i, regInfo Off.srvPace = some i ∧ i.access = .rw) ∧ plainReg Off.srvPace = true) ∧
    (accessOk (BitVec.ofNat 24 Off.pwrState).toNat 4 = true ∧ (∃ i, regInfo Off.pwrState = some i ∧ i.access = .ro)) ∧
    (accessOk (BitVec.ofNat 24 Off.hmPolls).toNat 8 = true ∧ (∃ i, regInfo Off.hmPolls = some i ∧ i.access = .rc)) ∧
    (accessOk (BitVec.ofNat 24 Off.pwrLimit).toNat 8 = true ∧ (∃ i, regInfo Off.pwrLimit = some i ∧ i.access = .cm 0)) ∧
    marked State.reset.commits 0 = false :=
  ⟨rfl, ⟨by decide, hasInfo (by decide), by decide⟩, ⟨by decide, hasInfo (by decide)⟩, ⟨by decide, hasInfo (by decide)⟩, ⟨by decide, hasInfo (by decide)⟩, rfl⟩

theorem witness_RcReadClears :
    State.reset.bar0On = true ∧ (∃ i, regInfo (BitVec.ofNat 24 Off.hmPolls).toNat = some i ∧ i.access = .rc) ∧
    (accessOk (BitVec.ofNat 24 (Off.pwrState + 4)).toNat 4 = true ∧ ∃ i, regInfo ((BitVec.ofNat 24 (Off.pwrState + 4)).toNat / 8 * 8) = some i ∧ i.access = .ro) ∧
    (accessOk (BitVec.ofNat 24 Off.srvPace).toNat 8 = true ∧ ∃ i, regInfo ((BitVec.ofNat 24 Off.srvPace).toNat / 8 * 8) = some i ∧ i.access = .rw) :=
  ⟨rfl, hasInfo (by decide), ⟨by decide, hasInfo (by decide)⟩, ⟨by decide, hasInfo (by decide)⟩⟩

theorem witness_CommitGroups :
    State.reset.bar0On = true ∧ (0x107#64).toNat % 256 < 8 ∧ 8 ≤ (8#64).toNat % 256 ∧
    (marked ({ State.reset with commits := [(3, true)] } : State).commits (3#3).toNat = true ∧
      ({ State.reset with commits := [(3, true)] } : State).safePoint (3#3).toNat = true ∧ Quiet { State.reset with commits := [(3, true)] }) ∧
    (marked ({ State.reset with commits := [(7, true)] } : State).commits (7#3).toNat = true ∧
      ({ State.reset with commits := [(7, true)] } : State).safePoint (7#3).toNat = true ∧ Quiet { State.reset with commits := [(7, true)] }) ∧
    (accessOk (BitVec.ofNat 24 Off.pwrLimit).toNat 8 = true ∧ (∃ i, regInfo (Off.pwrLimit / 8 * 8) = some i ∧ i.access = .cm (0#3).toNat) ∧
      marked ({ State.reset with commits := [(0, true)] } : State).commits (0#3).toNat = true) ∧
    marked State.reset.commits (7#3).toNat = false ∧ (State.reset.setReg Off.fabCtrl 1).safePoint (3#3).toNat = false :=
  ⟨by decide, by decide, by decide, ⟨by decide, by decide, rfl, rfl⟩, ⟨by decide, by decide, rfl, rfl⟩, ⟨by decide, hasInfo (by decide), by decide⟩, by decide, by decide⟩

/-! ### The Array and the Expander -/

/-- A FEED with a swap, at the last Slate vector and the last token. -/
def feedSwap : FeedOp := { swap := true, count := 0, slate := 1535, token := 511, acc := true, groups := 1 }
/-- A plane with one Desk of weight +1 and no parity bits. -/
def onePlane : Plane := { desk := [(0, 1)], mode := .dense, p := 0, parity := [] }
def tileOp : ExpTileOp := { src := 0x5FFF, cb := 31, budget := 511 }
def planesOp : ExpPlanesOp := { src := 0, p := 7, g := 2, count := 63 }
def actOp : ExpActOp := { src := 0, dst := 0x2FFF, budget := 0 }
def bf16Op : ExpBf16Op := { src := 0, side := 0x5FFF, dst := 0, count := 15 }
def cbloadOp : ExpCbloadOp := { slot := 15, src := 0 }
/-- An item of `op` in a phase. -/
def itemOf (op : SlotOp) (p : ItemPhase) : ExpItem :=
  { op := op, ref := ⟨3, 4⟩, unit := 1, phase := p, hdr := [], r := 1, x := 8, faulted := false, zero := true, payload := [], tile := [],
    bytes := [], due := 100, held := false }
/-- Reset with the Expander of Classroom 0 as `f` leaves it. -/
def withEx (f : Expander → Expander) : State := State.reset.modEx 0 f
/-- Eight activation items, and three tiles, queued. -/
def fullQueue : State := withEx (fun e => { e with queue := List.replicate 8 (itemOf (.expAct actOp) .queued) })
def tilesQueue : State := withEx (fun e => { e with queue := List.replicate 3 (itemOf (.expTile { tileOp with cb := 15 }) .queued) })

theorem witness_FeedUpdatesScoreboard :
    (Accepts State.reset u0 0 (.feed feedSwap) ∧ arrayQuiet (State.reset.room u0.idx) ∧ ¬ swapMustWait State.reset u0 feedSwap ∧
      (State.reset.takeOp u0 0 (.feed feedSwap)).1 = none) ∧
    (let o := { feedSwap with swap := false }
     let s := State.reset.modSeq 3 (fun q => { q with sent := [{ item := .op 7 0 (.feed o), ref := ⟨3, 4⟩, unit := 63, t := 9, frames := [] }] })
     Accepts s u31 0 (.feed o) ∧ arrayQuiet (s.room u31.idx) ∧ o.swap = false ∧ (s.takeOp u31 0 (.feed o)).1.isSome = true ∧ s.opCycle u31 0 (.feed o) ≤ 14 ∧
       feedUpdatesBefore (s.room u31.idx) (frontFor (s.room u31.idx) o.swap) o (s.opCycle u31 0 (.feed o)) 14 ≠ [] ∧
       feedUpdatesBefore (s.room u31.idx) (frontFor (s.room u31.idx) o.swap) o (s.opCycle u31 0 (.feed o)) 13 = []) := by
  unfold Accepts arrayQuiet swapMustWait; decide +kernel

/-- A FEED dispatched in cycle 5 whose swap has still to take effect, one vector of it read; and a Classroom that holds it, with `n` loads in progress. -/
def swapRun (sent : Bool) : FeedRun := { op := feedSwap, d := 5, next := 1, raw := [List.replicate 512 0], swap := true, sent := sent }
def withLoad (sent : Bool) (n : Nat) : State := withRoom (fun r => { r with feeds := [swapRun sent], loads := n })

theorem witness_PlaneSwapAndParity :
    (let s := withRoom (fun r => { r with loads := 1 })
     Accepts s u0 0 (.feed feedSwap) ∧ arrayQuiet (s.room u0.idx) ∧ feedSwap.swap = true ∧ swapMustWait s u0 feedSwap) ∧
    (let s := withSeq (fun q => { q with sent := [{ item := .op 0 1 (.expLoad { mode := 1, p := 0, selbuf := true }), ref := ⟨3, 4⟩, unit := 1, t := 0, frames := [] }] })
     Accepts s u0 0 (.feed feedSwap) ∧ arrayQuiet (s.room u0.idx) ∧ swapMustWait s u0 feedSwap) ∧
    ((withLoad true 1).room u0.idx).swapFeed = some (swapRun true) ∧ ((withLoad true 1).seq u0.w).held = false ∧ 0 < ((withLoad true 1).room u0.idx).loads ∧
    (∀ c : Room, c ≠ u0.c → ((withLoad true 1).room (roomIndex u0.w c)).swapFeed = none) ∧ ((withLoad true 1).ex u0.idx).next = [] ∧
    (withLoad true 1).holding u0.w (swapHold u0.c) = false ∧ (swapRun true).d + 2 ≤ (7#32).toNat ∧ (6#32).toNat < (swapRun true).d + 2 ∧
    (∀ b : Bool, let s := withLoad b 0
     let f := swapRun b
     (s.room u0.idx).feeds = [f] ∧ f.swap = true ∧ (s.room u0.idx).pipe = [] ∧ (s.room u0.idx).drain = none ∧ s.swapReady u0 f = true ∧
       f.next ≤ f.op.count.toNat + 1 ∧
       f.raw = (List.range f.next).map (fun i =>
         (s.room u0.idx).slateBytes (512 * f.op.slate.toNat + (s.room u0.idx).back.vecBytes * i) (s.room u0.idx).back.vecBytes)) ∧
    ((State.reset.room u0.idx).swapFeed = none ∧ (withLoad true 1).swapReady u0 (swapRun true) = false) ∧
    ((((withSeq (fun q => { q with phase := .running })).modRoom 0 (fun r => { r with front := onePlane })).seq u0.w).phase ≠ .idle ∧
      (((withSeq (fun q => { q with phase := .running })).modRoom 0 (fun r => { r with front := onePlane })).room u0.idx).front.mismatches ≠ 0) ∧
    (State.reset.seq u0.w).phase = .idle ∧ (State.reset.room u0.idx).front.mismatches = 0 := by
  unfold Accepts arrayQuiet swapMustWait; decide +kernel

theorem witness_ExpanderQueuesItems :
    (∃ x, (State.reset.dispatch u0 1 (.expTile tileOp)).1 = some x) ∧ (∃ x, (State.reset.dispatch u0 1 (.expPlanes planesOp)).1 = some x) ∧
    (∃ x, (State.reset.dispatch u0 1 (.expAct actOp)).1 = some x) ∧ (∃ x, (State.reset.dispatch u0 1 (.expBf16 bf16Op)).1 = some x) ∧
    ((State.reset.ex u0.idx).queue.length < 8 ∧ (State.reset.ex u0.idx).waiting = []) ∧
    ((∃ x, (fullQueue.dispatch u0 1 (.expTile tileOp)).1 = some x) ∧ 8 ≤ (fullQueue.ex u0.idx).queue.length ∧ (fullQueue.ex u0.idx).stuck 1 = false) ∧
    (∀ x : WaitOp SlotOp, ((withEx (fun e => { e with waiting := [x] })).ex u0.idx).waiting = x :: [] ∧
      ((withEx (fun e => { e with waiting := [x] })).ex u0.idx).queue.length < 8) :=
  ⟨⟨_, rfl⟩, ⟨_, rfl⟩, ⟨_, rfl⟩, ⟨_, rfl⟩, by decide, ⟨⟨_, rfl⟩, by decide, by decide⟩, fun _ => ⟨rfl, (by decide : 0 < 8)⟩⟩

/-- The last of `n` queued tiles, due in cycle 6 whether the ones before it hold the Wing already or not. -/
def dueItem (n : Nat) : ExpItem := { itemOf (.expTile tileOp) .queued with due := 6, r := n }
def dueSoon (n : Nat) : State := withEx (fun e => { e with queue := List.replicate (n - 1) { dueItem n with held := true } ++ [dueItem n] })

theorem witness_ExpanderPhasesAndDueCycle :
    ((fullQueue.ex u0.idx).queue.findIdx? (fun j => j.phase == .queued) = some 0 ∧
      (fullQueue.ex u0.idx).queue[0]? = some (itemOf (.expAct actOp) .queued) ∧ (itemOf (.expAct actOp) .queued).faulted = false) ∧
    (let s := withEx (fun e => { e with queue := [itemOf (.expPlanes planesOp) .fetched] })
     (s.ex u0.idx).queue = itemOf (.expPlanes planesOp) .fetched :: [] ∧ (itemOf (.expPlanes planesOp) .fetched).phase = .fetched ∧
       0 < (s.room u0.idx).freeBuffers ∧ itemOutput (s.ex u0.idx) (itemOf (.expPlanes planesOp) .fetched) = some ([], [])) ∧
    (let v := (withEx (fun e => { e with queue := [itemOf (.expTile tileOp) .expanding] })).runTo u0.w (2#32).toNat
     (v.ex u0.idx).queue = itemOf (.expTile tileOp) .expanding :: [] ∧ (itemOf (.expTile tileOp) .expanding).phase = .expanding ∧
       needsBuffer (itemOf (.expTile tileOp) .expanding).op = true ∧ (v.ex u0.idx).waitLoad = none) ∧
    (let v := (withEx (fun e => { e with queue := [itemOf (.expAct actOp) .expanding] })).runTo u0.w (2#32).toNat
     (v.ex u0.idx).queue = itemOf (.expAct actOp) .expanding :: [] ∧ (itemOf (.expAct actOp) .expanding).bytes.length ≤ slateSize ∧
       (v.ex u0.idx).waitLoad = none) ∧
    ((dueSoon 1).ex u0.idx).queue.findIdx? (fun j => !j.held) = some 0 ∧ ((dueSoon 1).ex u0.idx).queue[0]? = some (dueItem 1) ∧
    (((dueSoon 1).runTo u0.w ((dueItem 1).due - 4)).ex u0.idx).stuck (0 + 1) = false ∧
    ((dueSoon 3).ex u0.idx).queue.findIdx? (fun j => !j.held) = some 2 ∧ ((dueSoon 3).ex u0.idx).queue[2]? = some (dueItem 3) ∧
    (((dueSoon 3).runTo u0.w ((dueItem 3).due - 4)).ex u0.idx).stuck (2 + 1) = true ∧
    (wingQuiet State.reset 0 ∧ (State.reset.seq 0).held = false) := by unfold wingQuiet arrayQuiet; decide +kernel

/-- An EXP_LOAD whose word a period word of cycle 9 has sent, with a full decode buffer and the swap of cycle 5 still to be judged. -/
def expLoadOp : ExpLoadOp := { mode := 1, p := 0, selbuf := true }
def loadSent (n : Nat) : State :=
  ((withLoad true n).modEx 0 (fun e => { e with full := [[(5, 1)], []] })).modSeq 0 (fun q =>
    { q with sent := [{ item := .op 0 1 (.expLoad expLoadOp), ref := ⟨3, 4⟩, unit := 1, t := 9, frames := [] }] })

theorem witness_ExpLoadWritesBackPlane :
    (let s := withEx (fun e => { e with full := [[(5, 1)], []] })
     Accepts s u0 1 (.expLoad expLoadOp) ∧ (s.ex u0.idx).full = [(5, 1)] :: [[]] ∧ (s.ex u0.idx).next = [] ∧ (s.room u0.idx).swapFeed = none) ∧
    (Accepts (loadSent 1) u0 1 (.expLoad expLoadOp) ∧ ((loadSent 1).ex u0.idx).next.length < ((loadSent 1).ex u0.idx).full.length ∧
      ((loadSent 1).room u0.idx).swapFeed = some (swapRun true) ∧ (swapRun true).d < (loadSent 1).opCycle u0 1 (.expLoad expLoadOp) ∧
      (loadSent 1).holding u0.w (swapHold u0.c) = false ∧ 0 < ((loadSent 1).room u0.idx).loads) ∧
    (Accepts tilesQueue u0 1 (.expLoad expLoadOp) ∧ (tilesQueue.ex u0.idx).full = [] ∧ (tilesQueue.ex u0.idx).queue.any (fun i => needsBuffer i.op) = true) ∧
    ((State.reset.dispatch u0 1 (.expLoad { mode := 2, p := 8, selbuf := false })).1.isSome = true ∧ (State.reset.ex u0.idx).full = [] ∧
      (State.reset.ex u0.idx).queue.any (fun i => needsBuffer i.op) = false) := by
  unfold Accepts; decide +kernel

theorem witness_CodebookLoadsAndLocPack :
    (Accepts State.reset u0 1 (.expCbload cbloadOp) ∧ (State.reset.ex u0.idx).uses cbloadOp.slot.toNat = 0) ∧
    (Accepts (withEx (fun e => { e with queue := [itemOf (.expTile { tileOp with cb := 15 }) .queued] })) u0 1 (.expCbload cbloadOp) ∧
      0 < ((withEx (fun e => { e with queue := [itemOf (.expTile { tileOp with cb := 15 }) .queued] })).ex u0.idx).uses cbloadOp.slot.toNat ∧
      ((withEx (fun e => { e with queue := [itemOf (.expTile { tileOp with cb := 15 }) .queued] })).ex u0.idx).stuck
        (((withEx (fun e => { e with queue := [itemOf (.expTile { tileOp with cb := 15 }) .queued] })).ex u0.idx).lastUse cbloadOp.slot.toNat) = false) ∧
    (∀ x : WaitOp ExpCbloadOp, ((withEx (fun e => { e with cbLoad := some x })).ex u0.idx).cbLoad = some x ∧
      ((withEx (fun e => { e with cbLoad := some x })).ex u0.idx).uses x.op.slot.toNat = 0) ∧
    (Accepts State.reset u0 4 (.locPack { src := 0, dst := 0x5FFF, blocks := 1 }) ∧
      (packAct 1 ((State.reset.room u0.idx).slateBytes 0 512)).1.length ≤ slateSize) := by
  unfold Accepts
  refine ⟨by decide, by decide, fun x => ⟨rfl, rfl⟩, by decide +kernel, by decide +kernel⟩

theorem witness_QuantBlocksOrFault :
    (let s := withRoom (fun r => { r with slate := [(0, 8), (7, 0x3F)] })
     (s.dispatch u0 2 (.quant { param := 0, out := 0, blocks := 0, len := 511, scales := 0, log := 0, accToken := 511, accCol := 0 })).1.isSome = true ∧
       (s.seq u0.w).passed = false ∧ (readQParam ((s.room u0.idx).slateBytes (16 * 0) 16)).ok = true) ∧
    (readQParam ((State.reset.room u0.idx).slateBytes (16 * 0) 16)).ok = false ∧ ((withSeq (fun q => { q with passed := true })).seq u0.w).passed = true := by
  decide

/-! ### The Timetable -/

/-- Reset with lesson 1 of a kind, of one word, at Library offset 4096 of Wing 0, and its VALID entry. -/
def withLesson (kind : Byte) (f : Sequencer → Sequencer) : State :=
  { withSeq f with
    mem := { MemSys.reset with
      lib := [(8, 0x01), (9, 0x10), (4096, 0x32), (4097, 0x0B), (4098, 1)] ++ (if kind = 0 then [] else [(4099, kind)]) ++ [(4100, 1), (4106, 1)] } }
/-- Sixteen loops, and eight calls. -/
def loops16 : List Frame := List.replicate 16 (.loop 1 2 3 0 none)
def calls8 : List Frame := List.replicate 8 (.call ⟨0, 0⟩)
/-- All four Wings with their Sequencers as `f` leaves one. -/
def allSeq (f : Sequencer → Sequencer) : State :=
  { day with wings := Vector.replicate 4 { WingSt.reset with seq := f Sequencer.reset } }
/-- A module with a step in flight and four equal votes. -/
def voted (v : Vote) : State :=
  { day with srv := { Serving.reset with inFlight := true, votes := [some v, some v, some v, some v], limit := 1 } }
/-- A model image without spans. -/
def img0 : Image :=
  { layers := 1, kvHeads := 1, d256 := false, context := 64, vocab := 2, eot := 1, contrib := 1, agroup := 1, rank := 0, wingmap := 0, stepLesson := 1,
    idleLesson := 0, head := [], table := [], hash := [], spans := [] }
def slot0 : SlotRec := { SlotRec.empty with state := .resident, img := some img0 }
def copyOp : MovCopyOp := { slate := 0x5FFF, out := false, len := 0, due := 65535, hint := 0, addr := 0, cls := 2, base := 0 }
def waitOf (op : SlotOp) : WaitOp SlotOp := { op := op, ref := ⟨0, 0⟩, unit := 6, t := 0, frames := [] }
/-- A transfer of one piece of 32 bytes from T1 to the last bytes of the Slate. -/
def xfer0 : Xfer := mkXfer (waitOf (.movCopy copyOp)) 9 0 2 0 [{ dev := 64, slate := 786420, len := 32 }]
def withXfers (n : Nat) : State := withRoom (fun r => { r with mov1 := List.replicate n xfer0 })

theorem witness_WingStepStarts :
    ((withLesson 0 id).seq 0).phase = .idle ∧
    (((withLesson 0 id).wingReady 0 ⟨1, true, 1⟩).findLesson 0 (1#8).toNat 0).1.isSome = true ∧
    (((withLesson 1 id).wingReady 0 ⟨1, true, 1⟩).findLesson 0 (1#8).toNat 0).1 = none ∧
    (withLesson 0 id).srv.starts.length = 4 ∧ ((withSeq (fun q => { q with phase := .commitWait })).seq 0).phase ≠ .idle := by decide +kernel

theorem witness_PeriodWordDispatches :
    (let s := withLesson 0 (fun q => { q with phase := .starting, jump := some ⟨1, 0⟩, wordT := 2 ^ 32 - 1 })
     (s.seq 0).phase = .starting ∧ (s.seq 0).held = false ∧ (s.seq 0).clear = true ∧ (s.seq 0).pass = 0 ∧ s.nextWord 0 = some (⟨1, 0⟩, []) ∧
       (s.seq 0).wordT + (s.wordAt 0 ⟨1, 0⟩).delta < 2 ^ 32 ∧ wingQuiet s 0) ∧
    (let s := withLesson 0 (fun q => { q with phase := .starting, jump := some ⟨1, 0⟩, held := true, holdT := 1 })
     (s.seq 0).held = true ∧ (s.seq 0).wordT + (s.wordAt 0 ⟨1, 0⟩).delta < (s.seq 0).holdT ∧ s.nextWord 0 = some (⟨1, 0⟩, [])) ∧
    (let s := withLesson 0 (fun q => { q with phase := .starting, jump := some ⟨1, 0⟩, held := true, holdT := 0 })
     s.nextWord 0 = some (⟨1, 0⟩, []) ∧ (s.seq 0).pass = 0 ∧ (s.seq 0).held = true ∧ (s.seq 0).holdT ≤ (s.seq 0).wordT + (s.wordAt 0 ⟨1, 0⟩).delta) ∧
    ((withSeq (fun q => { q with sent := [⟨.check, ⟨0, 0⟩, 0x40, 0, []⟩] })).seq 0).clear = false ∧ State.reset.nextWord 0 = none := by unfold wingQuiet arrayQuiet; decide +kernel

theorem witness_LoopAndCallFrames :
    (let o : LoopOp := { roster := false, count := 65535, body := 65535 }
     let full := withSeq (fun q => { q with frames := loops16 })
     o.roster = false ∧ opInRange (.loop o) = true ∧ State.reset.itemHeld 0 (.control (.loop o)) = false ∧
       ((State.reset.takeItem 0 (.control (.loop o))).2.2.loopCount 0 o).1 = some (65535 + 1) ∧ (loopsOf (State.reset.seq 0).frames).length < 16 ∧
       full.itemHeld 0 (.control (.loop o)) = false ∧ ((full.takeItem 0 (.control (.loop o))).2.2.loopCount 0 o).1 ≠ some 0 ∧
       16 ≤ (loopsOf (full.seq 0).frames).length) ∧
    (let o : Nat → LoopOp := fun n => { roster := true, count := BitVec.ofNat 16 n, body := 1 }
     let s := { State.reset with mem := { MemSys.reset with lib := [(6, 1), (8, 1), (10, 1)] } }
     (∀ n : Fin 3, opInRange (.loop (o n)) = true ∧ s.itemHeld 0 (.control (.loop (o n))) = false) ∧
       ((s.takeItem 0 (.control (.loop (o 0)))).2.2.loopCount 0 (o 0)).1 = some 0 ∧
       ((s.takeItem 0 (.control (.loop (o 1)))).2.2.loopCount 0 (o 1)).1 = some 65536 ∧
       ((s.takeItem 0 (.control (.loop (o 2)))).2.2.loopCount 0 (o 2)).1 = none) ∧
    (let o : LoopOp := { roster := false, count := 0, body := 1 }
     (withSeq (fun q => { q with held := true })).itemHeld 0 (.control (.loop o)) = true ∧
       (withSeq (fun q => { q with held := true })).itemHeld 0 (.control (.call { lesson := 1 })) = true) ∧
    (let o : CallOp := { lesson := 1 }
     (withLesson 1 id).itemHeld 0 (.control (.call o)) = false ∧ (withSeq (fun q => { q with frames := calls8 })).itemHeld 0 (.control (.call o)) = false ∧
       depthOf ((withLesson 1 id).seq 0).frames < 8 ∧
       ((((withLesson 1 id).takeItem 0 (.control (.call o))).2.2).findLesson 0 o.lesson.toNat 1).1.isSome = true ∧
       8 ≤ depthOf ((withSeq (fun q => { q with frames := calls8 })).seq 0).frames) := by decide +kernel

theorem witness_BellsRingAndWait :
    (let held := withSeq (fun q => { q with held := true })
     State.reset.itemHeld 0 (.ring (63#6).toNat) = false ∧ held.itemHeld 0 (.ring (63#6).toNat) = true ∧ (State.reset.seq 0).held = false ∧
       (held.seq 0).held = true ∧ (held.seq 0).holdT ≤ (held.takeItem 0 (.wait (63#6).toNat (1#16).toNat)).2.1) ∧
    (let s := withSeq (fun q => { q with held := true, holdT := 1 })
     (s.seq 0).held = true ∧ (s.takeItem 0 (.wait (63#6).toNat (1#16).toNat)).2.1 < (s.seq 0).holdT) ∧
    (let s := withSeq (fun q => { q with bells := [(63, 65535)] })
     (0xFFFF#16).toNat ≤ (s.seq 0).bellKnown (63#6).toNat (s.takeItem 0 (.wait (63#6).toNat (0xFFFF#16).toNat)).2.1) ∧
    (let s := withSeq (fun q => { q with bells := [(63, 1)], rung := [(63, 9)] })
     (s.seq 0).bellKnown (63#6).toNat (s.takeItem 0 (.wait (63#6).toNat (1#16).toNat)).2.1 < (1#16).toNat ∧
       (1#16).toNat ≤ bellCount (s.seq 0).bells (63#6).toNat) ∧
    bellCount (State.reset.seq 0).bells (63#6).toNat < (1#16).toNat ∧
    ((withSeq (fun q => { q with wait := some (63, 1, ⟨0, 0⟩) })).seq 0).wait = some (63, 1, ⟨0, 0⟩) ∧
    ((withSeq (fun q => { q with wait := some (63, 1, ⟨0, 0⟩) })).seq 0).latLimit ≠ 0 ∧
    ((withSeq (fun q => { q with wait := some (63, 1, ⟨0, 0⟩), latLimit := 0 })).seq 0).latLimit = 0 := by decide

theorem witness_HoldAndResume :
    (((withSeq (fun q => { q with held := true, holds := [⟨.dataLate, none, 60⟩, ⟨.narrowStarved, some 0, 61⟩] })).seq 0).held = true ∧
      ((withSeq (fun q => { q with held := true, holds := [⟨.dataLate, none, 60⟩, ⟨.narrowStarved, some 0, 61⟩] })).seq 0).holds.all HoldReq.transient = true) ∧
    (State.reset.seq 0).held = false ∧ ((withSeq (fun q => { q with held := true, holds := [bellHold] })).seq 0).holds.all HoldReq.transient = false := by
  decide

theorem witness_StepPoints :
    (State.reset.itemHeld 0 .replay = false ∧ (State.reset.seq 0).pass = 0) ∧
    ((withSeq (fun q => { q with pass := 1 })).itemHeld 0 .replay = false ∧ ((withSeq (fun q => { q with pass := 1 })).seq 0).pass ≠ 0) ∧
    (let s := withSeq (fun q => { q with held := true })
     s.itemHeld 0 .replay = true ∧ s.itemHeld 0 .check = true ∧ s.itemHeld 0 .commit = true) ∧
    (let s := withSeq (fun q => { q with phase := .running })
     s.itemHeld 0 .check = false ∧ s.itemHeld 0 .commit = false) ∧
    ((withSeq (fun q => { q with phase := .running })).seq 0).phase = .running ∧
    ((withSeq (fun q => { q with phase := .checkWait })).srv.votes.length = 4 ∧ ((withSeq (fun q => { q with phase := .checkWait })).seq 0).phase = .checkWait ∧
      ((withSeq (fun q => { q with phase := .checkWait })).seq 0).voted = false ∧ (withSeq (fun q => { q with phase := .checkWait })).drained 0 = true) ∧
    (withXfers 1).drained 0 = false := by decide +kernel

theorem witness_CheckPointVerdictJudges :
    (∀ v : Vote, (voted v).srv.inFlight = true ∧ (voted v).srv.votes = [v, v, v, v].map some ∧ (voted v).srv.toWing.all (·.isNone) = true ∧
      (voted v).asmQuiet = true ∧ (voted v).asm.all (fun e => e.2.failed.isEmpty) = true ∧ Quiet (voted v)) ∧
    judge (joinVotes [Vote.none, Vote.none, Vote.none, Vote.none]) (voted Vote.none).srv.pass (voted Vote.none).srv.limit = .commit ∧
    (let v := { Vote.none with error := true }
     judge (joinVotes [v, v, v, v]) (voted v).srv.pass (voted v).srv.limit = .replaySame) ∧
    (let v := { Vote.none with sbSat := true }
     judge (joinVotes [v, v, v, v]) (voted v).srv.pass (voted v).srv.limit = .replayRescale) :=
  ⟨fun _ => ⟨rfl, rfl, rfl, rfl, rfl, rfl, rfl⟩, by decide, by decide, by decide⟩

theorem witness_WingActsOnVerdict :
    (∀ v : Verdict, ({ State.reset with srv := { Serving.reset with toWing := [some v, none, none, none] } } : State).srv.toWing[(0 : Wing).val]? = some (some v)) ∧
    ((withSeq (fun q => { q with phase := .checkWait })).seq 0).phase = .checkWait ∧
    ((withSeq (fun q => { q with phase := .commitWait })).seq 0).phase = .commitWait := ⟨fun _ => rfl, by decide, by decide⟩

theorem witness_CommitDecisionCommits :
    (let s := { allSeq (fun q => { q with phase := .commitWait }) with
                srv := { Serving.reset with inFlight := true }, mdl := { slots := [(0, slot0)], vers := [] } }
     Quiet s ∧ s.srv.inFlight = true ∧ s.srv.toWing.all (·.isNone) = true ∧ s.asmQuiet = true ∧ s.asm.all (fun e => e.2.failed.isEmpty) = true ∧
       (∀ w : Wing, (s.seq w).phase = .commitWait ∧ s.drained w = true) ∧
       (let v := (List.finRange 4).foldl (fun x w => x.pointEnd w) s
        (∀ w : Wing, (v.seq w).faults = [] ∧ (v.seq w).error = false ∧ (v.seq w).repair = false) ∧ v.image v.srv.plan.slot = some img0 ∧
          v.commit.err.due = none)) :=
  ⟨⟨rfl, rfl⟩, rfl, rfl, rfl, rfl, by decide +kernel, by decide +kernel, by decide +kernel, by decide +kernel⟩

theorem witness_MoversQueueTransfers :
    ((∃ x, (State.reset.dispatch m0.cr (moverUnit m0) (.movCopy copyOp)).1 = some x ∧
        ∃ g, (((State.reset.dispatch m0.cr (moverUnit m0) (.movCopy copyOp)).2).planXfer m0 x).1 = .go g) ∧ (State.reset.xfers m0).length < 16) ∧
    (∃ x, (State.reset.dispatch m0.cr (moverUnit m0) (.movItem { slate := 0, due := 0, hint := 0, index := 0, model := 63 })).1 = some x ∧
        (((State.reset.dispatch m0.cr (moverUnit m0) (.movItem { slate := 0, due := 0, hint := 0, index := 0, model := 63 })).2).planXfer m0 x).1 = .fault) ∧
    (∃ x, (({ State.reset with mem := { MemSys.reset with hbm := [(0, 0xFF), (1, 0xFF), (2, 0xFF), (3, 0xFF)] } } : State).dispatch m0.cr (moverUnit m0)
          (.movPage { slate := 0, due := 0, part := 2, entry := 0 })).1 = some x ∧
        ((({ State.reset with mem := { MemSys.reset with hbm := [(0, 0xFF), (1, 0xFF), (2, 0xFF), (3, 0xFF)] } } : State).dispatch m0.cr (moverUnit m0)
          (.movPage { slate := 0, due := 0, part := 2, entry := 0 })).2.planXfer m0 x).1 = .nothing) ∧
    ((withXfers 16).dispatch m0.cr (moverUnit m0) (.movCopy copyOp)).1.isSome = true ∧ 16 ≤ ((withXfers 16).xfers m0).length := by
  refine ⟨⟨⟨_, rfl, _, rfl⟩, by decide⟩, ⟨_, rfl, rfl⟩, ⟨_, rfl, by decide⟩, by decide, by decide⟩

theorem witness_TransfersLand :
    (let v := (withXfers 1).runTo m0.w (2#32).toNat
     Quiet (withXfers 1) ∧ (v.xfers m0)[(0#4).toNat]? = some xfer0 ∧ xfer0.out = false ∧ xfer0.sel = none ∧ xfer0.segs = [⟨64, 786420, 32⟩] ∧
       (∀ w o, placeOf 64 ≠ .lib w o) ∧ 32 ≤ slateSize ∧ (v.room m0.cr.idx).movWait = [] ∧ (∀ y, y ∈ sectors 64 32 → v.sectorBad y = false)) ∧
    ((withXfers 1).xfers m0)[(0#4).toNat]? = some xfer0 ∧ xfer0.due = some 9 :=
  ⟨⟨⟨rfl, rfl⟩, by decide +kernel, rfl, rfl, rfl, fun w o h => (by cases h), by decide, by decide +kernel, by decide +kernel⟩, rfl, rfl⟩

/-! ### The Vector and Reduce units, the Slate and the Library -/

def applyOp : VecApplyOp := { token := 511, ntok := 1, arg := 0 }
/-- Reset with 16-bit words written into Slate 0 of Classroom 0, from byte 0. -/
def withHalves (l : List Nat) : State := withRoom (fun r => { r with slate := Memory.writeN [] 0 (l.flatMap (leBytes 2)) })

def drainOp : VecDrainOp := { token := 511, ntok := 511, scales := 0x5FFFF, fold := true }

theorem witness_DrainAndMarginAdd :
    (Accepts State.reset u0 2 (.vecDrain drainOp) ∧ (State.reset.room u0.idx).drain = none ∧ (State.reset.takeOp u0 2 (.vecDrain drainOp)).1 = none) ∧
    (let s := withSeq (fun q => { q with sent := [{ item := .op 0 2 (.vecDrain drainOp), ref := ⟨3, 4⟩, unit := 2, t := 9, frames := [] }] })
     Accepts s u0 2 (.vecDrain drainOp) ∧ (s.room u0.idx).drain = none ∧ (s.takeOp u0 2 (.vecDrain drainOp)).1.isSome = true ∧
       s.opCycle u0 2 (.vecDrain drainOp) = 9 ∧ tokenIndex drainOp.token drainOp.ntok 511 = some 0 ∧ tokenIndex drainOp.token drainOp.ntok 510 = some 511) ∧
    Accepts State.reset u0 2 (.vecApply .marginAdd { token := 0, ntok := 511, arg := 0xBFFF }) ∧ arrayQuiet (State.reset.room u0.idx) := by
  unfold Accepts arrayQuiet; decide

theorem witness_VectorApplyFunctions :
    Accepts State.reset u0 2 (.vecApply .scaleCols applyOp) ∧ Accepts State.reset u0 2 (.vecApply .scaleRows applyOp) ∧
    Accepts State.reset u0 2 (.vecApply .addRows applyOp) ∧ Accepts State.reset u0 2 (.vecApply .normRows applyOp) ∧
    Accepts State.reset u0 2 (.vecApply .siluMul applyOp) := by
  unfold Accepts; decide

theorem witness_SlateResults :
    Accepts State.reset u0 2 (.vecApply .sumsq { token := 0, ntok := 511, arg := 0xBFFF }) ∧
    Accepts State.reset u0 3 (.redTopk { src := 0, nblk := 127, k := 63, dst := 0x5FFF }) ∧
    Accepts State.reset u0 3 (.redMaxsum { src := 0, nblk := 127, dst := 0x5FFF }) ∧
    Accepts State.reset u0 7 (.sltFill { dst := 0x5FFF, len := 8191, value := 0xFFFF }) ∧
    Accepts State.reset u0 7 (.sltCopy { src := 0, dst := 0x5FFF, len := 8191 }) := by
  unfold Accepts; decide

theorem witness_RotateTurnsPairs :
    (State.reset.dispatch u0 2 (.vecApply .rotate applyOp)).1.isSome = true ∧
    (let r := (withHalves [128, 384, 128]).room u0.idx
     r.slateLE (applyA applyOp) 2 ≠ 0 ∧ r.slateLE (applyA applyOp + 4) 2 % r.slateLE (applyA applyOp) 2 = 0 ∧
       r.slateLE (applyA applyOp + 2) 2 + r.slateLE (applyA applyOp + 4) 2 ≤ 512) ∧
    ((State.reset.room u0.idx).slateLE (applyA applyOp) 2 = 0) ∧
    (let r := (withHalves [128, 385, 128]).room u0.idx
     512 < r.slateLE (applyA applyOp + 2) 2 + r.slateLE (applyA applyOp + 4) 2) := by
  decide

/-- Reset with the bytes `bs` at Slate byte 0 of Classroom 0. -/
def withBytes (bs : List Byte) : State := withRoom (fun r => { r with slate := Memory.writeN [] 0 bs })
/-- A block record with QGROUP 1, and one that is coarse; its key map lies at byte 64 and counts no key. -/
def blockRec : State := withBytes [0, 0, 0, 1, 0, 0, 0x80, 0x3F, 0, 0, 0, 0, 0, 0, 0, 0, 0, 0, 0, 0, 0, 0, 0, 0, 64]
def coarseRec : State := withBytes [4, 0, 0, 1]
/-- An end record of one block and one row, 31, of one head, and one of two blocks. -/
def endRec : State := withBytes [1, 31, 1, 1, 0, 0, 0x80, 0x3F]
def endRec2 : State := withBytes [2, 0, 1, 1]
/-- The row operand 31 with one row, and two. -/
def row31 (n : BitVec 9) : VecApplyOp := { token := 31, ntok := n, arg := 0 }
/-- Whether the record of a SOFTMAX_BLOCK is out of range. -/
def badBlock (s : State) (o : VecApplyOp) : Prop :=
  let r := s.room u0.idx
  let b := readBlock (r.slateBytes (applyA o) 32) (r.slateBytes (readBlock (r.slateBytes (applyA o) 32) []).keymap 48)
  32 < o.token.toNat % 32 + (o.ntok.toNat + 1) ∨ b.qgroup = 0 ∨ (List.range 8).any (fun i => decide (64 < b.counts i)) = true
/-- Whether the record of a SOFTMAX_END is out of range. -/
def badEnd (s : State) (o : VecApplyOp) : Prop :=
  let e := readEnd ((s.room u0.idx).slateBytes (applyA o) 32)
  let n := o.ntok.toNat + 1
  e.nblocks = 0 ∨ 64 < e.nblocks ∨ e.nrows = 0 ∨ 32 < e.nrows ∨ 32 < e.row0 + e.nrows ∨ e.heads = 0 ∨ 32 < e.heads ∨
    n < e.nblocks ∨ 256 * n < e.nrows * e.d ∨ 512 < e.outCol + e.heads * e.d

theorem witness_SoftmaxBlockRows :
    (State.reset.dispatch u0 2 (.vecApply .softmaxBlock (row31 0))).1.isSome = true ∧
    (¬ badBlock blockRec (row31 0) ∧ (readBlock ((blockRec.room u0.idx).slateBytes 0 32) []).coarse = false) ∧
    (¬ badBlock coarseRec (row31 0) ∧ (readBlock ((coarseRec.room u0.idx).slateBytes 0 32) []).coarse = true) ∧
    badBlock blockRec (row31 1) ∧ badBlock State.reset (row31 0) := by
  unfold badBlock; decide

theorem witness_SoftmaxEndRows :
    (State.reset.dispatch u0 2 (.vecApply .softmaxEnd applyOp)).1.isSome = true ∧
    (¬ badEnd endRec applyOp ∧ (readEnd ((endRec.room u0.idx).slateBytes 0 32)).nrows = 1) ∧ badEnd endRec2 { applyOp with ntok := 0 } ∧
    badEnd State.reset applyOp := by
  unfold badEnd; decide

theorem witness_MarginHColumns :
    Accepts (withHalves [1, 512, 1, 511, 511]) u0 2 (.vecApply .marginH applyOp) ∧
    ((withHalves [1, 512, 1, 511, 511]).room u0.idx).slateLE (applyA applyOp + 2 * 0) 2 = 1 ∧
    ((withHalves [1, 512, 1, 511, 511]).room u0.idx).slateLE (applyA applyOp + 2 * 2) 2 = 1 ∧
    tokenIndex applyOp.token applyOp.ntok 0 = some 1 ∧ tokenIndex applyOp.token applyOp.ntok 1 = none := by
  unfold Accepts; decide

theorem witness_BusMemoryWindows :
    (State.reset.hasFunction = true ∧ State.reset.hif.d3 = false ∧ State.reset.bar0On = true) ∧
    (bar2Ok (0xFFFFFFC0#32).toNat 64 = true ∧ bar2Ok (7#32).toNat 1 = true ∧ bar2Ok (0x3FFFFF8#32).toNat (List.replicate 24 0#8).length = true) ∧
    ((0x3FFFFF8#32).toNat % 2 ^ 30 + 8 ≤ ((State.reset).setReg (Off.libSplit 0) 1).scratchEnd (bar2Wing 0x3FFFFF8) ∧
      ((State.reset).setReg (Off.libSplit 0) 1).scratchEnd (bar2Wing 0x4000000) < (0x4000000#32).toNat % 2 ^ 30 + 8) := by
  decide

/-- A module in Morning with stack 31 trained and its scrubber on. -/
def scrubbed : State :=
  ({ State.reset with
     pwr := { Power.reset with state := .morning }
     mem := { MemSys.reset with hbmStacks := MemSys.reset.hbmStacks.set 31 { Stack.reset with trained := true, scrub := [(63, 2 ^ 25 - 1)] } } }).setReg
    (Off.memScrub 31) 1

/-- Its next sector is uncorrectable. -/
def scrubBad : State :=
  { scrubbed with mem := { scrubbed.mem with hbmBad := [(scrubbed.scrubSector 31 (63 : Fin 64).val (2 ^ 25 - 1), true)] } }

theorem witness_Scrubbers :
    (bit ((State.reset.setReg (Off.libScrub 0) 1).regN (Off.libScrub 0)) 0 = true ∧ State.reset.hasFunction = true) ∧
    bit ((State.reset.setReg (Off.libScrub 0) 0).regN (Off.libScrub 0)) 0 = false ∧
    (Quiet scrubbed ∧ bit (scrubbed.regN (Off.memScrub (31 : Fin 32))) 0 = true ∧ (scrubbed.stack 31).trained = true ∧
      (scrubbed.stack 31).selfRefresh = false ∧ scrubbed.clocked = true ∧
      scrubbed.sectorBad (scrubbed.scrubSector 31 (63 : Fin 64).val (Sparse.get (fun _ => 0) (scrubbed.stack 31).scrub (63 : Fin 64).val)) = false) ∧
    (bit (scrubBad.regN (Off.memScrub (31 : Fin 32))) 0 = true ∧ (scrubBad.stack 31).trained = true ∧ (scrubBad.stack 31).selfRefresh = false ∧
      scrubBad.clocked = true ∧
      scrubBad.sectorBad (scrubBad.scrubSector 31 (63 : Fin 64).val (Sparse.get (fun _ => 0) (scrubBad.stack 31).scrub (63 : Fin 64).val)) = true) ∧
    (Quiet (State.reset.setReg (Off.memScrub 0) 0) ∧ bit ((State.reset.setReg (Off.memScrub 0) 0).regN (Off.memScrub (0 : Fin 32))) 0 = false) ∧
    (0 : Nat) < 256 ∧ 32 * (256 * Sparse.get (fun _ => 0) (State.reset.setReg (Off.libScrub 0) 1).mem.libScrub (0 : Wing).val + 0) <
      (State.reset.setReg (Off.libScrub 0) 1).scratchEnd 0 :=
  ⟨by decide, by decide, ⟨⟨rfl, rfl⟩, by decide, by decide, by decide, by decide, rfl⟩, by decide +kernel, ⟨⟨rfl, rfl⟩, by decide +kernel⟩, by decide +kernel,
    by decide⟩

/-! ### T1, the tier-move engine and serving between steps -/

/-- SHA-256 of 32 zero bytes, as FIPS 180-4 gives it. -/
def zeroHash : List Byte :=
  [0x66, 0x68, 0x7A, 0xAD, 0xF8, 0x62, 0xBD, 0x77, 0x6C, 0x8F, 0xC1, 0x8B, 0x8E, 0x9F, 0x8E, 0x20, 0x08, 0x97, 0x14, 0x85, 0x6E, 0xE2, 0x33, 0xB3,
   0x90, 0x2A, 0x59, 0x1D, 0x0D, 0x5F, 0x29, 0x25]
/-- An image of one chunk of 32 zero bytes. -/
def img1 : Image := { img0 with hash := zeroHash, spans := [{ kind := 2, offset := 256, length := 32, dest := 0x80000 }] }
/-- A live session of tenant 1 with one page. -/
def sess0 (state : Nat) : SessRec :=
  { state := state, evictable := false, batch := false, publish := false, degraded := false, model := 0, tdLog2 := 4, handle := 0x10000, tenant := 1,
    ring := 1, domain := 0, mset := 0xFFFF, position := 64, pend := 0, input := 0, kvmap := 0x40000, tray := 0, stopset := 0xFFFF, temp := 0,
    topK := 0, topP := 0, maxTokens := 0, seed := 0, draw := 0, turnTokens := 0, turn := 0, seq := 0, histN := 0, expire := 0, last := 0,
    history := List.replicate 16 0, node := 0 }
/-- Page 0 of the pool, FULL, in the first slot of Wing 0. -/
def page0 : PageRec :=
  { state := 2, tier := 0, head := false, tree := false, fill := 64, trayn := 0, refs := 1, kscale := 0, vscale := 0, score := 0, addr := 0x200000,
    tenant := 1, layer := 0, kvhead := 0, ordinal := 0, summary := 0, sumslot := 0, step := 0 }
def pool0 : KvPool := { records := 0x20000, recLog2 := 6, bases := [0x200000, 0x400000, 0x600000, 0x800000], log2s := [0, 0, 0, 0] }
def quota1 : Quota := { Quota.zero with pageLimit := 2, pageUsed := 1, t2Limit := 16448, t2Used := 0 }
/-- A module in Day with session 0 in `state`, its page, and host window 5 of 5 pages of its tenant. -/
def served (state : Nat) : State :=
  let s := day.setReg Off.srvSessionTable 0x10008
  (({ s with
      srv := { s.srv with pool := some pool0, usedSlots := [(0, true)] }
      mdl := { slots := [(0, slot0)], vers := [] }
      mem := { s.mem with quotas := [(1, quota1)], windows := [(5, { valid := true, write := true, tenant := 1, pasid := 0, pages := 5, host := 0x1000000 })] } }).setPage
    0 page0).setSess 0 (sess0 state)
/-- A pause of session 0 to window 5 at width 8. -/
def pause0 (started : Bool) (units : List Nat) (length : Nat) : MoveReq :=
  { resume := false, sess := 0, tenant := 1, window := 5, width := 8, ttl := 0, offset := 0, length := length, units := units, dests := [], started := started,
    bytes := 0, moved := 0, status := 0, desc := ⟨0, 0, 0, 0, 0⟩ }
def moving (r : MoveReq) : State := let s := served 3; { s with mem := { s.mem with moves := [r], quotas := [(1, { quota1 with t2Used := if r.started then 16448 else 0 })] } }
def desc0 : DescRef := ⟨0, 0, 0, 0, 0⟩

theorem witness_TicksAndQueuedWork :
    (∀ r : ClassReq, ({ State.reset with mem := { MemSys.reset with classes := [r] } } : State).mem.classes = r :: []) ∧
    (∀ r : CopyReq, ({ State.reset with mem := { MemSys.reset with copies := [r] } } : State).mem.copies = r :: []) ∧
    ({ State.reset with srv := { Serving.reset with rebuild := [5] } } : State).srv.rebuild = 5 :: [] ∧
    (∀ b : Bool, let s := { State.reset with pwr := { Power.reset with state := .midnight, standbyOk := b, leadMs := 3 } }
     s.pwr.state = .midnight ∧ s.pwr.standbyOk = b ∧ s.pwr.leadMs + 6 < 10 ∧ 10 ≤ s.pwr.leadMs + 7) ∧ Power.reset.mainOk = true ∧ Power.reset.perst = false ∧
    Quiet State.reset ∧ State.reset.mem.classes = [] ∧ State.reset.mem.copies = [] ∧ State.reset.srv.rebuild = [] :=
  ⟨fun _ => rfl, fun _ => rfl, rfl, fun _ => ⟨rfl, rfl, (by decide : 3 + 6 < 10), (by decide : 10 ≤ 3 + 7)⟩, rfl, rfl, ⟨rfl, rfl⟩, rfl, rfl, rfl⟩

/-- The status an access answers instead of bytes. -/
def errOf {α : Type} : Except Nat α → Option Nat
  | .error n => some n
  | .ok _ => none

/-- A resume of session 0, whose page 0 stands in T2, in window 5; and a module that moves it. With the width 0 the form is its header alone, which the kernel can check. -/
def resume0 (started : Bool) (units dests : List Nat) : MoveReq := { pause0 started units 0 with resume := true, dests := dests }
def resuming (started : Bool) (units dests : List Nat) : State :=
  let s := (served 5).setPage 0 { page0 with tier := 1, addr := 0x200500000000 }
  { s with
    srv := { s.srv with usedSlots := [], widths := [(0, 0)] }
    mem := { s.mem with moves := [resume0 started units dests], quotas := [(1, { quota1 with t2Used := 4160 })] } }
/-- The same with the form in the window. -/
def formThere (s : State) : State := { s with mem := { s.mem with host := Memory.writeN s.mem.host 0x1000000 (pageForm [] false 0 0) } }
/-- A resume of page 0 alone to the first slot, begun. -/
def resume1 : State := resuming true [0] [0x200000]
def look1 (s : State) : State := (s.absorb Ext.none).lookPage 0 (s.sess 0).handle

theorem witness_TierMovesBegin :
    (let r := pause0 false [] 16448
     let s := moving r
     s.mem.moves = r :: [] ∧ s.image (s.sess r.sess).model = some img0 ∧ r.started = false ∧ r.resume = false ∧ s.srv.flush.contains r.sess = false ∧
       s.demotable r.sess ≠ [] ∧ s.formsTotal (s.demotable r.sess) r.width ≤ r.length ∧
       (s.quota r.tenant).t2Used + s.formsTotal (s.demotable r.sess) r.width ≤ (s.quota r.tenant).t2Limit) ∧
    (let r := pause0 false [] 16447
     (moving r).mem.moves = r :: [] ∧ r.length < (moving r).formsTotal ((moving r).demotable r.sess) r.width) ∧
    (let s := resuming false [] []
     let r := resume0 false [] []
     s.mem.moves = r :: [] ∧ s.image (s.sess r.sess).model = some img0 ∧ r.started = false ∧ r.resume = true ∧ s.promotable r.sess = [0] ∧
       (s.reserveSlots img0 (s.promotable r.sess)).1 = some [0x200000]) ∧
    (let s := { resuming false [] [] with mem := { (resuming false [] []).mem with quotas := [] } }
     s.mem.moves = resume0 false [] [] :: [] ∧ s.image (s.sess 0).model = some img0 ∧ (s.reserveSlots img0 (s.promotable 0)).1 = none) ∧
    Quiet (moving (pause0 true [] 0)) ∧
    (let s := { moving (pause0 false [] 0) with srv := { (moving (pause0 false [] 0)).srv with flush := [0] } }
     Quiet s ∧ (pause0 false [] 0).resume = false ∧ s.srv.flush.contains (pause0 false [] 0).sess = true) := by
  refine ⟨by decide +kernel, by decide +kernel, by decide +kernel, by decide +kernel, ⟨by decide +kernel, by decide +kernel⟩, ⟨by decide +kernel, by decide +kernel⟩,
    rfl, by decide +kernel⟩

theorem goodSectors (s : State) (h : s.mem.hbmPoison = [] ∧ s.mem.hbmBad = []) (y : Nat) : s.sectorBad y = false := by
  unfold State.sectorBad
  rw [h.1, h.2]
  rfl

theorem witness_TierMoveUnits :
    (let r := pause0 true [0, 1] 0
     let s := moving r
     s.mem.moves = r :: [] ∧ r.units = 0 :: [1] ∧ r.resume = false ∧ r.started = true ∧ s.canIssue = true ∧ s.memCommitPending = false ∧ s.pageGone 0 = false ∧
       formBytes (s.page 0).d r.width ≤ (s.quota r.tenant).t2Used ∧ 0 < (s.quota (s.page 0).tenant).pageUsed ∧ (s.page 0).head = false ∧
       s.slotOf (s.page 0).addr = some (0, 0) ∧ marked s.srv.usedSlots (slotKey 0 0) = true ∧
       s.checkWindow (some r.tenant) true r.window r.offset (formBytes (s.page 0).d r.width) = 0 ∧
       s.checkWindow (some r.tenant) true r.window (r.offset + 4033) (formBytes (s.page 0).d r.width) ≠ 0) ∧
    (∀ y, (moving (pause0 true [0, 1] 0)).sectorBad y = false) ∧
    (let r := resume0 true [0] [0x200000]
     resume1.mem.moves = r :: [] ∧ r.units = 0 :: [] ∧ r.resume = true ∧ r.started = true ∧ resume1.canIssue = true ∧ resume1.memCommitPending = false ∧
       resume1.pageGone 0 = false ∧ Sparse.get (fun _ => 8) resume1.srv.widths r.sess = 0 ∧ r.dests.headD 0 < 2 ^ 48 ∧
       rangesMeet (resume1.pageAddr 0) 64 (r.dests.headD 0) (resume1.page 0).size = false ∧
       (let v := (look1 resume1).readTwice (fun y => y.readForm r Ext.none (resume1.page 0).addr (resume1.page 0).d 0 0)
        errOf v.1 = some 0x30) ∧
       (let v := (look1 (formThere resume1)).readTwice (fun y => y.readForm r Ext.none (resume1.page 0).addr (resume1.page 0).d 0 0)
        v.1.toOption.isSome = true ∧ formBytes (resume1.page 0).d 0 ≤ (v.2.quota r.tenant).t2Used)) ∧
    (∀ y, resume1.sectorBad y = false) ∧
    ((moving (pause0 true [] 0)).mem.moves = pause0 true [] 0 :: [] ∧ (pause0 true [] 0).units = [] ∧ (moving (pause0 true [] 0)).canIssue = true ∧
      (moving (pause0 true [] 0)).memCommitPending = false) ∧
    (pause0 false [] 0).started = false := by
  refine ⟨⟨by decide +kernel, rfl, rfl, rfl, by decide +kernel, by decide +kernel, by decide +kernel, by decide +kernel, by decide +kernel, by decide +kernel,
      by decide +kernel, by decide +kernel, by decide +kernel, by decide +kernel⟩, goodSectors _ (by decide +kernel),
    ⟨by decide +kernel, rfl, rfl, rfl, by decide +kernel, by decide +kernel, by decide +kernel, by decide +kernel, by decide, by decide +kernel, by decide +kernel,
      by decide +kernel, by decide +kernel⟩, goodSectors _ (by decide +kernel), ⟨by decide +kernel, rfl, by decide +kernel, by decide +kernel⟩, rfl⟩

/-- A module whose slot 3 has its one chunk POISONED, with golden copies at `g` and 0. -/
def poisoned3 (g : Nat) : State := { day with mdl := { slots := [(3, { slot0 with img := some img1, poisoned := [0], golden := g })], vers := [] } }

theorem witness_BetweenSteps :
    (State.reset.srv.inFlight = false ∧ (voted Vote.none).srv.inFlight = true ∧ Quiet (voted Vote.none)) ∧
    (∀ b : Bool, let s := (served 1).setSess 0 { sess0 4 with expire := 5 }
     let s := { s with srv := { s.srv with nowMs := 5, inFlight := b } }
     s.liveSessions = [0] ∧ (s.sess 0).state = 4 ∧ (s.sess 0).expire ≠ 0 ∧ (s.sess 0).expire ≤ s.srv.nowMs ∧ s.srv.expired.contains 0 = false ∧ s.sessBad 0 = false ∧
       s.srv.inFlight = b) ∧
    (∀ k ∈ (served 1).liveSessions, ((served 1).sess k).state ≠ 4) ∧
    ({ day with srv := { Serving.reset with expired := [7] } } : State).srv.expired = [7] ∧
    (let s := poisoned3 0x90000
     s.nextRepair = some (.slot 3, 0) ∧ s.repairOf (.slot 3) = some (img1, 0, [0x90000, 0], .image none none) ∧ img1.piece 0 = some (256, 0x80000, 32, some 0) ∧
       s.memCommitPending = false ∧
       ((s.absorb Ext.none).goldenReads (.image none none) Ext.none img1 (256, 0x80000, 32, some 0) [0x90000, 0]).1.toOption.isSome = true ∧
       errOf ((s.absorb Ext.none).goldenReads (.image none none) Ext.none img1 (256, 0x80000, 32, some 0) [0, 0]).1 = some 0x30) ∧
    (let s := { poisoned3 (2 ^ 45) with hif := { State.reset.hif with bme := false } }
     s.nextRepair = some (.slot 3, 0) ∧ s.repairOf (.slot 3) = some (img1, 0, [2 ^ 45, 0], .image none none) ∧
       errOf ((s.absorb Ext.none).goldenReads (.image none none) Ext.none img1 (256, 0x80000, 32, some 0) [2 ^ 45, 0]).1 = some 0) ∧
    (State.reset.nextRepair = none ∧ ({ State.reset with commits := [(5, true)] } : State).memCommitPending = true) := by
  refine ⟨⟨rfl, rfl, rfl, rfl⟩, by decide +kernel, by decide +kernel, rfl, by decide +kernel, by decide +kernel, rfl, by decide +kernel⟩

theorem witness_StepsStartOnRosters :
    (let p : RosterPlan := { slot := 0, buffer := true, sessions := [], tokens := 0, sinks := 4, hdrs := [], lambda := 0 }
     let s := { day with srv := { Serving.reset with next := some p }, mdl := { slots := [(0, slot0)], vers := [] } }
     s.srv.next = some p ∧ s.mayStart 0 = true ∧ s.image p.slot = some img0 ∧ s.slotServes p.slot = true ∧
       s.runsStep 0 img0 = false ∧ ({ s with mem := { s.mem with lib := [(8, 0x01), (9, 0x10)] } } : State).runsStep 0 img0 = true) ∧
    (Quiet day ∧ day.srv.next = none ∧ day.mayStart 0 = false) ∧ (day.canBuild = true ∧ day.pwr.endAll = false) ∧
    (Quiet State.reset ∧ State.reset.canBuild = false) := by
  refine ⟨by decide, ⟨⟨rfl, rfl⟩, rfl, by decide⟩, ⟨by decide, rfl⟩, ⟨⟨rfl, rfl⟩, by decide⟩⟩

/-! ### Descriptors -/

/-- A descriptor at index 0 of ring 0 with a handle. -/
def d0 (h : BitVec 32) : Desc := { ring := 0, index := 0, fence := false, handle := h, tag := 0, rsv := false }
/-- Its fetched entry, which takes entry 0 of the completion ring. -/
def f0 (op : DescOp) : Fetched := { delivered := false, bytes := [], desc := { ring := 0, index := 0, tag := 0, opcode := op.opcode, entry := 0 } }
/-- A state in which it was fetched. -/
def offer (s : State) (op : DescOp) : State := { s with hif := { s.hif with fetched := [f0 op] } }
/-- The bytes stored in T1 at `a`, as its list of cells. -/
def cells (a : Nat) (bs : List Byte) : List Host.Cell := (bs.zipIdx.map (fun e => (a + e.2, e.1))).filter (fun e => e.2 != 0)
/-- A state with those cells. -/
def withT1 (s : State) (cs : List Host.Cell) : State := { s with mem := { s.mem with hbm := cs } }
/-- A module in Day with an unprivileged ring 2 of tenant 1 that completes into ring 1, which is not privileged either. -/
def twoRings : State :=
  (day.setOut 1 { OutRing.absent with live := true, base := 0x9000, log2 := 4, tenant := 1 }).setSub 2
    { SubRing.absent with live := true, base := 0x8000, log2 := 4, tenant := 1, cq := 1 }
def d2 : Desc := { d0 0 with ring := 2 }
def f2 (op : DescOp) : Fetched := { f0 op with desc := { (f0 op).desc with ring := 2 } }
def offer2 (s : State) (op : DescOp) : State := { s with hif := { s.hif with fetched := [f2 op] } }

/-- A state whose Roster builds find the operation waiting alone. -/
def waiting (s : State) (d : Desc) (op : DescOp) : State := { offer s op with hif := { (offer s op).hif with stalled := [(d, op)] } }
/-- What makes a Roster build apply the operation that waits in `s`. -/
def BuildApplies (s : State) (d : Desc) (op : DescOp) : Prop :=
  s.canBuild = true ∧ s.rosterReady.hif.stalled = [(d, op)] ∧ s.rosterReady.fetchedAt d.ring.toNat d.index.toNat = some (f0 op) ∧
  s.rosterReady.stateWaits true op = false ∧ s.rosterReady.orderWaits d op = false

theorem BuildApplies.appliedBy {s : State} {d : Desc} {op : DescOp} (h : BuildApplies s d op) (x : Ext) :
    AppliedBy (.rosterBuild x) s d op (f0 op) s.rosterReady (fun t => ((t.unstall (d, op)).rosterRest x).finish) :=
  .inr ⟨x, rfl, ⟨h.1, rfl, h.2.1, h.2.2.1, h.2.2.2.1, h.2.2.2.2⟩, rfl⟩

theorem witness_DescriptorsAreDelivered :
    (Offered (offer day .nop) (.nop (d0 0)) (d0 0) .nop (f0 .nop) ∧ (offer day .nop).stateWaits false .nop = false ∧ (offer day .nop).orderWaits (d0 0) .nop = false ∧
      (offer day .nop).securityWaits (d0 0) .nop = false) ∧
    (let s := { offer day .permitRevoke with hif := { (offer day .permitRevoke).hif with stalled := [({ d0 0 with ring := 1 }, .permitRevoke)] } }
     Offered s (.permitRevoke (d0 0)) (d0 0) .permitRevoke (f0 .permitRevoke) ∧ s.orderWaits (d0 0) .permitRevoke = false ∧
       s.securityWaits (d0 0) .permitRevoke = true) ∧
    (let s := { offer day .modelUnload with pwr := { day.pwr with state := .night } }
     Offered s (.modelUnload (d0 3)) (d0 3) .modelUnload (f0 .modelUnload) ∧ s.stateWaits false .modelUnload = true) ∧
    (Quiet State.reset ∧ State.reset.pwr.state = .dawn) ∧
    Applies (offer day (.undefined 0x77)) (.undefinedOpcode (d0 0) 0x77) (d0 0) (.undefined 0x77) (f0 (.undefined 0x77)) ∧
    (definedOpcode 0x77 = false ∧ definedOpcode 0x48 = true) := by
  unfold Applies Offered Quiet; refine ⟨?_, ?_, ?_, ?_, ?_, ?_⟩ <;> decide +kernel

theorem witness_PrivilegedOperationsAreRefused :
    (Applies (offer2 twoRings .ringReset) (.ringReset d2) d2 .ringReset (f2 .ringReset) ∧ opPriv .ringReset = true ∧ (offer2 twoRings .ringReset).privOf d2 = false) ∧
    Applies (offer day .nop) (.nop (d0 0)) (d0 0) .nop (f0 .nop) ∧
    Applies (offer day .nop) (.nop (d0 1)) (d0 1) .nop (f0 .nop) := by
  unfold Applies Offered; refine ⟨?_, ?_, ?_⟩ <;> decide +kernel

def createOp : RingCreateOp :=
  { base := 0x4000, kind := 0, log2 := 4, priv := false, pasidEn := false, pasid := 0, tenant := 1, cq := 1, vector := 5, modCount := 1, modUs := 0, batchK := 0 }
def createOut : RingCreateOp := { createOp with kind := 2, log2 := 20, priv := true, batchK := 64 }

theorem witness_RingOperations :
    (let s := offer twoRings (.ringCreate createOp)
     (Applies s (.ringCreate (d0 1023) createOp) (d0 1023) (.ringCreate createOp) (f0 (.ringCreate createOp)) ∧ Permitted s (d0 1023) (.ringCreate createOp) ∧
       s.hasOut createOp.cq.toNat false = true ∧ (s.outRing createOp.cq.toNat).tenant = createOp.tenant.toNat ∧ (s.subRing 1023).live = false) ∧
     (Applies s (.ringCreate (d0 2) createOp) (d0 2) (.ringCreate createOp) (f0 (.ringCreate createOp)) ∧ (s.subRing 2).live = true)) ∧
    (let s := offer twoRings (.ringCreate createOut)
     Applies s (.ringCreate (d0 4095) createOut) (d0 4095) (.ringCreate createOut) (f0 (.ringCreate createOut)) ∧ Permitted s (d0 4095) (.ringCreate createOut) ∧
       (s.outRing 4095).live = false) ∧
    (let s := offer twoRings (.ringDestroy 0)
     Applies s (.ringDestroy (d0 2) 0) (d0 2) (.ringDestroy 0) (f0 (.ringDestroy 0)) ∧ (s.markDelivered (f0 (.ringDestroy 0)).desc).ringDestroyStatus (d0 2) 0 = 0) ∧
    (let s := offer (twoRings.setSub 2 SubRing.absent) (.ringDestroy 1)
     Applies s (.ringDestroy (d0 1) 1) (d0 1) (.ringDestroy 1) (f0 (.ringDestroy 1)) ∧ (s.markDelivered (f0 (.ringDestroy 1)).desc).ringDestroyStatus (d0 1) 1 = 0) ∧
    (let s := offer twoRings (.ringDestroy 1)
     Applies s (.ringDestroy (d0 1) 1) (d0 1) (.ringDestroy 1) (f0 (.ringDestroy 1)) ∧ Permitted s (d0 1) (.ringDestroy 1) ∧ s.hasOut 1 false = true ∧ s.namedCq 1 = true) ∧
    (let s := offer twoRings .ringReset
     Applies s (.ringReset (d0 2)) (d0 2) .ringReset (f0 .ringReset) ∧ Permitted s (d0 2) .ringReset ∧ (s.subRing 2).live = true) := by
  unfold Applies Offered Permitted; refine ⟨?_, ?_, ?_, ?_, ?_, ?_⟩ <;> decide +kernel

def windowOp : HostWindowOp := { pasid := 0, tenant := 1, write := true, valid := true, pages := 1048576, host := 0x1000 }
def quotaOp : QuotaOp := { pageLimit := 7, t2Limit := 8, marginLimit := 4096, ways := 3 }
/-- A stop set of one single token and one sequence of one token. -/
def stopBytes : List Byte := [1, 1, 0, 0, 0, 0, 0, 0, 1, 1, 1, 1, 1, 1, 1, 16]

theorem witness_TenantOperations :
    (let s := offer day (.hostWindow windowOp)
     Applies s (.hostWindow (d0 4095) windowOp) (d0 4095) (.hostWindow windowOp) (f0 (.hostWindow windowOp)) ∧ Permitted s (d0 4095) (.hostWindow windowOp)) ∧
    (let s := offer day (.tenantQuota quotaOp)
     Applies s (.tenantQuota (d0 1023) quotaOp) (d0 1023) (.tenantQuota quotaOp) (f0 (.tenantQuota quotaOp)) ∧ Permitted s (d0 1023) (.tenantQuota quotaOp)) ∧
    (let s := offer day (.tenantRules 9)
     Applies s (.tenantRules (d0 1023) 9) (d0 1023) (.tenantRules 9) (f0 (.tenantRules 9)) ∧ Permitted s (d0 1023) (.tenantRules 9) ∧
     Applies s (.tenantRules (d0 1024) 9) (d0 1024) (.tenantRules 9) (f0 (.tenantRules 9)) ∧ Permitted s (d0 1024) (.tenantRules 9)) ∧
    (let op := DescOp.stopsetWrite 0x1000 Ext.none
     let s := offer (withT1 day (cells 0x1000 stopBytes)) op
     Applies s (.stopsetWrite (d0 4095) 0x1000 Ext.none) (d0 4095) op (f0 op) ∧ Permitted s (d0 4095) op ∧
       s.meetsImage (s.tableAddr Off.srvStopsets + 768 * 4095) 768 = false ∧
       (let r := ((s.markDelivered (f0 op).desc).absorb Ext.none).outRead (.office 0) Ext.none 0x1000 768
        r.2.1 = 0 ∧ stopSetOk r.1 = true ∧ r.2.2.mem.hbmPoison = [] ∧ r.2.2.mem.hbmBad = [])) ∧
    (let op := DescOp.stopsetWrite 0x1000 Ext.none
     let s := offer (withT1 day [(0x1000, 33)]) op
     let r := ((s.markDelivered (f0 op).desc).absorb Ext.none).outRead (.office 0) Ext.none 0x1000 768
     Applies s (.stopsetWrite (d0 4095) 0x1000 Ext.none) (d0 4095) op (f0 op) ∧ Permitted s (d0 4095) op ∧
       s.meetsImage (s.tableAddr Off.srvStopsets + 768 * 4095) 768 = false ∧ r.2.1 = 0 ∧ stopSetOk r.1 = false ∧ r.2.2.mem.hbmPoison = [] ∧ r.2.2.mem.hbmBad = []) := by
  unfold Applies Offered Permitted; refine ⟨?_, ?_, ?_, ?_, ?_⟩ <;> decide +kernel

/-- A CALLEE lesson of one word, DELTA 1, for entry 255, with the CRC of its word. -/
def lessonBytes : List Byte := [0x32, 0x0B, 1, 1, 1, 0, 0, 0] ++ leBytes 2 (crc16 (1 :: List.replicate 127 0)) ++ [255] ++ List.replicate 117 0 ++ 1 :: List.replicate 127 0
def installOp : LessonInstallOp := { src := 0x1000, dest := 0x80000, wings := 9 }
def classOp : MemClassOp := { addr := 0x600000, count := 1, checked := true }
def poolOp : KvPoolOp :=
  { records := 0x20000000, recLog2 := 10, base0 := 0, log0 := 4, base1 := 0x8000000000, log1 := 4, base2 := 0x10000000000, log2 := 4, base3 := 0x18000000000, log3 := 25 }
def fillOp : MemCopyOp := { src := 0, dst := 0x40, length := 64, fill := true, pattern := 0x0123456789ABCDEF }

theorem witness_SetupOperations :
    (let op := DescOp.lessonInstall installOp Ext.none
     let s := offer (withT1 day (cells 0x1000 lessonBytes)) op
     Applies s (.lessonInstall (d0 255) installOp Ext.none) (d0 255) op (f0 op) ∧ Permitted s (d0 255) op ∧ placeOf installOp.src.toNat = .hbm ∧
       (let r := ((s.markDelivered (f0 op).desc).absorb Ext.none).outRead (.office 0) Ext.none 0x1000 128
        let r' := r.2.2.outRead (.office 0) Ext.none 0x1000 (128 * (lessonLen r.1 + 1))
        r.2.1 = 0 ∧ lessonLen r.1 ≠ 0 ∧ lessonLen r.1 ≤ 16777216 ∧ r'.2.1 = 0 ∧ lessonStatus r'.1 = 0 ∧ hfield r.1 10 1 = 255 ∧
          (∀ w ∈ wingsOf installOp.wings, installOp.dest.toNat + 128 * (lessonLen r.1 + 1) ≤ r'.2.2.scratchEnd w ∧ r'.2.2.entryValid w 255 = false))) ∧
    (let s := offer day (.lessonRemove 15)
     Applies s (.lessonRemove (d0 255) 15) (d0 255) (.lessonRemove 15) (f0 (.lessonRemove 15)) ∧ Permitted s (d0 255) (.lessonRemove 15) ∧
       s.mdl.slots.any (fun e => e.2.usesLessons) = false) ∧
    (let s := offer day (.memClass classOp)
     Applies s (.memClass (d0 0) classOp) (d0 0) (.memClass classOp) (f0 (.memClass classOp)) ∧ Permitted s (d0 0) (.memClass classOp) ∧
       s.meetsImage classOp.addr.toNat (classOp.count.toNat * 2 ^ 21) = false ∧ s.meetsPool classOp.addr.toNat (classOp.count.toNat * 2 ^ 21) = false ∧
       s.anySession = false) ∧
    (let s := offer day (.kvPool poolOp)
     Applies s (.kvPool (d0 0) poolOp) (d0 0) (.kvPool poolOp) (f0 (.kvPool poolOp)) ∧
       (s.markDelivered (f0 (.kvPool poolOp)).desc).kvPoolStatus (d0 0) poolOp = 0) ∧
    (let op := DescOp.memCopy fillOp Ext.none
     let s := offer day op
     Applies s (.memCopy (d0 0) fillOp Ext.none) (d0 0) op (f0 op) ∧ Permitted s (d0 0) op ∧ s.meetsImage fillOp.dst.toNat fillOp.length.toNat = false ∧
       s.anySession = false) := by
  unfold Applies Offered Permitted; refine ⟨?_, ?_, ?_, ?_, ?_⟩ <;> decide +kernel

/-! ### Images, sessions and security -/

/-- An image header: KIND, SPANS, IMAGE_ID, LENGTH, the fields of bytes 24-47 and HASH. -/
def imgHeader (kind spans id len : Nat) (fields : List Byte) (hash model : Nat) : List Byte :=
  leBytes 2 0x0B32 ++ leBytes 1 0x0A ++ leBytes 1 kind ++ leBytes 4 spans ++ leBytes 8 id ++ leBytes 8 len ++ fields ++ beBytes 32 hash ++ leBytes 8 model
/-- An entry of a span table. -/
def imgSpan (kind offset len dest : Nat) : List Byte := leBytes 1 kind ++ List.replicate 7 0 ++ leBytes 8 offset ++ leBytes 8 len ++ leBytes 6 dest ++ [0, 0]
/-- A model image at T1 address 0x10000000: three spans of 32 zero bytes, and its hash span. -/
def mdlCells : List Host.Cell :=
  cells 0x10000000 (imgHeader 0 4 0xA5 8388704 ([1, 1, 64, 0, 2, 0, 0, 0, 1, 0, 0, 0, 17] ++ List.replicate 7 0 ++ [1, 0, 0, 0])
    0xb16cc9df8f3a1d81a88462b1b4f6a58ff3751afb811f8a2bccf3dd1db5d9252b 0) ++
  cells 0x10000100 (imgSpan 1 0x200000 32 0x800000 ++ imgSpan 3 0x400000 32 0xA00000 ++ imgSpan 4 0x600000 32 0xC00000 ++ imgSpan 15 0x800000 96 0xE00000) ++
  cells 0x10800000 (zeroHash ++ zeroHash ++ zeroHash)
/-- A Margin-set image of the model 0xA5 at T1 address 0x10000000: one span of 32 zero bytes, and its hash span. -/
def setCells : List Host.Cell :=
  cells 0x10000000 (imgHeader 1 2 0xB6 4194336 ([1, 1] ++ List.replicate 12 0 ++ [0x81, 0x04] ++ List.replicate 8 0)
    0x8cc3716d5764e732cf514c0a1e1d9510b2518e9bf3c4a9d7ff7767e70021f9e3 0xA5) ++
  cells 0x10000100 (imgSpan 1 0x200000 32 0 ++ imgSpan 15 0x400000 32 0x200000) ++ cells 0x10400000 zeroHash
def loadOp : ModelLoadOp := { src := 0x10000000, golden := 0, golden2 := 0 }
/-- A module in Day whose Wings have entry 1 of their lesson tables VALID. -/
def ready (cs : List Host.Cell) : State :=
  { withT1 day cs with mem := { (withT1 day cs).mem with lib := [(8, 1), (0x40000008, 1), (0x80000008, 1), (0xC0000008, 1)] } }
def slotA : SlotRec := { slot0 with imageId := 0xA5 }
def installSet : MsetInstallOp := { set := 3, tenant := 1, src := 0x10000000, base := 0x1000000, golden := 0 }
/-- `day` with slot 0 RESIDENT, with room for Margin sets of tenant 1, and with host window 5 of tenant 0. -/
def modelled : State :=
  { day with mdl := { slots := [(0, slotA), (3, { slotA with sessions := 1 }), (4, { slotA with pins := 1 })],
                      vers := [(2, { VerRec.empty with state := .current, model := 0, set := 3, tenant := 1 })] }
             mem := { day.mem with quotas := [(1, { Quota.zero with marginLimit := 1 })],
                                   windows := [(5, { valid := true, write := true, tenant := 0, pasid := 0, pages := 5, host := 0x1000000 })] } }

theorem witness_ModelOperations :
    (let op := DescOp.modelLoad loadOp Ext.none
     let s := offer (ready mdlCells) op
     Applies s (.modelLoad (d0 63) loadOp Ext.none) (d0 63) op (f0 op) ∧ Permitted s (d0 63) op ∧ s.duskBusy = false ∧ (s.slotRec 63).state = .empty ∧
       goldenPlace loadOp.golden.toNat = true ∧ goldenPlace loadOp.golden2.toNat = true ∧
       (match ((s.markDelivered (f0 op).desc).absorb Ext.none).readImageAt (.image none (some 0)) Ext.none 0 0x10000000 none with
        | (.ok i, v) =>
          let w := (v.lookEntries (List.finRange 4) i.stepLesson true).lookEntries (List.finRange 4) i.idleLesson true
          modelFieldsOk i.head && w.lessonsOk i && w.destsOk i 0 && !w.destsMeet i 0 &&
            decide ((w.copyImage (.image none (some 0)) Ext.none i 0x10000000 0).1 = 0)
        | _ => false) = true) ∧
    (let s := offer modelled .modelUnload
     ∀ n ∈ [0, 3, 4], Applies s (.modelUnload (d0 (BitVec.ofNat 32 n))) (d0 (BitVec.ofNat 32 n)) .modelUnload (f0 .modelUnload) ∧
       Permitted s (d0 (BitVec.ofNat 32 n)) .modelUnload ∧ (s.slotRec n).state = .resident ∧ ((s.slotRec n).pins = 0 ↔ n ≠ 4)) ∧
    (let op := DescOp.modelGolden 1 2
     let s := offer modelled op
     Applies s (.modelGolden (d0 0) 1 2) (d0 0) op (f0 op) ∧ Permitted s (d0 0) op ∧ (s.slotRec 0).state ≠ .empty ∧ goldenPlace (1#48).toNat = true ∧ goldenPlace (2#48).toNat = true ∧
       Applies s (.modelGolden (d0 63) 1 2) (d0 63) op (f0 op) ∧ Permitted s (d0 63) op ∧ (s.slotRec 63).state = .empty) ∧
    (let op := DescOp.modelGolden 0x100000000000 2
     let s := offer modelled op
     Applies s (.modelGolden (d0 0) 0x100000000000 2) (d0 0) op (f0 op) ∧ Permitted s (d0 0) op ∧ goldenPlace (0x100000000000#48).toNat = false) ∧
    (let op := DescOp.modelQuery 0x200500000FC0 Ext.none
     let s := offer modelled op
     Applies s (.modelQuery (d0 63) ⟨0x200500000FC0, Ext.none⟩) (d0 63) op (f0 op) ∧ Permitted s (d0 63) op ∧
       s.meetsImage 0x200500000FC0 64 = false ∧ s.checkAccess (some (s.tenantOf (d0 63))) true 0x200500000FC0 64 = 0 ∧
       placeOf 0x200500000FC0 = .window 5 0xFC0 ∧ s.canIssue = true) ∧
    (let op := DescOp.msetInstall installSet Ext.none
     let s := waiting { modelled with mem := { modelled.mem with hbm := setCells } } (d0 0) op
     BuildApplies s (d0 0) op ∧
     let s := s.rosterReady
     Permitted s (d0 0) op ∧ s.msetDenied (d0 0) installSet = false ∧
       (s.slotRec 0).state = .resident ∧ goldenPlace installSet.golden.toNat = true ∧ installSet.base.toNat % chunkSize = 0 ∧
       (s.markDelivered (f0 op).desc).checkAccess (some (s.tenantOf (d0 0))) false 0x10000000 256 = 0 ∧
       (match ((s.markDelivered (f0 op).desc).absorb Ext.none).readImageAt (.image (some 0) (some 1)) Ext.none 1 0x10000000 none with
        | (.ok i, v) => marginFieldsOk i.head && decide (hfield i.head 80 8 = (s.slotRec 0).imageId) && decide ((s.slotRec 0).img.map (·.layers) = some i.layers) &&
            v.destsOk i 0x1000000 && (v.chargeMargin 1).1 && decide (v.emptyVersion = some 0) && !v.destsMeet i 0x1000000 &&
            decide (((v.chargeMargin 1).2.copyImage (.image (some 0) (some 1)) Ext.none i 0x10000000 0x1000000).1 = 0)
        | _ => false) = true) ∧
    (let op := DescOp.msetRemove 3
     let s := offer modelled op
     Applies s (.msetRemove (d0 0) 3) (d0 0) op (f0 op) ∧ Permitted s (d0 0) op ∧ s.currentVersion 0 3 = some 2 ∧ s.foreign (d0 0) (s.verRec 2).tenant = false) ∧
    (let op := DescOp.msetInstall installSet Ext.none
     let s := offer modelled op
     Offered s (.msetInstall (d0 0) installSet Ext.none) (d0 0) op (f0 op) ∧ s.pwr.state = .day) ∧
    (let op := DescOp.msetQuery 0x200500004FE0 Ext.none
     let s := offer modelled op
     Applies s (.msetQuery (d0 2) ⟨0x200500004FE0, Ext.none⟩) (d0 2) op (f0 op) ∧ Permitted s (d0 2) op ∧ (s.verRec 2).state ≠ .empty ∧
       s.foreign (d0 2) (s.verRec 2).tenant = false ∧ s.meetsImage 0x200500004FE0 32 = false ∧
       s.checkAccess (some (s.tenantOf (d0 2))) true 0x200500004FE0 32 = 0 ∧ placeOf 0x200500004FE0 = .window 5 0x4FE0 ∧ s.canIssue = true ∧
       Applies s (.msetQuery (d0 4095) ⟨0x200500004FE0, Ext.none⟩) (d0 4095) op (f0 op) ∧ Permitted s (d0 4095) op ∧ (s.verRec 4095).state = .empty) := by
  unfold BuildApplies Applies Offered Permitted; refine ⟨?_, ?_, ?_, ?_, ?_, ?_, ?_, ?_, ?_⟩ <;> decide +kernel

/-- `served` with output ring 1 a record ring of tenant 1 with room. -/
def turned (state : Nat) : State :=
  let s := (served state).setOut 1 { OutRing.absent with live := true, stream := true, base := 0x9000, log2 := 4, tenant := 1 }
  { s with mdl := { s.mdl with slots := [(0, { slot0 with pins := 1 })] } }
def openOp : SessionOpenOp :=
  { evictable := false, batch := false, publish := false, model := 0, tdLog2 := 4, tenant := 1, ring := 1, domain := 0, kvmap := 0x40000, tray := 0, seed := 7 }
def turnOp : TurnOp := { input := 0, count := 1, set := 0xFFFF, stopset := 0xFFFF, temp := 0, topK := 0, topP := 0, maxTokens := 0 }
def pauseOp : PauseOp := { window := 5, width := 8, ttl := 0, offset := 0, length := 20480 }
/-- A session that has taken no position. -/
def fresh0 : State := (turned 1).setSess 0 { sess0 1 with position := 0, node := noPage }
/-- A state whose session 0 stands in a step in flight. -/
def stepping (s : State) : State :=
  { s with srv := { s.srv with inFlight := true, plan := { s.srv.plan with sessions := [{ sess := 0, first := 0, newPos := 1, sample := false, bucket := 0, pt := 0, coarse := false, compact := false, whole := 0, sel := 0, resv := 0, toks := [] }] } } }

/-- `s` without poisoned or bad sectors of T1. -/
def Clean (s : State) : Prop := s.mem.hbmPoison = [] ∧ s.mem.hbmBad = []
/-- The state in which a build applies an operation of the session with handle 0x10000: the build's start, and the read of the session record. -/
def looked (s : State) (op : DescOp) : State := (s.rosterReady.markDelivered (f0 op).desc).lookHandle 0x10000

theorem witness_SessionsWait :
    (let op := DescOp.turn turnOp Ext.none
     let s := offer fresh0 op
     Offered s (.turn (d0 0x10000) turnOp Ext.none) (d0 0x10000) op (f0 op) ∧ rosterOp op = true ∧ s.pwr.state = .day) ∧
    (let op := DescOp.sessionOpen openOp
     let s := offer { turned 0 with pwr := { day.pwr with state := .morning } } op
     Applies s (.sessionOpen (d0 0) openOp) (d0 0) op (f0 op)) := by
  unfold Applies Offered; refine ⟨?_, ?_⟩ <;> decide +kernel

theorem witness_SessionsBegin :
    (let op := DescOp.sessionOpen openOp
     let s := waiting (turned 0) (d0 0) op
     BuildApplies s (d0 0) op ∧
     let v := s.rosterReady.markDelivered (f0 op).desc
     v.openStatus (d0 0) openOp = 0 ∧ v.freeSess = some 0 ∧ v.image openOp.model.toNat = some img0 ∧ img0.grid = [(0, 0)] ∧
       ∀ r : SessRec, r.kvmap = openOp.kvmap.toNat → rangesMeet (v.sessAddr 0) 256 (headRec r img0 0 0 + 7168) 32 = false) ∧
    (let op := DescOp.turn turnOp Ext.none
     let s := waiting fresh0 (d0 0x10000) op
     BuildApplies s (d0 0x10000) op ∧ (looked s op).findSess 0x10000 = some 0 ∧ (looked s op).turnStatus (d0 0x10000) turnOp Ext.none (some 0) = 0) := by
  unfold BuildApplies
  refine ⟨⟨by decide +kernel, by decide +kernel, by decide +kernel, by decide +kernel, by decide, fun r h => ?_⟩, by decide +kernel⟩
  unfold headRec rangesMeet; rw [h]; decide +kernel

theorem witness_SessionsEnd :
    (let op := DescOp.abortTurn
     let s := waiting (turned 2) (d0 0x10000) op
     BuildApplies s (d0 0x10000) op ∧ (looked s op).findSess 0x10000 = some 0 ∧ (looked s op).sessStatus (d0 0x10000) op (some 0) [2] = 0 ∧
       (looked s op).inStep 0 = false ∧ ((looked s op).outRing ((looked s op).sess 0).ring).room ≥ 1 ∧
       0 < ((looked s op).slotRec ((looked s op).sess 0).model).pins ∧ ((looked s op).sess 0).mset = 0xFFFF) ∧
    (let op := DescOp.abortTurn
     let s := waiting (stepping (turned 2)) (d0 0x10000) op
     BuildApplies s (d0 0x10000) op ∧ (looked s op).findSess 0x10000 = some 0 ∧ (looked s op).sessStatus (d0 0x10000) op (some 0) [2] = 0 ∧
       (looked s op).inStep 0 = true) ∧
    (let op := DescOp.sessionEnd
     let s := waiting (stepping (turned 2)) (d0 0x10000) op
     BuildApplies s (d0 0x10000) op ∧ (looked s op).findSess 0x10000 = some 0 ∧ (looked s op).sessStatus (d0 0x10000) op (some 0) [1, 2, 4] = 0 ∧
       ((looked s op).sess 0).state = 2 ∧ (looked s op).inStep 0 = true) ∧
    (let op := DescOp.sessionEnd
     let s := waiting (turned 1) (d0 0x10000) op
     BuildApplies s (d0 0x10000) op ∧ (looked s op).findSess 0x10000 = some 0 ∧ (looked s op).sessStatus (d0 0x10000) op (some 0) [1, 2, 4] = 0 ∧
       ((looked s op).sess 0).state = 1 ∧ (looked s op).sessBad 0 = false) := by
  unfold BuildApplies; refine ⟨?_, ?_, ?_, ?_⟩ <;> decide +kernel

theorem witness_SessionsMove :
    (let op := DescOp.pause pauseOp
     let s := waiting (turned 1) (d0 0x10000) op
     BuildApplies s (d0 0x10000) op ∧ (looked s op).findSess 0x10000 = some 0 ∧ (looked s op).pauseStatus (d0 0x10000) pauseOp (some 0) = 0 ∧
       ((looked s op).lookHeads 0).1 = false ∧ (looked s op).sessBad 0 = false) ∧
    (let op := DescOp.resume
     let s := waiting (turned 4) (d0 0x10000) op
     BuildApplies s (d0 0x10000) op ∧ (looked s op).findSess 0x10000 = some 0 ∧ (looked s op).sessStatus (d0 0x10000) op (some 0) [4] = 0 ∧
       (looked s op).duskBusy = false ∧ ((looked s op).lookHeads 0).1 = false ∧ (looked s op).sessBad 0 = false) := by
  unfold BuildApplies; refine ⟨?_, ?_⟩ <;> decide +kernel

theorem witness_SessionsRewindAndQuery :
    (let op := DescOp.sessionRewind 0
     let s := waiting ((turned 1).setSess 0 { sess0 1 with node := noPage }) (d0 0x10000) op
     BuildApplies s (d0 0x10000) op ∧ Permitted s.rosterReady (d0 0x10000) op ∧ (looked s op).findSess 0x10000 = some 0 ∧
       (looked s op).foreign (d0 0x10000) ((looked s op).sess 0).tenant = false) ∧
    (let op := DescOp.sessionRewind 64
     let s := waiting ((turned 1).setSess 0 { sess0 1 with node := noPage }) (d0 0x10000) op
     let v := looked s op
     BuildApplies s (d0 0x10000) op ∧ Permitted s.rosterReady (d0 0x10000) op ∧ v.findSess 0x10000 = some 0 ∧ v.foreign (d0 0x10000) (v.sess 0).tenant = false ∧
       64 ≤ v.rewindMax (v.sess 0) ∧ (v.sess 0).state = 1 ∧ v.image (v.sess 0).model = some img0 ∧ v.inHole (v.sess 0) img0 ((v.sess 0).position - 64) = false ∧
       (v.lookHeads 0).1 = false) ∧
    (let op := DescOp.sessionQuery 0x200600000F00 Ext.none
     let s := waiting ({ turned 1 with mem := { (turned 1).mem with windows := [(6, { valid := true, write := true, tenant := 0, pasid := 0, pages := 1, host := 0x1000000 })] } })
       (d0 0x10000) op
     let v := looked s op
     BuildApplies s (d0 0x10000) op ∧ Permitted s.rosterReady (d0 0x10000) op ∧ v.findSess 0x10000 = some 0 ∧ v.foreign (d0 0x10000) (v.sess 0).tenant = false ∧
       v.meetsImage 0x200600000F00 256 = false ∧ v.checkAccess (some (v.tenantOf (d0 0x10000))) true 0x200600000F00 256 = 0 ∧
       placeOf 0x200600000F00 = .window 6 0xF00 ∧ v.canIssue = true ∧ Clean v) := by
  unfold BuildApplies Permitted Clean; refine ⟨?_, ?_, ?_⟩ <;> decide +kernel

/-- An image header of format 0x0E with the vendor's signature (Gx, `s`) made with private key 1 and nonce 1: LENGTH 1, one stepping 0xA1, the IFACE entries
`faces`, the hash of the body [0]. -/
def imgHead (kind faces s : Nat) : List Byte :=
  leBytes 2 0x0B32 ++ leBytes 1 0x0E ++ leBytes 1 kind ++ leBytes 4 1 ++ leBytes 2 1 ++ leBytes 6 0 ++ leBytes 1 1 ++ leBytes 7 0 ++ leBytes 8 0xA1 ++ leBytes 64 faces ++
  leBytes 128 0 ++ beBytes 32 0x6e340b9cffb37a989ca544e6bb780a2c78901d3fb33738768511a30617afa01d ++ leBytes 8 1 ++ beBytes 32 p256Gx ++ beBytes 32 s ++ leBytes 184 0
def careHead : List Byte := imgHead 1 (0x01010202 + 0x01010203 * 2 ^ 64) 0x8363e10463146d15530036179d50bb890a6a01784d272e6fdc19f8467c8f106b
def trainHead : List Byte := imgHead 2 0x01010102 0x76ca827bf2919efda32456758dfdf5408f906b18bbb12770063f04064212c993
def tallyHead : List Byte := imgHead 3 0x01010103 0xf53802f1a0013a7f257864a0a30dc69c24247846b15cc750105b33f8ba1372ef
/-- A signed record: `body` with the signature (Gx, `s`). -/
def signedBy (body : List Byte) (s : Nat) : List Byte := body ++ beBytes 32 p256Gx ++ beBytes 32 s
/-- DEVICE of the module whose identity key is 1. -/
def device1 : List Byte := beBytes 32 0xd875db7def232236aec738c6b0bb3e80142f5d0fd8f4df24fed6eef5cbb50d9f
def enrolRec : List Byte := signedBy ([0x0B, 0, 0, 0, 5, 0, 0, 0] ++ device1 ++ leBytes 152 0) 0x002beb929732dba0bb20dea0287d2e77f894e916e652027f3fce9dde4e04c491
def configRec : List Byte := signedBy ([0x0C, 3, 0, 0, 6, 0, 0, 0] ++ device1 ++ leBytes 24 0) 0x2d50b3cd6853e45bc573fa2f6977f62aaab9cbc7a7f191cddc63548c4cca6b06
def permitRec : List Byte := signedBy ([0x0D, 1, 0, 0, 7, 0, 0, 0, 0xE8, 3, 0, 0] ++ device1 ++ leBytes 20 0) 0x5a7cd7cf33e5df1ff96ef895c2915f3b291483e3135cd385fbad7d3b88e050f4
/-- The flash with the vendor key of private key 1 and both images in bank A. -/
def flash1 : Memory := Memory.writeN (Memory.writeN (Memory.writeN [] 0x2000 (beBytes 32 p256Gx ++ beBytes 32 p256Gy)) 0x1000000 careHead) 0x1C00000 trainHead
/-- A module in Day that runs images of bank A, with the vendor key of private key 1 in its flash, the identity key 1 and no owner. -/
def keyed : State :=
  { modelled with sec := { modelled.sec with flash := cells 0x2000 (beBytes 32 p256Gx ++ beBytes 32 p256Gy), identity := some 1, vendorOk := true, ownerSet := true, booted := true,
                                             careHeader := careHead, trainHeader := trainHead } }
/-- A state with the flash `flash1`. -/
def banked (s : State) : State := { s with sec := { s.sec with flash := flash1 } }
def stageOp (n : BitVec 32) : StageOp := { src := 0x1000, length := n }
/-- `keyed` with bytes in T1 at 0x1000. -/
def sourced (bs : List Byte) : State := { keyed with mem := { keyed.mem with hbm := cells 0x1000 bs } }

/-- What the flash of `flash1` holds at both places of bank A and in the key area. -/
theorem flash1_reads :
    Memory.readN flash1 0x1C00000 512 = trainHead ∧ Memory.readN flash1 0x1000000 512 = careHead ∧ Memory.readN flash1 0x1C00200 1 = [0] ∧
      Memory.readN flash1 0x1000200 1 = [0] ∧ Memory.readN flash1 0x2000 64 = beBytes 32 p256Gx ++ beBytes 32 p256Gy := by
  have ha : careHead.length = 512 := by decide +kernel
  have hb : trainHead.length = 512 := by decide +kernel
  have hk : (beBytes 32 p256Gx ++ beBytes 32 p256Gy).length = 64 := by decide +kernel
  unfold flash1
  refine ⟨?_, ?_, ?_, ?_, ?_⟩
  · rw [← hb]; exact Memory.readN_writeN _ _ _
  · rw [Memory.readN_writeN_other _ _ _ _ _ (by omega), ← ha]; exact Memory.readN_writeN _ _ _
  · rw [Memory.readN_writeN_other _ _ _ _ _ (by omega), Memory.readN_writeN_other _ _ _ _ _ (by omega), Memory.readN_writeN_other _ _ _ _ _ (by omega)]; rfl
  · rw [Memory.readN_writeN_other _ _ _ _ _ (by omega), Memory.readN_writeN_other _ _ _ _ _ (by omega), Memory.readN_writeN_other _ _ _ _ _ (by omega)]; rfl
  · rw [Memory.readN_writeN_other _ _ _ _ _ (by omega), Memory.readN_writeN_other _ _ _ _ _ (by omega), ← hk]; exact Memory.readN_writeN _ _ _

/-- What the banks of a state with that flash hold. -/
theorem flash1_banks {s : State} (h : s.sec.flash = flash1) :
    s.bankHead false 1 = careHead ∧ s.bankHead false 2 = trainHead ∧ s.bankBody false 1 = [0] ∧ s.bankBody false 2 = [0] ∧
      s.vendorKey = beBytes 32 p256Gx ++ beBytes 32 p256Gy := by
  have hc : s.bankHead false 1 = careHead := by unfold State.bankHead State.flashBytes; rw [h]; exact flash1_reads.2.1
  have ht : s.bankHead false 2 = trainHead := by unfold State.bankHead State.flashBytes; rw [h]; exact flash1_reads.1
  have h1 : hfield careHead 4 4 = 1 := by decide +kernel
  have h2 : hfield trainHead 4 4 = 1 := by decide +kernel
  refine ⟨hc, ht, ?_, ?_, ?_⟩
  · unfold State.bankBody State.flashBytes; rw [hc, h1, h]; exact flash1_reads.2.2.2.1
  · unfold State.bankBody State.flashBytes; rw [ht, h2, h]; exact flash1_reads.2.2.1
  · unfold State.vendorKey State.flashBytes; rw [h]; exact flash1_reads.2.2.2.2

/-- Both images of bank A verify under the vendor key alone. -/
theorem flash1_verifies {s : State} (h : s.sec.flash = flash1) (hv : s.sec.vendorOk = true) :
    s.bankVerifies none false 1 = true ∧ s.bankVerifies none false 2 = true := by
  obtain ⟨h1, h2, h3, h4, h5⟩ := flash1_banks h
  unfold State.bankVerifies State.holdsImage State.verifies State.vendorSigned
  rw [h1, h2, h3, h4, h5, hv]
  refine ⟨?_, ?_⟩ <;> decide +kernel

theorem witness_FwImages :
    (let op := DescOp.fwQuery 0x200500000800 Ext.none
     let s := banked (offer keyed op)
     Applies s (.fwQuery (d0 0) ⟨0x200500000800, Ext.none⟩) (d0 0) op (f0 op) ∧ (s.markDelivered (f0 op).desc).secChecks (d0 0) op = 0 ∧
       placeOf 0x200500000800 = .window 5 0x800 ∧ (s.meetsImage 0x200500000800 2048 = false ∧
       s.checkAccess (some (s.tenantOf (d0 0))) true 0x200500000800 2048 = 0) ∧ s.canIssue = true ∧
       s.holdsImage false 1 = true) ∧
    (let op := DescOp.fwStage (stageOp 513) Ext.none
     let s := offer (sourced trainHead) op
     Applies s (.fwStage (d0 0) (stageOp 513) Ext.none) (d0 0) op (f0 op) ∧ (s.markDelivered (f0 op).desc).secChecks (d0 0) op = 0 ∧
       (let r := (s.markDelivered (f0 op).desc).srcRead (d0 0) Ext.none 0x1000 513
        r.2.1 = 0 ∧ r.2.2.fwStageStatus (r.1.take 512) (r.1.drop 512) 513 = 0 ∧ r.1.length = 513)) ∧
    (let op := DescOp.fwStage (stageOp 514) Ext.none
     let s := offer keyed op
     Applies s (.fwStage (d0 0) (stageOp 514) Ext.none) (d0 0) op (f0 op) ∧ (s.markDelivered (f0 op).desc).secChecks (d0 0) op = 0 ∧
       (let r := (s.markDelivered (f0 op).desc).srcRead (d0 0) Ext.none 0x1000 514
        r.2.1 = 0 ∧ r.2.2.fwStageStatus (r.1.take 512) (r.1.drop 512) 514 ≠ 0)) ∧
    (let op := DescOp.fwActivate false
     let s := banked (offer keyed op)
     Applies s (.fwActivate (d0 0) false) (d0 0) op (f0 op) ∧ (s.markDelivered (f0 op).desc).secChecks (d0 0) op = 0 ∧
       s.bankCode s.sec.owner s.sec.requireTested false = 0 ∧ s.counter 5 < 2 ^ 32) ∧
    (let op := DescOp.fwActivate true
     let s := offer keyed op
     Applies s (.fwActivate (d0 0) true) (d0 0) op (f0 op) ∧ (s.markDelivered (f0 op).desc).secChecks (d0 0) op = 0 ∧
       s.bankCode s.sec.owner s.sec.requireTested true ≠ 0) := by
  unfold Applies Offered
  refine ⟨⟨?_, ?_, rfl, ?_, rfl, ?_⟩, ?_, ?_, ⟨?_, ?_, ?_, ?_⟩, ?_⟩
  case refine_4 =>
    unfold State.holdsImage
    rw [(flash1_banks (s := banked (offer keyed (.fwQuery 0x200500000800 Ext.none))) (by simp only [banked])).1]
    decide +kernel
  case refine_9 =>
    have h : (banked (offer keyed (.fwActivate false))).sec.flash = flash1 := by simp only [banked]
    obtain ⟨h1, h2, -⟩ := flash1_banks h
    obtain ⟨h3, h4⟩ := flash1_verifies h rfl
    have ho : (banked (offer keyed (.fwActivate false))).sec.owner = none := rfl
    have hh : (banked (offer keyed (.fwActivate false))).holdsImage false 1 = true ∧ (banked (offer keyed (.fwActivate false))).holdsImage false 2 = true :=
      ⟨(Bool.and_eq_true_iff.1 h3).1, (Bool.and_eq_true_iff.1 h4).1⟩
    unfold State.bankCode
    simp only [ho, h1, h2, h3, h4, hh.1, hh.2]
    decide +kernel
  all_goals decide +kernel

theorem witness_FwCommitAndRollbook :
    (let op := DescOp.fwCommit 1
     let s := offer keyed op
     Applies s (.fwCommit (d0 0) 1) (d0 0) op (f0 op) ∧ (s.markDelivered (f0 op).desc).secChecks (d0 0) op = 0 ∧ s.counter 0 < imageSvn s.sec.careHeader) ∧
    (let op := DescOp.fwCommit 2
     let s := offer { keyed with sec := { keyed.sec with counters := [(1, 1)] } } op
     Applies s (.fwCommit (d0 0) 2) (d0 0) op (f0 op) ∧ (s.markDelivered (f0 op).desc).secChecks (d0 0) op = 0 ∧ imageSvn s.sec.trainHeader = s.counter 1) ∧
    (let op := DescOp.rbkFwStage (stageOp 513) Ext.none
     let s := offer { sourced tallyHead with pwr := { day.pwr with state := .morning } } op
     Applies s (.rbkFwStage (d0 0) (stageOp 513) Ext.none) (d0 0) op (f0 op) ∧ (s.markDelivered (f0 op).desc).secChecks (d0 0) op = 0 ∧ s.pwr.state ≠ .day ∧
       s.duskBusy = false ∧
       (let r := (s.markDelivered (f0 op).desc).srcRead (d0 0) Ext.none 0x1000 513
        r.2.1 = 0 ∧ imageKind (r.1.take 512) = 3 ∧ tallyVersion s.sec.careHeader (r.1.take 512) ≠ 0 ∧ s.rbkUntested (r.1.take 512) = false)) := by
  unfold Applies Offered; refine ⟨?_, ?_, ?_⟩ <;> decide +kernel

theorem witness_SecurityRecords :
    (let op := DescOp.ownerEnroll 0x1000 Ext.none
     let s := banked (offer (sourced enrolRec) op)
     Applies s (.ownerEnroll (d0 0) 0x1000 Ext.none) (d0 0) op (f0 op) ∧ (s.markDelivered (f0 op).desc).secChecks (d0 0) op = 0 ∧
       (let r := (s.markDelivered (f0 op).desc).srcRead (d0 0) Ext.none 0x1000 256
        r.2.1 = 0 ∧ r.2.2.enrolSigned r.1 = true ∧ r.2.2.isDevice ((r.1.drop 8).take 32) = true ∧ s.counter 2 < hfield r.1 4 4 ∧ hfield r.1 0 1 = 0x0B ∧
          zeros r.1 1 3 = true ∧ zeros r.1 104 88 = true ∧ r.2.2.noBankFor (ownerKey r.1) = false)) ∧
    (let op := DescOp.configWrite 0x1000 Ext.none
     let s := offer (sourced configRec) op
     Applies s (.configWrite (d0 0) 0x1000 Ext.none) (d0 0) op (f0 op) ∧ (s.markDelivered (f0 op).desc).secChecks (d0 0) op = 0 ∧
       (let r := (s.markDelivered (f0 op).desc).srcRead (d0 0) Ext.none 0x1000 128
        r.2.1 = 0 ∧ r.2.2.signed64 r.1 = true ∧ r.2.2.isDevice ((r.1.drop 8).take 32) = true ∧ s.counter 3 < hfield r.1 4 4 ∧ hfield r.1 0 1 = 0x0C ∧
          hfield r.1 1 1 < 4 ∧ zeros r.1 2 2 = true ∧ zeros r.1 40 24 = true)) ∧
    (let op := DescOp.permitInstall 0x1000 Ext.none
     let s := offer (sourced permitRec) op
     Applies s (.permitInstall (d0 0) 0x1000 Ext.none) (d0 0) op (f0 op) ∧ (s.markDelivered (f0 op).desc).secChecks (d0 0) op = 0 ∧
       (let r := (s.markDelivered (f0 op).desc).srcRead (d0 0) Ext.none 0x1000 128
        r.2.1 = 0 ∧ r.2.2.signed64 r.1 = true ∧ r.2.2.isDevice ((r.1.drop 12).take 32) = true ∧ s.counter 4 < hfield r.1 4 4 ∧ hfield r.1 8 4 ≠ 0 ∧
          hfield r.1 0 1 = 0x0D ∧ hfield r.1 1 1 < 2 ∧ zeros r.1 2 2 = true ∧ zeros r.1 44 20 = true)) ∧
    (let op := DescOp.permitRevoke
     let s := offer day op
     Applies s (.permitRevoke (d0 0)) (d0 0) op (f0 op) ∧ (s.markDelivered (f0 op).desc).secChecks (d0 0) op = 0 ∧ s.sec.permit = none) ∧
    (let op := DescOp.permitRevoke
     let p : Permit := { serial := 7, grants := 1, endMs := 5 }
     let s := offer { day with sec := { day.sec with permit := some p } } op
     Applies s (.permitRevoke (d0 0)) (d0 0) op (f0 op) ∧ (s.markDelivered (f0 op).desc).secChecks (d0 0) op = 0 ∧ s.sec.permit = some p ∧ s.srv.nowMs < p.endMs ∧
       p.endMs ≤ ({ s with srv := { s.srv with nowMs := 5 } } : State).srv.nowMs) := by
  unfold Applies Offered
  have hf : ∀ s : State, s.sec.flash = flash1 → (s.srcRead (d0 0) Ext.none 0x1000 256).2.2.sec.flash = flash1 := fun s h => by rw [srcRead_sec, h]
  refine ⟨⟨?_, ?_, ?_, ?_, ?_, ?_, ?_, ?_, ?_, ?_⟩, ?_, ?_, ?_, ?_⟩
  case refine_4 =>
    unfold State.enrolSigned State.vendorSigned
    rw [(flash1_banks (hf (State.markDelivered _ _) (by simp only [banked, State.markDelivered]))).2.2.2.2, srcRead_sec]
    decide +kernel
  case refine_10 =>
    obtain ⟨h1, h2⟩ := flash1_verifies (hf (State.markDelivered (banked (offer (sourced enrolRec) (.ownerEnroll 0x1000 Ext.none))) (f0 (.ownerEnroll 0x1000 Ext.none)).desc)
      (by simp only [banked, State.markDelivered])) (by rw [srcRead_sec]; rfl)
    have h3 : ownerKey ((State.markDelivered (banked (offer (sourced enrolRec) (.ownerEnroll 0x1000 Ext.none))) (f0 (.ownerEnroll 0x1000 Ext.none)).desc).srcRead (d0 0)
      Ext.none 0x1000 256).1 = none := by decide +kernel
    simp only [h3, State.noBankFor, List.any_cons, h1, h2, Bool.and_self, Bool.true_or, Bool.not_true]
  all_goals decide +kernel

/-! ### The host interface, power, resets and module states -/

/-- A module in Day that polls. -/
def polling : State := day.setReg Off.hifCtrl 1
def poll0 (cells : List Host.Cell) : PollIn := { host := cells, failSummary := false, failGroups := [], failRings := [], l0p := 0 }
/-- A summary count of 1 and a producer index. -/
def announce (p : Byte) : PollIn := poll0 [(0, 1), (0x1000, p)]
/-- Whether the hypotheses of a poll's fetch hold: one summary counter has moved and no other. -/
def pollOk (s : State) (p : PollIn) : Prop :=
  let m := p.host.foldl (fun m c => Memory.write m c.1 c.2) s.mem.host
  s.enabled = true ∧ s.canIssue = true ∧ s.hif.stalled = [] ∧ s.pwr.state ≠ .twilight ∧ p.failSummary = false ∧ p.failGroups = [] ∧ p.failRings = [] ∧
    (∀ e ∈ s.hif.subs, e.2.live = false ∨ e.1 = 0) ∧ (s.subRing 0).error = false ∧ Memory.readLE m (s.doorbell 0) 8 ≠ Sparse.get (fun _ => 0) s.hif.summary 0 ∧
    (∀ g, g < 16 → g = 0 ∨ Memory.readLE m (s.doorbell (8 * g)) 8 = Sparse.get (fun _ => 0) s.hif.summary g) ∧ 1 ≤ s.regField Off.hmPoll 12 7
/-- One output ring with a message that waits. -/
def moderated (n : Nat) : State :=
  { day with hif := { day.hif with outs := [(4095, { OutRing.absent with live := true, log2 := 4, modCount := 2, pending := n, since := some 0 })] } }
/-- Telemetry of `n` groups every ms into a ring of 16 entries. -/
def telemetry (live : Bool) : State :=
  let s := day.setReg Off.hifTelemetryCtrl 0x10001
  { s with hif := { s.hif with tel := { OutRing.absent with live := live, base := 0x8000, log2 := 4 } } }
/-- A booted Caretaker in Day with a heartbeat address and its event ring. -/
def beating : State := let s := day.setReg Off.hifHeartbeat 0x4000; { s with sec := { s.sec with booted := true }, hif := { s.hif with evReady := true } }

/-- A module in Midnight with the supplies given and PERST# deasserted. -/
def midnight (standby main perst : Bool) : State :=
  { State.reset with pwr := { Power.reset with state := .midnight, standbyOk := standby, mainOk := main, perst := perst } }

theorem witness_HostInterfaceSteps :
    (State.reset.enabled = false ∨ State.reset.canIssue = false) ∧
    (pollOk polling (announce 1) ∧ Memory.readLE [(0, 1), (0x1000, 1)] (polling.doorbell 0x1000) 8 = (polling.subRing 0).cons + 1 ∧ 1 ≤ (polling.outRing 0).room) ∧
    (pollOk polling (announce 255) ∧ (polling.subRing 0).cons + 2 ^ (polling.subRing 0).log2 < Memory.readLE [(0, 1), (0x1000, 255)] (polling.doorbell 0x1000) 8) ∧
    ((∃ r : OutRing, (moderated 2).hif.outs = [(4095, r)] ∧ r.live = true ∧ r.due ((moderated 2).hif.ticks + 1) = true) ∧
      ∃ r : OutRing, (moderated 1).hif.outs = [(4095, r)] ∧ r.live = true ∧ r.due ((moderated 1).hif.ticks + 1) = false) ∧
    (let s := telemetry true
     let k := 1 + ceilDiv (s.regField Off.hifTelemetryCtrl 16 7) 8
     s.regField Off.hifTelemetryCtrl 0 16 ≠ 0 ∧ s.hasFunction = true ∧ (s.telRing k).live = true ∧ s.hif.d3 = false ∧ k ≤ (s.telRing k).room) ∧
    (let s := telemetry false
     s.regField Off.hifTelemetryCtrl 0 16 ≠ 0 ∧ s.hasFunction = true ∧ (s.telRing 2).live = false) ∧
    (day.regField Off.hifTelemetryCtrl 0 16 = 0 ∧ beating.beats = true ∧ day.beats = false) ∧
    (day.bar0On = true ∧ day.enabled = false ∧ day.hif.evReady = false ∧ polling.bar0On = true ∧ polling.enabled = true) ∧
    (day.hasFunction = true ∧ day.hif.d3 = false ∧ day.hif.bme = true ∧ marked day.fab.realign 16 = false) ∧
    ((midnight true true true).bar0On = false ∧ (midnight true true true).hasFunction = false ∧ ({ day with hif := { day.hif with d3 := true } } : State).hif.d3 = true) ∧
    (([0, 0, 0, 0] : List Byte).length = 4 ∧ (([0, 0, 0, 0] : List Byte).getD 0 0).getLsbD 0 = false ∧ (([1, 0, 0, 0] : List Byte).getD 0 0).getLsbD 0 = true) := by
  unfold pollOk
  refine ⟨?_, ?_, ?_, ⟨⟨_, rfl, rfl, ?_⟩, ⟨_, rfl, rfl, ?_⟩⟩, ?_, ?_, ?_, ?_, ?_, ?_, ?_⟩ <;> decide +kernel

theorem witness_SuppliesAndResets :
    (day.pwr.state ≠ .midnight ∧ day.pwr.standbyOk = true) ∧ ((midnight true true false).pwr.state = .midnight ∧ ResetSource.linkDown ≠ .perst) ∧
    ((midnight true false false).pwr.standbyOk = true ∧ (midnight true false false).pwr.perst = false) ∧
    ((midnight true false true).pwr.perst = true ∧ (midnight false false false).pwr.standbyOk = false) ∧
    ((midnight true true true).pwr.standbyOk = true ∧ (midnight true true true).pwr.mainOk = true ∧ 10 ≤ (midnight true true true).pwr.leadMs) ∧
    (let s := { midnight true true false with pwr := { (midnight true true false).pwr with leadMs := 9 } }
     s.pwr.state = .midnight ∧ s.pwr.leadMs < 10) := by
  decide

/-- A module in a state of Morning, booted. -/
def morning (tested ready : Bool) : State :=
  { State.reset with
    pwr := { Power.reset with state := .morning, tested := tested, ready := ready }
    sec := { Security.reset with booted := true, requireMetering := true }
    hif := { State.reset.hif with linkSpeed := if tested then 6 else 0 }
    mem := { MemSys.reset with hbmStacks := MemSys.reset.hbmStacks.map (fun k => { k with trained := tested }) } }
def good : MorningIn := { failed := none, link := { speed := 6, wide := true, flit := true }, answers := true }
/-- A Morning in which the Rollbook has not answered yet. -/
def asked (metering : Bool) : State :=
  { morning true false with sec := { (morning true false).sec with asking := some good.link, requireMetering := metering } }
/-- `day` in another state. -/
def dayIn (m : ModState) : State := { day with pwr := { day.pwr with state := m } }

/-- SHA-256 of a key area of 64 zero bytes, as FIPS 180-4 gives it. -/
def keyHash : List Byte := sha256 (List.replicate 64 0)
/-- A module in Dawn whose ROM holds `rom` as the hash of the vendor key, with the flash counters `cs`. -/
def dawnOf (rom : List Byte) (cs : Sparse Nat) : State := { State.reset with sec := { State.reset.sec with romHash := rom, counters := cs } }
/-- Its state when Dawn has accepted the vendor key and looked at the enrolment. -/
def atDawn (rom : List Byte) (cs : Sparse Nat) (x : BitVec 256) : State :=
  let s := { dawnOf rom cs with sec := { (dawnOf rom cs).sec with identity := some (identityOf x.toNat), vendorOk := true } }
  s.verifyFails s.enrolFails

theorem witness_ModuleStates :
    (day.pwr.state ≠ .dawn ∧ State.reset.pwr.state = .dawn) ∧
    (∀ x : BitVec 256, (sha256 (dawnOf [] []).vendorKey ≠ (dawnOf [] []).sec.romHash ∧ (dawnOf [] []).pwr.state = .dawn) ∧
      (sha256 (dawnOf keyHash []).vendorKey = (dawnOf keyHash []).sec.romHash ∧ (atDawn keyHash [] x).enrolment = none ∧ (atDawn keyHash [] x).counter 2 = 0) ∧
      (sha256 (dawnOf keyHash [(2, 1)]).vendorKey = (dawnOf keyHash [(2, 1)]).sec.romHash ∧ (atDawn keyHash [(2, 1)] x).enrolment = none ∧
        0 < (atDawn keyHash [(2, 1)] x).counter 2)) ∧
    ((morning false false).pwr.state = .morning ∧ (morning false false).pwr.tested = false ∧ (morning false false).sec.booted = true ∧ good.failed = none) ∧
    ((morning true false).pwr.tested = true ∧ (morning true false).pwr.ready = false ∧ (asked true).sec.asking = some good.link ∧ (asked true).pwr.state = .morning ∧
      (asked true).sec.requireMetering = true ∧ (asked false).sec.requireMetering = false ∧ (asked false).sec.asking = some good.link ∧
      (morning true false).sec.asking = none) ∧
    (morning true false).readyDue = true ∧
    (((dayIn .dusk).bar0On = true ∧ (dayIn .dusk).pwr.state = .dusk) ∧ (day.bar0On = true ∧ day.pwr.state = .day) ∧ (dayIn .dusk).isDrained = true) ∧
    (let s := { (dayIn .dusk).setReg Off.pwrDusk 5 with srv := { Serving.reset with nowMs := 5, inFlight := true } }
     s.regField Off.pwrDusk 0 32 ≠ 0 ∧ s.pwr.duskMs + s.regField Off.pwrDusk 0 32 ≤ s.srv.nowMs ∧ s.pwr.duskDone = false ∧ s.isDrained = false) := by
  refine ⟨by decide, fun x => ?_, ?_, ?_, ?_, ?_, ?_⟩
  · have h : ∀ t : State, t.sec.flash = [] → t.sec.vendorOk = true → t.enrolment = none := fun t h ho => by
      have hs : ∀ i, i < 2 → ecdsaVerify State.reset.vendorKey ((State.reset.enrolCopy i).take 192) (((State.reset.enrolCopy i).drop 192).take 64) = false := by
        decide +kernel
      unfold State.enrolment
      rw [List.find?_eq_none]
      intro i hi
      have hb : t.enrolSigned (t.enrolCopy i) = false := by
        have := hs i (List.mem_range.1 hi)
        unfold State.vendorKey State.enrolCopy State.flashBytes at this
        unfold State.enrolSigned State.vendorSigned State.vendorKey State.enrolCopy State.flashBytes
        rw [h, ho, Bool.true_and]; exact this
      simp [hb]
    have hv : ∀ (s : State) (n : Nat), (s.verifyFails n).sec = s.sec := fun s n => by unfold State.verifyFails; split <;> rfl
    have he : ∀ rom cs, (atDawn rom cs x).enrolment = none := fun rom cs => h _ (by unfold atDawn; rw [hv]; rfl) (by unfold atDawn; rw [hv])
    have hc : ∀ rom cs, (atDawn rom cs x).counter 2 = Sparse.get (fun _ => 0) cs 2 := fun rom cs => by unfold State.counter atDawn; rw [hv]; rfl
    exact ⟨⟨by decide +kernel, rfl⟩, ⟨by decide +kernel, he _ _, by rw [hc]; rfl⟩, ⟨by decide +kernel, he _ _, by rw [hc]; decide⟩⟩
  all_goals decide +kernel

/-- A fault of link 7, and what is no fault. -/
def audit (credits : Nat) : Audit := { link := 7, away := true, channel := 3, credits := credits, freed := 0 }
/-- A step in flight on Wing 3 that began at 0 with a watchdog of 5 ms, at 5 ms. -/
def lateStep : State :=
  let s := (day.modSeq 3 (fun q => { q with phase := .running })).modSeq 0 (fun q => q)
  { s with srv := { s.srv with inFlight := true, watchdog := 5, nowMs := 5 } }
def sample (w : Nat) : PowerIn := { watts := w, t0 := 40, t1 := 40, t2 := 40, t3 := 40, t4 := 40 }

theorem witness_PowerControlAndFaults :
    (((day.modRoom 31 (fun r => { r with power := .inClass })).room u31.idx).power = .inClass ∧ day.restful u31.w = true ∧ (day.setReg Off.pwrClass 0x10001).restful u31.w = true ∧
      (day.setReg Off.pwrClass 0x10001).regField Off.pwrClass 0 16 ≠ 0 ∧ (day.setReg Off.pwrClass 0x10001).regField Off.pwrClass 0 16 ≤ 1 ∧
      (day.setReg Off.pwrClass 0x10001).regField Off.pwrClass 16 16 ≠ 0 ∧ (day.setReg Off.pwrClass 0x10001).regField Off.pwrClass 16 16 ≤ 1) ∧
    (lateStep.restful 3 = false ∧ day.clocked = true) ∧
    (let s := day.setWing 3 { day.wing 3 with stretched := true }
     (s.wing u31.w).stretched = true ∧ s.regField Off.pwrDroop 0 16 ≤ 65535) ∧
    (day.hasFunction = true ∧ 1900 < (sample 1901).watts ∧ marked day.commits 0 = false ∧
      marked ({ day with commits := [(0, true)] } : State).commits 0 = true ∧ ({ day with commits := [(0, true)] } : State).hasFunction = true) ∧
    (day.faultable = true ∧ day.hif.stalled = [] ∧ day.regField Off.errStatus 0 4 = 0) ∧
    (day.auditHolds (audit 127) = false ∧ day.auditHolds (audit 128) = true) ∧
    ((dayIn .twilight).pwr.state = .twilight ∧ (dayIn .twilight).regField Off.errStatus 0 4 = 0) ∧
    (((day.modStack 31 (fun t => { t with trained := true })).stack 31).trained = true ∧ (day.stack 31).trained = false) ∧
    (lateStep.faultable = true ∧ lateStep.srv.watchdog ≠ 0 ∧ lateStep.srv.startMs + lateStep.srv.watchdog ≤ lateStep.srv.nowMs ∧ lateStep.lateWing = some 3) ∧
    (day.srv.watchdog = 0 ∧ day.srv.inFlight = false ∧ day.srv.next = none ∧ day.activeSessions = []) := by
  refine ⟨?_, ?_, ?_, ?_, ?_, ?_, ?_, ?_, ?_, ?_⟩ <;> decide +kernel

/-! ### The Corridor fabric and Assembly -/

/-- A context's record: LIVE, of Assembly or of an export of one page of T1 at 0x10000 that may be written, bound to port 3 with tag 0xBEEF. -/
def ctxBytes (assembly : Bool) : List Byte :=
  leBytes 8 (1 + b2n assembly * 8 + 3 * 16 + 0xBEEF * 65536) ++ List.replicate 24 0 ++ leBytes 4 (0x400 + 16 * 65536) ++ leBytes 4 1 ++ leBytes 6 0x10000 ++ [0, 0]
def liveCtx (assembly : Bool) : Ctx := { Ctx.free with state := 1, bytes := ctxBytes assembly, rate := 200000, credit := 16, rto := 100 }
/-- A module in Day whose port 3 is up, with context 4095. -/
def linked (c : Ctx) : State :=
  let s := (day.setReg Off.fabCtrl (BitVec.ofNat 64 (3 + 4791 * 2048))).setReg (Off.fabPortIpv4 3) 10
  { s with fab := { s.fab with ctxs := [(4095, c)], up := [(3, true)] } }
/-- A frame for port 3, to IPv4 address 10.0.0.0, the Corridor's UDP port and version. -/
def dest3 : FrameDest := { mac := BitVec.ofNat 48 (portMac 3), v6 := false, ip := 10, udp := 4791, version := 1 }
/-- A packet for it with the CRC of its type. -/
def packet (type : Nat) (psn : BitVec 32) (arg1 : BitVec 64) (arg2 : BitVec 64) (payload : List Byte) : Packet :=
  let p : Packet := { port := 3, dest := dest3, last := true, retx := false, tag := 0xBEEF, ctx := 4095, psn := psn, ackPsn := 0, sack := 0, credits := 16, ece := 0, arg1 := arg1,
                      arg2 := arg2, payload := payload, crc := 0, ce := false }
  { p with crc := BitVec.ofNat 32 (crc32c (packetHeader p type ++ payload)) }
/-- Whether port 3 has the addresses of `dest3`. -/
def addressed3 (s : State) : Bool := decide (s.regField Off.fabCtrl 11 16 = 4791) && decide (s.portIp4 3 = [10, 0, 0, 0])
/-- What taking a packet asks beside its address. -/
def takesRest (s : State) (p : Packet) (type : Nat) : Bool :=
  s.portLive 3 && decide (p.payload.length ≤ 4096) && packetCrcOk p type && decide ((s.ctx p.ctx.toNat).state = 1) && decide ((s.ctx p.ctx.toNat).tag = p.tag.toNat)

theorem addressed_of {s : State} {p : Packet} (hp : p.port = 3) (hd : p.dest = dest3) (h : addressed3 s = true) : s.addressed p = true := by
  have hm : (BitVec.ofNat 48 (portMac 3)).toNat = portMac 3 := by rw [BitVec.toNat_ofNat]; unfold portMac; rw [Nat.mod_mod]
  have hi : (leBytes 16 dest3.ip.toNat).take 4 = [10, 0, 0, 0] ∧ (leBytes 16 dest3.ip.toNat).any (fun b => b != 0) = true := by decide +kernel
  unfold addressed3 at h
  rw [Bool.and_eq_true, decide_eq_true_eq, decide_eq_true_eq] at h
  have hu : dest3.udp.toNat = 4791 ∧ dest3.version = 1#4 ∧ dest3.v6 = false := ⟨rfl, rfl, rfl⟩
  have hmac : dest3.mac.toNat = portMac 3 := hm
  unfold State.addressed
  rw [hp, hd]
  have h4 : s.portIp4 (3 : Fin 16).val = [10, 0, 0, 0] := h.2
  have hp3 : portMac (3 : Fin 16).val = portMac 3 := rfl
  simp only [hmac, hu, hi, h.1, h4, hp3, decide_true, Bool.and_true, Bool.false_eq_true, if_false]

theorem not_addressed {s : State} {p : Packet} (h : p.dest.udp.toNat ≠ s.regField Off.fabCtrl 11 16) : s.addressed p = false := by
  unfold State.addressed
  simp [h]

theorem takes_of {s : State} {p : Packet} {type : Nat} (hp : p.port = 3) (hd : p.dest = dest3) (h : addressed3 s = true) (hr : takesRest s p type = true) :
    s.takes p type = true := by
  unfold takesRest at hr
  unfold State.takes
  rw [addressed_of hp hd h, hp, Bool.and_true]
  exact hr

/-- What every data packet statement asks of the context. -/
def ctxReady (s : State) : Prop :=
  (s.ctx 4095).held = [] ∧ (s.ctx 4095).buf = [] ∧ (s.ctx 4095).rxPsn < 2 ^ 32 ∧ s.mem.hbmPoison = [] ∧ s.mem.hbmBad = []

/-- The context with its sixteen buffers full of packets beyond a gap. -/
def fullCtx : Ctx :=
  { liveCtx false with buf := (List.range 16).map (fun i => (i + 1, some { type := 0, last := true, arg1 := 0, arg2 := 0, payload := [] })) }

theorem witness_CorridorDataPackets :
    (ctxReady (linked (liveCtx false)) ∧ ctxReady (linked (liveCtx true)) ∧ ((linked (liveCtx false)).ctx 4095).rxPsn = 0 ∧
      ((linked (liveCtx false)).ctx 4095).credits ≠ 0 ∧ ((linked (liveCtx true)).ctx 4095).credits ≠ 0) ∧
    ((linked fullCtx).takes (packet 0 17 0 0 [7]) 0 = true ∧ psnSub 17 ((linked fullCtx).ctx 4095).rxPsn < 256 ∧
      (Sparse.get (fun _ => none) ((linked fullCtx).ctx 4095).buf 17).isSome = false ∧ ((linked fullCtx).ctx 4095).credits ≤ ((linked fullCtx).ctx 4095).holding) ∧
    ((linked (liveCtx false)).takes (packet 0 0 0xFFF 0 [7]) 0 = true ∧ (liveCtx false).assembly = false ∧ (liveCtx false).exportStatus true 0xFFF 1 = 0) ∧
    ((linked (liveCtx false)).takes (packet 0 0 0x1000 0 [7]) 0 = true ∧ (liveCtx false).exportStatus true 0x1000 1 ≠ 0) ∧
    ((linked (liveCtx false)).takes (packet 1 0 0 0x1000 []) 1 = true ∧ (liveCtx false).exportStatus false 0 0x1000 = 0 ∧
      (let s := { linked (liveCtx false) with fab := { (linked (liveCtx false)).fab with paused := [(3, true)] } }
       s.takes (packet 1 0 0 0x1000 []) 1 = true ∧ s.portBlocked (s.ctx 4095).port = true)) ∧
    (linked (liveCtx false)).takes (packet 2 0 0 0 [1, 2]) 2 = true ∧
    ((linked (liveCtx true)).takes (packet 3 0 0 0 [1, 2]) 3 = true ∧ (liveCtx true).assembly = true) ∧
    ((linked (liveCtx false)).takes (packet 0 256 0 0 [7]) 0 = true ∧ 256 ≤ psnSub 256 0) ∧
    ((linked (liveCtx false)).takes (packet 0 255 0 0 [7]) 0 = true ∧ 0 < psnSub 255 0 ∧ psnSub 255 0 < 256) ∧
    (day.portLive 3 = false ∧ (linked (liveCtx false)).portLive 3 = true ∧
      (linked (liveCtx false)).addressed { packet 0 0 0 0 [7] with dest := { dest3 with udp := 4790 } } = false) ∧
    ((linked (liveCtx false)).addressed { packet 0 0 0 0 [7] with crc := 0 } = true ∧ packetCrcOk { packet 0 0 0 0 [7] with crc := 0 } 0 = false) ∧
    ((linked Ctx.free).addressed (packet 0 0 0 0 [7]) = true ∧ packetCrcOk (packet 0 0 0 0 [7]) 0 = true ∧ ((linked Ctx.free).ctx 4095).state ≠ 1 ∧
      (linked Ctx.free).portLive 3 = true) := by
  have ht : ∀ {s : State} {p : Packet} {type : Nat}, p.port = 3 → p.dest = dest3 → addressed3 s = true → takesRest s p type = true → s.takes p type = true :=
    fun a b c d => takes_of a b c d
  unfold ctxReady
  refine ⟨by decide +kernel, ⟨ht rfl rfl (by decide +kernel) (by decide +kernel), by decide +kernel⟩,
    ⟨ht rfl rfl (by decide +kernel) (by decide +kernel), by decide +kernel⟩, ⟨ht rfl rfl (by decide +kernel) (by decide +kernel), by decide +kernel⟩,
    ⟨ht rfl rfl (by decide +kernel) (by decide +kernel), by decide +kernel, ht rfl rfl (by decide +kernel) (by decide +kernel), by decide +kernel⟩,
    ht rfl rfl (by decide +kernel) (by decide +kernel), ⟨ht rfl rfl (by decide +kernel) (by decide +kernel), by decide +kernel⟩,
    ⟨ht rfl rfl (by decide +kernel) (by decide +kernel), by decide +kernel⟩, ⟨ht rfl rfl (by decide +kernel) (by decide +kernel), by decide +kernel⟩,
    ⟨by decide +kernel, by decide +kernel, not_addressed (by decide +kernel)⟩, ⟨addressed_of rfl rfl (by decide +kernel), by decide +kernel⟩,
    ⟨addressed_of rfl rfl (by decide +kernel), by decide +kernel⟩⟩

def sentPkt (psn : Nat) : Unacked := { psn := psn, seg := { type := 0, last := true, arg1 := 0, arg2 := 0, payload := [9] }, resent := false }
/-- The context with two packets sent and not acknowledged. -/
def sending : Ctx := { liveCtx false with txPsn := 2, unacked := [sentPkt 0, sentPkt 1], arrived := 1 }

theorem witness_CorridorAcks :
    (let p : Packet := { packet 4 0 0 0 [] with ackPsn := 1 }
     let p := { p with crc := BitVec.ofNat 32 (crc32c (packetHeader p 4)) }
     (linked sending).takes p 4 = true ∧ p.ce = false ∧ sending.queue = [] ∧ psnSub 1 sending.ackPsn ≤ psnSub sending.txPsn sending.ackPsn ∧ 0 < psnSub 1 sending.ackPsn) ∧
    ((linked sending).takes (packet 5 0 0 0 []) 5 = true ∧ (packet 5 0 0 0 []).ce = false) := by
  refine ⟨⟨takes_of rfl rfl (by decide +kernel) (by decide +kernel), by decide +kernel⟩, takes_of rfl rfl (by decide +kernel) (by decide +kernel), rfl⟩

/-- Packet `n` of the context, sent late or not; and a context with `d` delayed and `r` reordered, of three packets sent. -/
def frameN (n : Nat) (late : Bool) : WireFrame := { (liveCtx false).frame 4095 0 true false n 0 0 [9] with n := n, late := late }
def delaying (d r : List WireFrame) : Ctx := { sending with injN := 3, delayed := d, reorder := r }

theorem witness_CorridorTimersAndLinks :
    (day.portLive 3 = false ∧ (day.ctx 4095).queue = []) ∧
    (0 < sending.arrived ∧ sending.state = 1 ∧ (liveCtx false).arrived = 0 ∧ sending.unacked ≠ [] ∧
      sending.expiries + 1 < (linked sending).regField Off.fabRto 16 4 ∧
      (linked sending).regField Off.fabRto 16 4 ≤ ({ sending with expiries := 15 } : Ctx).expiries + 1) ∧
    ((liveCtx false).unacked = [] ∧ (liveCtx false).marked = 0 ∧ ({ sending with marked := 1, acked := 2 } : Ctx).state = 1) ∧
    ((linked sending).portUp sending.port = true ∧ (linked sending).portBlocked sending.port = false ∧
      ({ linked sending with fab := { (linked sending).fab with paused := [(3, true)] } } : State).portBlocked sending.port = true ∧ (liveCtx false).delayed = []) ∧
    (bit ((linked sending).regN Off.fabCtrl) 1 = true ∧ bit (day.regN Off.fabCtrl) 1 = false) ∧
    (marked (linked sending).fab.up 3 = true ∧ marked day.fab.up 15 = false ∧ 15 < day.portCount ∧ day.pwr.state = .day ∧ (linked sending).joint 3 = false ∧
      day.hasFunction = true) ∧
    (sending.inj0 = 0 ∧ sending.inj1 = 0 ∧ sending.reorder = [] ∧ (linked sending).portLoses sending.port = false ∧
      ({ linked sending with fab := { (linked sending).fab with up := [] } } : State).portLoses sending.port = true) ∧
    (∀ f : WireFrame, ((linked (delaying [f] [])).ctx 4095).delayed = f :: []) ∧
    ((frameN 1 true).late = true ∧ (delaying [] [frameN 2 false]).gone 2 = false ∧ (delaying [] []).gone 2 = true) ∧
    ((frameN 1 false).late = false ∧ (delaying [frameN 1 false] [frameN 0 true]).reorder = [frameN 0 true] ∧ (frameN 0 true).n + 1 = (frameN 1 false).n) ∧
    (∀ g ∈ (delaying [frameN 1 false] [frameN 1 true]).reorder, g.n + 1 ≠ (frameN 1 false).n) := by
  refine ⟨?_, ?_, ?_, ?_, ?_, ?_, ?_, fun f => rfl, ?_, ?_, ?_⟩ <;> decide +kernel

/-- Group 15 as its record gives it: HOME Wing 3, START_BELL 1, DONE_BELL 2, QUEUE 0x1000, `rank` of `size`, ring topology or a tree, ENABLE, CTX entry 0. -/
def grouped (on : Bool) (rank size entry : Nat) (c : Ctx) : State :=
  let s := linked c
  let s := s.setReg (Off.asmGroup 15 0) (BitVec.ofNat 64 (b2n on + 3 * 8 + 0x10 * 16 + 0x20000))
  let s := s.setReg (Off.asmGroup 15 1) (BitVec.ofNat 64 (rank + size * 2 ^ 32))
  let s := s.setReg (Off.asmGroup 15 2) 0x1000
  let s := (List.range 22).foldl (fun s j => s.setReg (Off.asmGroup 15 (4 + j)) 0xFFFFFFFFFFFFFFFF) s
  s.setReg (Off.asmGroup 15 4) (BitVec.ofNat 64 (0xFFFFFFFFFFFF0000 + entry))
/-- Its request record 0 in Wing 3's Library. -/
def reqCells (op k count : Byte) : List Host.Cell :=
  [(0xC0001000, op), (0xC0001001, k), (0xC0001004, count), (0xC0001009, 0x20), (0xC000100D, 0x30), (0xC0002000, 0x80), (0xC0002001, 0x3F)].filter (fun e => e.2 != 0)
/-- Group 15 with START_BELL rung and that request. -/
def requested (op k count : Byte) : State :=
  let s := (grouped true 0 1 0xFFFF Ctx.free).setGroup 15 { Group.reset with rings := [false] }
  { s with mem := { s.mem with lib := reqCells op k count } }
def coll0 (r : Option (List Byte)) : Coll :=
  { k := 0, req := { op := 0, kk := 0, count := 0, src := 0, dst := 0, status := 1, sat := false, number := 1 }, own := [], lost := false, parts := [], down := [],
    upSent := true, result := r, parity := false, again := false }

/-- Group 15 over context 4095 with one collective in progress and one whose outcome stands. -/
def collecting : State := (grouped true 0 1 4095 (liveCtx true)).setGroup 15 { Group.reset with colls := [coll0 none, coll0 (some [])] }

/-- `linked` with the bytes of a record in the data registers, the last context selected. -/
def ctxRegs (c : Ctx) (b : List Byte) : State :=
  let s := (List.range 6).foldl (fun s j => s.setReg (Off.fabCtxData j) (BitVec.ofNat 64 (hfield b (8 * j) 8))) (linked c)
  s.setReg Off.fabCtxSel 4095

theorem witness_ContextCommands :
    (let s := ctxRegs (liveCtx false) (ctxBytes false)
     s.bar0On = true ∧ s.regField Off.fabCtxSel 0 12 = 4095 ∧ (s.ctx 4095).state = 1 ∧ s.ctxFieldsOk (ctxClean (s.ctxData.take 48)) = true) ∧
    (let s := ctxRegs Ctx.free []
     s.bar0On = true ∧ s.regField Off.fabCtxSel 0 12 = 4095 ∧ (s.ctx 4095).state ≠ 1 ∧ s.ctxFieldsOk (ctxClean (s.ctxData.take 48)) = false) ∧
    (let s := ctxRegs Ctx.free (ctxBytes false)
     s.bar0On = true ∧ s.regField Off.fabCtxSel 0 12 = 4095 ∧ (s.ctx 4095).state ≠ 1 ∧ s.ctxFieldsOk (ctxClean (s.ctxData.take 48)) = true) ∧
    (let s := (collecting.setReg Off.fabCtxSel 4095)
     s.bar0On = true ∧ s.regField Off.fabCtxSel 0 12 = 4095 ∧ s.groupOn 15 = true ∧ (s.entryOf 15 4095).isSome = true ∧
       (s.group 15).colls[0]? = some (coll0 none) ∧ (coll0 none).result = none ∧ (s.group 15).colls[1]? = some (coll0 (some [])) ∧
       (coll0 (some [])).result.isSome = true) := by
  refine ⟨?_, ?_, ?_, ?_⟩ <;> decide +kernel

theorem witness_AssemblyRequests :
    (let s := grouped false 0 1 4095 (liveCtx true)
     s.bar0On = true ∧ s.groupOn 15 = false ∧
       (∀ i, i < 86 → s.hasEntry 15 i = true → s.ctxEntry 15 i < 4096 ∧ (s.ctx (s.ctxEntry 15 i)).state = 1 ∧ (s.ctx (s.ctxEntry 15 i)).assembly = true) ∧
       s.rank 15 < s.members 15 ∧ s.members 15 ≤ 24576) ∧
    (let s := grouped false 1 1 4095 (liveCtx true)
     s.groupOn 15 = false ∧ s.hasEntry 15 0 = true ∧ s.members 15 ≤ s.rank 15) ∧
    (let s := grouped false 0 1 4095 Ctx.free
     s.bar0On = true ∧ s.groupOn 15 = false ∧ (∃ i, i < 86 ∧ s.hasEntry 15 i = true ∧ (s.ctx (s.ctxEntry 15 i)).state ≠ 1)) ∧
    (grouped true 0 1 4095 (liveCtx true)).groupOn 15 = true ∧
    (∀ op, op < 6 →
      let s := requested (BitVec.ofNat 8 op) (if op = 4 then 1 else 0) (if op = 0 then 0 else 1)
      let r := readReq (s.libBytes (s.home 15) (s.queueAt 15 + 32 * (s.group 15).nextK) 32)
      s.groupOn 15 = true ∧ (s.group 15).rings ≠ [] ∧ r.op = op ∧ (s.libReadFo (s.home 15) (s.queueAt 15 + 32 * (s.group 15).nextK) 32).2.1 = false ∧ s.srv.pass = 0 ∧
        r.badK = false ∧ r.badArg = false ∧ (s.group 15).colls = [] ∧ (∀ i, i < 86 → s.hasEntry 15 i = false) ∧ s.topo 15 = 0 ∧ s.rank 15 = 0 ∧
        (op = 0 ∨ r.count ≠ 0) ∧ (s.libReadFo (s.home 15) r.src (r.count * elemBytes r.op r.kk)).2.1 = false) ∧
    (∀ op, op < 6 →
      let s := requested (BitVec.ofNat 8 op) (if op = 4 then 65 else 1) 0
      let r := readReq (s.libBytes (s.home 15) (s.queueAt 15 + 32 * (s.group 15).nextK) 32)
      s.groupOn 15 = true ∧ (s.group 15).rings ≠ [] ∧ r.op = op ∧ r.badK = true) ∧
    ((State.reset.group 15).rings = []) ∧
    (let s := (grouped true 0 1 4095 (liveCtx true)).setGroup 15 { Group.reset with colls := [coll0 none, { coll0 none with k := 1 }] }
     s.groupOn 15 = true ∧ (s.group 15).colls.any (fun c => c.parity == false) = true ∧ ((s.group 15).colls.map (·.k)).Nodup ∧
       ∀ c ∈ (s.group 15).colls, c.result = none ∧ s.queueAt 15 + 32 * c.k + 24 ≤ 2 ^ 30) ∧
    (∀ r : Option (List Byte), ((State.reset.setGroup 15 { Group.reset with colls := [coll0 r] }).group 15).colls = coll0 r :: []) ∧
    ((coll0 (some [])).result.isSome = true ∧ (State.reset.setGroup 15 { Group.reset with colls := [coll0 (some [])] }).queueAt 15 + 24 ≤ 2 ^ 30 ∧
      (coll0 none).result = none) := by
  refine ⟨?_, ?_, ⟨?_, ?_, ⟨0, ?_, ?_, ?_⟩⟩, ?_, ?_, ?_, ?_, ?_, fun r => rfl, ?_⟩ <;> decide +kernel

/-! ### The Rollbook, attestation and every step -/

/-- A tally of tenant 1023 with its CRC. -/
def tally (flags seq : Nat) : List Byte :=
  let b := leBytes 1 0 ++ leBytes 1 flags ++ leBytes 2 1023 ++ leBytes 4 seq ++ leBytes 8 0 ++ leBytes 8 5 ++ leBytes 8 6 ++ leBytes 8 7
  b ++ leBytes 4 (crc32c b) ++ leBytes 4 0
def calibrated : State := { State.reset with rbk := { Rollbook.reset with calValid := true } }
/-- A state without standby power. -/
def noStandby : State := { State.reset with pwr := { Power.reset with standbyOk := false } }

theorem witness_RollbookCounts :
    (State.reset.rbkOn = true ∧ State.reset.rbk.expect < 2 ^ 32) ∧ State.reset.rbk.tallyCheck [] ≠ 0 ∧
    (State.reset.rbk.tallyCheck (tally 1 9) = 0 ∧ bit (hfield (tally 1 9) 1 1) 0 = true) ∧
    (State.reset.rbk.tallyCheck (tally 0 0) = 0 ∧ bit (hfield (tally 0 0) 1 1) 0 = false ∧ hfield (tally 0 0) 4 4 = State.reset.rbk.expect) ∧
    (State.reset.rbk.tallyCheck (tally 0 (2 ^ 31 - 1)) = 0 ∧ (hfield (tally 0 (2 ^ 31 - 1)) 4 4 + 2 ^ 32 - State.reset.rbk.expect) % 2 ^ 32 < 2 ^ 31) ∧
    (State.reset.rbk.tallyCheck (tally 0 (2 ^ 31)) = 0 ∧ bit (hfield (tally 0 (2 ^ 31)) 1 1) 0 = false ∧
      2 ^ 31 ≤ (hfield (tally 0 (2 ^ 31)) 4 4 + 2 ^ 32 - State.reset.rbk.expect) % 2 ^ 32) ∧
    (calibrated.rbkOn = true ∧ calibrated.rbk.calValid = true ∧ calibrated.rbk.energy ≤ countMax ∧ State.reset.rbk.calValid = false ∧ noStandby.rbkOn = false) := by
  refine ⟨?_, ?_, ?_, ?_, ?_, ?_, ?_⟩ <;> decide +kernel

/-- A mailbox command in progress: its inputs as latched. -/
def mailing (l : List Nat) : State := { State.reset with rlink := { RbkLink.reset with busy := true, latch := l } }
/-- A log of 20 entries. -/
def logged (l : List Nat) : State := { mailing l with rbk := { Rollbook.reset with logNext := 20 } }
/-- A Rollbook image signed with private key 1 (nonce 1), and a Rollbook that holds that key and was sent the image. -/
def rbkImage : List Byte := tallyHead.take 256 ++ leBytes 8 4 ++ leBytes 128 0 ++ beBytes 32 p256Gx ++
  beBytes 32 0xf53802f1a0013a7f257864a0a30dc69c24247846b15cc750105b33f8ba1372ef ++ leBytes 56 0 ++ [0]
def forwarded (img : List Byte) : State :=
  { day with rbk := { Rollbook.reset with metroKey := beBytes 32 p256Gx ++ beBytes 32 p256Gy, forwarded := some img }, sec := { day.sec with booted := true } }

theorem witness_RollbookMailboxAndFirmware :
    ((mailing [1, 1008, 16]).running 1 = true ∧ (mailing [1, 1008, 16]).latched 2 = 16 ∧ (mailing [1, 1008, 16]).latched 1 + (mailing [1, 1008, 16]).latched 2 ≤ 1024) ∧
    ((mailing [1, 1009, 16]).running 1 = true ∧ 1024 < (mailing [1, 1009, 16]).latched 1 + (mailing [1, 1009, 16]).latched 2) ∧
    ((logged [2, 0, 0, 19]).running 2 = true ∧ (logged [2, 0, 0, 19]).rbk.held ((logged [2, 0, 0, 19]).latched 3) = true) ∧
    ((logged [2, 0, 0, 20]).running 2 = true ∧ (logged [2, 0, 0, 20]).rbk.held ((logged [2, 0, 0, 20]).latched 3) = false) ∧
    ((mailing [3]).running 3 = true ∧ (mailing [4]).running 4 = true ∧ (mailing [4]).rlink.busy = true ∧ State.reset.rlink.busy = false) ∧
    ((forwarded []).sec.booted = true ∧ (forwarded []).rbkOn = true ∧ (forwarded []).rlink.absent = false ∧
      ({ forwarded [] with rlink := { RbkLink.reset with absent := true } } : State).rlink.absent = true) ∧
    ((forwarded rbkImage).rbk.forwarded = some rbkImage ∧ (forwarded rbkImage).rbk.refuses rbkImage = 0 ∧ (forwarded rbkImage).pwr.state ≠ .morning) ∧
    ((forwarded []).rbk.forwarded = some [] ∧ (forwarded []).rbk.refuses [] ≠ 0) ∧ State.reset.rbk.forwarded = none ∧
    marked ({ mailing [1] with fab := { day.fab with realign := [(16, true)] } } : State).fab.realign 16 = true := by
  refine ⟨?_, ?_, ?_, ?_, ?_, ?_, ?_, ?_, ?_, ?_⟩ <;> decide +kernel

/-- A module with an identity, a certificate of two bytes and a responder at a stage. -/
def attesting (n : Nat) : State :=
  { day with
    hif := { day.hif with linkSpeed := 6 }
    sec := { day.sec with identity := some 1, flash := [(0x11000, 0x30)], doe := { stage := n, reply := .none } } }

theorem witness_SidebandResponders :
    (∀ n, n ≤ 3 → (attesting n).reaches .doe = true ∧ (attesting n).spdmError .doe = none ∧ ((attesting n).responder .doe).stage = n) ∧
    (0 : BitVec 16).toNat < (attesting 3).certChain.length ∧
    (State.reset.reaches (.mctp 0x60) = true ∧ State.reset.spdmError (.mctp 0x60) = some 3 ∧ State.reset.reaches (.mctp 0x61) = false ∧ State.reset.reaches .doe = false ∧
      (attesting 0).reaches .doe = true ∧ ({ attesting 0 with sec := day.sec } : State).spdmError .doe = some 5) ∧
    (State.reset.sideband 0x60 = true ∧ State.reset.sideband 0x67 = false) ∧
    (sensorKnown 96 = true ∧ day.sensorPowered 96 = true ∧ marked day.pwr.beyond 96 ≠ day.beyondWarning 96 1) ∧
    (sensorKnown 1 = true ∧ (midnight true false false).sensorPowered 1 = false ∧ sensorKnown 0 = false) := by
  refine ⟨?_, ?_, ?_, ?_, ?_⟩
  · decide +kernel
  · have h : derChain 64 ((attesting 3).flashBytes 0x11000 0xF000) ≠ [] := by decide +kernel
    unfold State.certChain
    split
    · rename_i hc; exact absurd hc h
    · simp [leBytes]
  all_goals decide +kernel

theorem witness_DescriptorsReadBack :
    ((∀ k, DescOp.nop = .undefined k → definedOpcode k = false) ∧ (d0 1).rsv = (opNoHandle .nop && decide ((d0 0).handle ≠ 0))) ∧
    ((∀ k, DescOp.undefined 0xFF = .undefined k → definedOpcode k = false) ∧
      ({ d0 1 with rsv := true } : Desc).rsv = (opNoHandle (.undefined 0xFF) && decide (({ d0 1 with rsv := true } : Desc).handle ≠ 0))) := by
  refine ⟨⟨fun k h => (by cases h), by decide⟩, ⟨fun k h => (by cases h; decide), by decide⟩⟩

theorem witness_NoStepBreaks : Sound State.reset ∧ Steps State.reset State.reset := by
  refine ⟨⟨⟨?_, ?_, ?_, ?_, ?_⟩, ?_, fun n => (by decide : 0 < 2 ^ 32), fun n => ?_⟩, rfl⟩
  · decide
  · decide
  · decide
  · decide
  · decide +kernel
  · unfold RegsWf; decide
  · exact ⟨Nat.zero_le _, Nat.zero_le _, Nat.zero_le _⟩

/-! ### Ill-formed commands, one for each check of `Instr.wf` -/

def longPacket (n : Nat) : Packet :=
  { port := 0, dest := { mac := 0, v6 := false, ip := 0, udp := 0, version := 0 }, last := true, retx := false, tag := 0, ctx := 0, psn := 0, ackPsn := 0, sack := 0, credits := 0, ece := 0, arg1 := 0, arg2 := 0,
    payload := List.replicate n 0, crc := 0, ce := false }
def heldFor (total dataLate bellWait : Nat) : HeldCycles :=
  { total := total, dataLate := dataLate, expanderLate := 0, bellWait := bellWait, codebookBusy := 0, narrowStarved := 0 }
def morningAt (failed : Option Nat) (speed : BitVec 3) : MorningIn := { failed := failed, answers := true, link := { speed := speed, wide := true, flit := true } }
/-- A descriptor of ring 0 with no handle and no value. -/
def plainDesc : Desc := { ring := 0, index := 0, fence := false, handle := 0, tag := 0, rsv := false }

theorem test_wf_access_has_no_bytes : (Instr.registerAccessError 0x40 0 true).wf = false := by decide
theorem test_wf_access_over_eight_bytes : (Instr.registerAccessError 0x40 9 true).wf = false := by decide
theorem test_wf_access_is_allowed : (Instr.registerAccessError 0x113008 8 true).wf = false := by decide
theorem test_wf_access_is_forbidden : (Instr.registerAccessError 0x700100 4 false).wf = true := by decide
theorem test_wf_half_read_of_rc_register : (Instr.rcCounterRead ⟨BitVec.ofNat 24 Off.hmPolls, false⟩).wf = false := by decide
theorem test_wf_cause_longer_than_hold : (Instr.timetableResume 0 (heldFor 3 4 0)).wf = false := by decide
theorem test_wf_hold_without_cause : (Instr.timetableResume 0 (heldFor 3 1 1)).wf = false := by decide
theorem test_wf_hold_with_two_causes : (Instr.timetableResume 0 (heldFor 3 2 3)).wf = true := by decide
theorem test_wf_bar2_read_empty : (Instr.bar2Read 0 0).wf = false := by decide
theorem test_wf_bar2_read_long : (Instr.bar2Read 0 65).wf = false := by decide
theorem test_wf_bar2_write_empty : (Instr.bar2Write 0 []).wf = false := by decide
theorem test_wf_bar2_write_long : (Instr.bar2Write 0 (List.replicate 65 0)).wf = false := by decide
theorem test_wf_tick_of_no_time : (Instr.msTick 0).wf = false := by decide
theorem test_wf_undefined_opcode_is_defined : (Instr.undefinedOpcode plainDesc 0x21).wf = false := by decide
theorem test_wf_undefined_opcode : (Instr.undefinedOpcode plainDesc 0x0D).wf = true := by decide
theorem test_wf_packets_too_long :
    (Instr.corridorWrite (longPacket 4097)).wf = false ∧ (Instr.corridorReadReq (longPacket 4097)).wf = false ∧
    (Instr.corridorReadResp (longPacket 4097)).wf = false ∧ (Instr.corridorAsm (longPacket 4097)).wf = false ∧
    (Instr.corridorAck (longPacket 4097)).wf = false ∧ (Instr.corridorNak (longPacket 4097)).wf = false := by
  refine ⟨?_, ?_, ?_, ?_, ?_, ?_⟩ <;> decide +kernel
theorem test_wf_read_of_rw_register : (Instr.rcCounterRead ⟨0x113008, true⟩).wf = true ∧ (Instr.rcCounterRead ⟨0x113009, false⟩).wf = false := by decide
theorem test_wf_poll_with_three_lanes : (Instr.hmPoll { poll0 [] with l0p := 3 }).wf = false := by decide
theorem test_wf_bar4_over_a_word : (Instr.msixVectorUnmask (.read 2 4)).wf = false ∧ (Instr.msixVectorUnmask (.write 0 [0, 0])).wf = false := by decide
theorem test_wf_dawn_without_link : (Instr.dawnBoot ⟨none, { speed := 0, wide := true, flit := true }⟩).wf = false := by decide
theorem test_wf_morning_without_link : (Instr.morningBringup (morningAt none 0)).wf = false := by decide
theorem test_wf_morning_at_no_speed : (Instr.morningBringup (morningAt none 7)).wf = false := by decide
theorem test_wf_morning_failed : (Instr.morningBringup (morningAt (some 3) 6)).wf = true := by decide
theorem test_wf_droop_clear_too_long : (Instr.droopRelease 2 3064 3065).wf = false := by decide
theorem test_wf_resend_of_nothing : (Instr.flitResend 0 0).wf = false := by decide
theorem test_wf_resend_beyond_buffer : (Instr.flitResend 0 17).wf = false := by decide
theorem test_wf_landing_of_too_many_pairs : (Instr.moverTransferLand m0 { index := 0, cycle := 0, pairs := 257 }).wf = false := by decide
theorem test_wf_tally_short : (Instr.tallyMessage (List.replicate 47 0)).wf = false := by decide

/-! ### No word spells a command, and the opcode ranges agree with `opcodeDefined` -/

theorem test_no_word_spells_a_command (n w : Nat) : decodeTableWord n w = none := rfl
theorem test_opcodes_agree : (List.range 256).all (fun c => opcodeDefined c == definedOpcode (BitVec.ofNat 8 c)) = true := by decide +kernel

/-! ### Results that the spec gives -/

/-- The plane of the spec's worked example of R50: b = -3 at row 0 and 2 at row 1, over the planes of columns 0 to 2. -/
def threePlanes : Plane := { desk := [(0, 1), (2, 3), (513, 1)], mode := .plane, p := 3, parity := [] }
/-- Its streamed vector: 5, -7 and zeros. -/
def fiveMinusSeven (i : Nat) : Int := if i = 0 then 5 else if i = 1 then -7 else 0

/-- The worked example of R50: the combined value is -29. -/
theorem test_plane_combines : threePlanes.combine fiveMinusSeven 0 0 1 = -29 := by decide +kernel

/-- R54's table: the FEED of tile B is dispatched in cycle 256, the load of B ends in 257, and the swap takes effect in 258 without a Hold. -/
def tileB : State :=
  ((withRoom (fun r => { r with back := onePlane, loads := 1 })).modSeq 0 (fun q =>
    { q with t := 256, wordT := 256, sent := [{ item := .op 0 0 (.feed feedSwap), ref := ⟨3, 4⟩, unit := 0, t := 256, frames := [] }] }))
theorem test_swap_after_load_without_hold :
    let t := nextOf (exec (.feed u0 feedSwap) tileB) tileB
    let v := nextOf (exec (.backPlaneLoadComplete ⟨u0, 257⟩) t) t
    (v.room 0).front = (tileB.room 0).front ∧ ((v.runTo 0 259).room 0).front = onePlane ∧ ((v.runTo 0 259).seq 0).held = false ∧
      (v.runTo 0 259).regN (Off.seqHolds 0) = 0 := by decide +kernel
/-- With the load still on its way in 258 the Wing is held there. -/
theorem test_swap_before_load_holds :
    let t := nextOf (exec (.feed u0 feedSwap) tileB) tileB
    ((t.runTo 0 259).seq 0).held = true ∧ ((t.runTo 0 259).seq 0).holdT = 258 ∧ (t.runTo 0 259).regN (Off.seqHolds 0) = 1 := by decide +kernel

/-- R72's worked example: the scale for 5.21875 at m = 127 is 0.041259765625, which is 169/128 × 2^-5 (0x3D29). -/
theorem test_replay_scale : scaleFor 127 0x40A7#16 = 0x3D29 := by decide +kernel
/-- The example's ABSMAX: the smallest bf16 not below 5.2 (binary32 0x40A66666) is 5.21875 (0x40A7). -/
theorem test_absmax_rounds_up : bf16Ceil 0x40A66666#32 = 0x40A7#16 := by decide +kernel

/-- The worked example of R211 at d = 2: codes 37, 126 and -127 come back as 36, 124 and -124. -/
theorem test_codes_repack :
    [37, 126, -127].map (fun q : Int => (promoteCode (demoteCode (BitVec.ofInt 8 q) 6) 6).toInt) = [36, 124, -124] := by decide
/-- Step 5 of the same example: address 0x0080_1234_4000 starts on stack 8. -/
theorem test_address_starts_on_stack : (State.reset.stackOf 0x8012344000).val = 8 := by decide +kernel

/-- The worked example of the register index: the address of stack 19's MEM_BUDGET and its reset value; FAB_RTO's reset value. -/
theorem test_reset_of_registers : State.reset.regN 0x113008 = 0x00083040 ∧ State.reset.regN Off.fabRto = 0x0000000190070064 := by decide +kernel
/-- The same example: a 32-bit write of LIB_SPLIT counts in ERR_REG_ACCESS and stages nothing; a 64-bit write of 8 stages it, and a commit of
group 7 applies it. -/
theorem test_lib_split_32_bit :
    let t := nextOf (exec (.registerAccessError 0x700100 4 false) State.reset) State.reset
    t.regN Off.errRegAccess = 1 ∧ t.regN 0x700100 = State.reset.regN 0x700100 ∧ t.staged = State.reset.staged := by decide +kernel
theorem test_lib_split_applies :
    let t := nextOf (exec (.registerWrite 0x700100 true 8) State.reset) State.reset
    let u := nextOf (exec (.commitApplied 7) (nextOf (exec (.glbCommit 7) t) t)) t
    t.regN 0x700100 = State.reset.regN 0x700100 ∧ u.regN 0x700100 = 8 := by decide +kernel

/-- PHASE of the worked example of R336: with LOG2 12 the indices 8,190 and 8,191 carry 0, and 8,192 carries 1. -/
theorem test_phase : [8190, 8191, 8192, 8213].map (phaseBit 12) = [0, 0, 1, 1] := by decide

/-- The power example: at 490 µs over the limit, the sample of 1,660 W makes the step 1, returns over to 0 and adds 10 to PWR_OVER_US. -/
def hotDay (overUs : Nat) : State := { day with pwr := { day.pwr with overUs := overUs } }
def drawOf (w : Nat) : PowerIn := { watts := w, t0 := 60, t1 := 60, t2 := 60, t3 := 60, t4 := 60 }
theorem test_power_steps_down :
    let t := nextOf (exec (.powerSample (drawOf 1660)) (hotDay 490)) day
    t.pwr.step = 1 ∧ t.pwr.overUs = 0 ∧ t.regN Off.pwrOverUs = 10 ∧ t.regN Off.pwrStepsDown = 1 := by decide +kernel
/-- Step 3 of it: 1,597 W is neither over nor under. -/
theorem test_power_holds :
    let t := nextOf (exec (.powerSample (drawOf 1597)) (hotDay 0)) day
    t.pwr.step = 0 ∧ t.pwr.overUs = 0 ∧ t.pwr.underUs = 0 := by decide +kernel
/-- Step 5 of it: PWR_DROOP_CYCLES2 rises by 3,064. -/
theorem test_droop_cycles :
    let s := day.setWing 2 { day.wing 2 with stretched := true }
    let t := nextOf (exec (.droopRelease 2 3064 64) s) s
    t.regN (droopCycles 2) = 3064 ∧ (t.wing 2).stretched = false := by decide +kernel

/-- The weights +1 and -1 of the R30 encoding, and R41's sums: +1 × 5 and -1 × -7 in one Dense column. -/
theorem test_dense_column :
    ({ desk := [(0, 1), (512, 3)], mode := .dense, p := 0, parity := [] } : Plane).group fiveMinusSeven 0 0 1 = 12 := by decide +kernel

/-- Step 3 of the Rollbook's worked example: SEQ 88,204 where 88,203 is expected is a gap of one message, and is applied. -/
theorem test_tally_gap :
    let s : State := { State.reset with rbk := { Rollbook.reset with expect := 88203 } }
    let t := nextOf (exec (.tallyMessage (tally 0 88204)) s) s
    t.rbk.gaps = 1 ∧ t.rbk.expect = 88205 := by decide +kernel

end Sys2Proof.Tests
end

section
/-! SUPPORT and PROOFS. Accesses to BAR0 registers (R9-R13): what an allowed and a forbidden access does, and the obligations O3, O4 and O5. -/

namespace Sys2Proof

open Sys2Proof.Machine

/-! ### The commands of registers -/

theorem exec_registerWrite (off : BitVec 24) (wide : Bool) (v : BitVec 64) (s : State) :
    exec (.registerWrite off wide v) s = .next (s.regWrite off.toNat wide v.toNat) := rfl

theorem exec_registerAccessError (off : BitVec 24) (n : Nat) (read : Bool) (s : State) :
    exec (.registerAccessError off n read) s = .next (s.accessError off.toNat n read) := rfl

theorem exec_rcCounterRead (r : CounterRead) (s : State) :
    exec (.rcCounterRead r) s = .next (s.regRead r.off.toNat r.wide) := rfl

/-! ### Forbidden accesses (R10) -/

section
variable {s : State} {off n : Nat}

theorem badAccess_write (h : touchesReg off n = true) : s.badAccess off n false = s.bump Off.errRegAccess 1 := by
  simp [State.badAccess, h]

theorem badAccess_read (h : touchesReg off n = true) :
    s.badAccess off n true = (s.bump Off.errRegAccess 1).reply (List.replicate n 0) false := by
  simp [State.badAccess, h]

theorem accessError_of_forbidden (hon : s.bar0On = true) (hbad : accessOk off n = false) (read : Bool) :
    s.accessError off n read = s.badAccess off n read := by
  cases read <;> simp [State.accessError, State.readAt, hon, hbad]

theorem regWrite_of_forbidden {wide : Bool} (hon : s.bar0On = true) (hbad : accessOk off (if wide then 8 else 4) = false) (v : Nat) :
    s.regWrite off wide v = s.badAccess off (if wide then 8 else 4) false := by
  simp [State.regWrite, hon, hbad]

end

/-- Settles O3: a forbidden access comes to `State.badAccess`, which writes the counter alone, and the reply of a read. -/
theorem forbiddenAccessIsCounted : Obligations.ForbiddenAccessIsCounted := by
  unfold Obligations.ForbiddenAccessIsCounted
  refine ⟨fun s off n read hon htouch hbad => ?_, fun s off wide v hon htouch hbad => ?_⟩
  · rw [exec_registerAccessError, accessError_of_forbidden hon hbad]
    cases read with
    | false =>
      rw [badAccess_write htouch]
      exact ⟨_, rfl, State.reg_bump_same .., fun _ hp => State.reg_bump_other s 1 hp, nofun, rfl⟩
    | true =>
      rw [badAccess_read htouch]
      exact ⟨_, rfl, State.reg_bump_same s Off.errRegAccess 1, fun _ hp => State.reg_bump_other s 1 hp, fun _ => rfl, rfl⟩
  · rw [exec_registerWrite, regWrite_of_forbidden hon hbad, badAccess_write htouch]
    exact ⟨_, rfl, State.reg_bump_same .., fun _ hp => State.reg_bump_other s 1 hp, rfl⟩

/-! ### Allowed writes (R11-R13) -/

/-- A CM register takes accesses of 8 aligned bytes only (R9). -/
theorem aligned_of_accessOk_cm {off n g : Nat} {i : RegInfo} (hi : regInfo (off / 8 * 8) = some i) (hcm : i.access = .cm g)
    (hok : accessOk off n = true) : off / 8 * 8 = off := by
  simp [accessOk, hi, hcm] at hok
  omega

section
variable {s : State} {off : Nat} {wide : Bool} {i : RegInfo}

theorem regWrite_of_allowed (hon : s.bar0On = true) (hok : accessOk off (if wide then 8 else 4) = true) (hi : regInfo (off / 8 * 8) = some i)
    (v : Nat) : s.regWrite off wide v = s.regStore i off wide v := by
  simp [State.regWrite, hon, hok, hi]

theorem regWrite_readOnly (hon : s.bar0On = true) (hok : accessOk off (if wide then 8 else 4) = true) (hi : regInfo (off / 8 * 8) = some i)
    (ha : i.access = .ro ∨ i.access = .rc) (v : Nat) : s.regWrite off wide v = s := by
  rw [regWrite_of_allowed hon hok hi]
  rcases ha with ha | ha <;> simp [State.regStore, ha]

theorem regWrite_cm {g : Nat} (hon : s.bar0On = true) (hok : accessOk off (if wide then 8 else 4) = true) (hi : regInfo (off / 8 * 8) = some i)
    (ha : i.access = .cm g) (v : Nat) : s.regWrite off wide v = s.cmWrite g off v := by
  rw [regWrite_of_allowed hon hok hi, State.regStore, ha, aligned_of_accessOk_cm hi ha hok]

end

/-- A plain register is none of those whose write does more than store. -/
theorem rwWrite_plain {o : Nat} (hp : plainReg o = true) (s : State) (fs : List WField) (v : Nat) (low : Bool) :
    s.rwWrite fs o v low = s.setReg o (BitVec.ofNat 64 (writeFields fs (s.regN o) v)) := by
  simp [plainReg] at hp
  obtain ⟨⟨⟨⟨hlock, -⟩, hgroup⟩, htable⟩, hctrl, hthermal, hpwr, hrbk, hfab, hctx, hinj0, hinj1⟩ := hp
  have hgroup : ¬ (0xC1000 ≤ o ∧ o < 0xC2000) := by omega
  have htable : ¬ (0x200000 ≤ o ∧ o ≤ 0x200020) := by omega
  simp only [State.rwWrite, hctrl, hlock, hthermal, hpwr, hrbk, hfab, hctx, hinj0, hinj1, hgroup, htable, if_false, Bool.false_and,
    Bool.false_eq_true, or_self]

theorem regWrite_plain {s : State} {off : Nat} {wide : Bool} {i : RegInfo} (hon : s.bar0On = true)
    (hok : accessOk off (if wide then 8 else 4) = true) (hi : regInfo (off / 8 * 8) = some i) (ha : i.access = .rw)
    (hp : plainReg (off / 8 * 8) = true) (v : Nat) :
    s.regWrite off wide v = s.setReg (off / 8 * 8) (BitVec.ofNat 64 (writeFields i.fields (s.regN (off / 8 * 8))
      (mergeHalf wide off (s.readReg (off / 8 * 8)) v))) := by
  have hdbg : isDbgData (off / 8 * 8) = false := by
    simp only [plainReg, Bool.and_eq_true, Bool.not_eq_true'] at hp
    obtain ⟨⟨⟨⟨-, hdbg⟩, -⟩, -⟩, -⟩ := hp
    exact hdbg
  rw [regWrite_of_allowed hon hok hi]
  simp only [State.regStore, ha, hdbg, Bool.false_eq_true, if_false]
  exact rwWrite_plain hp ..

/-! ### The staged copies (R12) -/

theorem stagedReg_stage_same (s : State) (o v : Nat) {i : RegInfo} (hi : regInfo o = some i) :
    (s.stage o v).stagedReg o = BitVec.ofNat 64 (writeFields i.fields (s.stagedReg o).toNat v) := by
  simp only [State.stage, hi]
  exact Sparse.get_set_same ..

theorem stagedReg_stage_other (s : State) {o p : Nat} (v : Nat) (h : p ≠ o) : (s.stage o v).stagedReg p = s.stagedReg p :=
  Sparse.get_set_other _ _ _ h

theorem stage_rest (s : State) (o v : Nat) : { s.stage o v with staged := s.staged } = s := rfl

/-- Settles O4, one access code at a time. -/
theorem registerWriteByCode : Obligations.RegisterWriteByCode := by
  unfold Obligations.RegisterWriteByCode
  intro s off wide v i hon hok hi
  rw [exec_registerWrite]
  refine ⟨fun ha hp => ?_, fun ha => ?_, fun g ha hfree => ?_⟩
  · rw [regWrite_plain hon hok hi ha hp]
    exact ⟨_, rfl, State.reg_setReg_same .., fun _ hq => State.reg_setReg_other s _ hq, rfl⟩
  · rw [regWrite_readOnly hon hok hi ha]
  · have ho := aligned_of_accessOk_cm hi ha hok
    rw [regWrite_cm hon hok hi ha, State.cmWrite, hfree]
    exact ⟨_, rfl, stagedReg_stage_same s _ _ (ho ▸ hi), fun _ hq => stagedReg_stage_other s _ hq, stage_rest ..⟩

/-! ### Reads (R9, R11) -/

theorem leBytes_length (n v : Nat) : (leBytes n v).length = n := by
  induction n generalizing v with
  | zero => rfl
  | succ n ih => simp [leBytes, ih]

section
variable {s : State} {off : Nat} {wide : Bool} {i : RegInfo}

theorem regRead_of_allowed (hon : s.bar0On = true) (hok : accessOk off (if wide then 8 else 4) = true) :
    s.regRead off wide = (s.readThrough (off / 8 * 8)).2.reply
      (((leBytes 8 (s.readThrough (off / 8 * 8)).1).drop (off % 8)).take (if wide then 8 else 4)) false := by
  simp [State.regRead, State.readAt, State.regBytes, hon, hok]

theorem readThrough_rc (hi : regInfo off = some i) (ha : i.access = .rc) : s.readThrough off = (s.regN off, s.setReg off 0) := by
  simp [State.readThrough, hi, ha]

theorem readThrough_plain (hi : regInfo off = some i) (ha : i.access ≠ .rc) (hdbg : isDbgData off = false) :
    s.readThrough off = (s.readReg off, s) := by
  simp [State.readThrough, hi, ha, hdbg]

end

/-- Settles O5: only the read of an RC register writes it. -/
theorem rcReadClears : Obligations.RcReadClears := by
  unfold Obligations.RcReadClears
  refine ⟨fun s off i hon hal hi ha => ?_, fun s off wide i hon hok hi ha hdbg => ?_⟩
  · have ho : off.toNat / 8 * 8 = off.toNat := by omega
    have hok : accessOk off.toNat (if true then 8 else 4) = true := by simp [accessOk, ho, hi, hal]
    rw [exec_rcCounterRead, regRead_of_allowed hon hok, ho, readThrough_rc hi ha, hal]
    refine ⟨_, rfl, ?_, State.reg_setReg_same s off.toNat 0, fun _ hp => State.reg_setReg_other s 0 hp, rfl⟩
    exact List.take_of_length_le (Nat.le_of_eq (leBytes_length 8 _))
  · rw [exec_rcCounterRead, regRead_of_allowed hon hok, readThrough_plain hi ha hdbg]
    exact ⟨_, rfl, rfl, rfl⟩

end Sys2Proof
end

section
/-! SUPPORT and PROOFS. Commit groups (R12, R13, R400, R401): what applying a group changes beside its register, how held writes land, and obligation O6. -/

namespace Sys2Proof

open Sys2Proof.Machine

/-! ### What a group's effects leave (R401) -/

/-- `t` is `s` but for what the effects of a commit reach: memories, caches, the fabric and its groups, what records to the host change, and among the registers
the counters of lost events and sent messages, and where `lost` holds the one of lost peers. -/
structure GroupFrame (lost : Prop) (s t : State) : Prop where
  rest : { t with regs := s.regs, wings := s.wings, mem := s.mem, hif := s.hif, fab := s.fab, asm := s.asm } = s
  stalled : t.hif.stalled = s.hif.stalled
  regs : ∀ o, o ≠ Off.hifEventsLost → o ≠ Off.hifMsixSent → (lost → o ≠ Off.fabPeersLost) → t.reg o = s.reg o

section
variable {lost : Prop} {s t u : State}

theorem GroupFrame.of_regs_eq (rest : { t with regs := s.regs, wings := s.wings, mem := s.mem, hif := s.hif, fab := s.fab, asm := s.asm } = s)
    (hif : t.hif = s.hif) (regs : t.regs = s.regs) : GroupFrame lost s t :=
  ⟨rest, by rw [hif], fun _ _ _ _ => by simp only [State.reg, regs]⟩

theorem GroupFrame.refl (s : State) : GroupFrame lost s s := .of_regs_eq rfl rfl rfl

theorem GroupFrame.trans (h : GroupFrame lost s t) (g : GroupFrame lost t u) : GroupFrame lost s u := by
  refine ⟨?_, g.stalled.trans h.stalled, fun o h1 h2 h3 => (g.regs o h1 h2 h3).trans (h.regs o h1 h2 h3)⟩
  have hr := h.rest
  rw [← g.rest] at hr
  exact hr

theorem GroupFrame.noise (h : GroupFrame lost s t) (g : Noise t u) : GroupFrame lost s u := by
  obtain ⟨-, -, -, -, -, -, -, -, -, -, -, hstalled⟩ := g.hifFields
  refine h.trans ⟨?_, hstalled, fun o h1 h2 _ => g.regs o h1 h2⟩
  exact (congrArg (fun v : State => { v with wings := t.wings, mem := t.mem, fab := t.fab, asm := t.asm }) g.rest :)

theorem GroupFrame.foldl {β : Type} (f : State → β → State) (hf : ∀ (u : State) (b : β), GroupFrame lost u (f u b)) (l : List β) (s : State) :
    GroupFrame lost s (l.foldl f s) := by
  induction l generalizing s with
  | nil => exact .refl s
  | cons b l ih => exact (hf s b).trans (ih _)

theorem GroupFrame.fields (h : GroupFrame lost s t) :
    t.staged = s.staged ∧ t.heldWrites = s.heldWrites ∧ t.commits = s.commits ∧ t.rooms = s.rooms ∧ t.srv = s.srv ∧ t.err = s.err ∧ t.pwr = s.pwr ∧
    t.sec = s.sec ∧ t.rbk = s.rbk := by
  have h := h.rest
  refine ⟨?_, ?_, ?_, ?_, ?_, ?_, ?_, ?_, ?_⟩ <;> rw [← h]

theorem GroupFrame.quiet (h : GroupFrame lost s t) (q : Quiet s) : Quiet t := by
  obtain ⟨-, -, -, -, -, herr, -⟩ := h.fields
  exact ⟨herr ▸ q.1, h.stalled ▸ q.2⟩

end

/-! ### The effects of the groups -/

theorem groupFrame_applySplit (lost : Prop) (s : State) (w : Wing) (old new : Nat) : GroupFrame lost s (s.applySplit w old new) :=
  .of_regs_eq rfl rfl rfl

theorem groupFrame_applyInterleave (lost : Prop) (s : State) (old new : Nat) : GroupFrame lost s (s.applyInterleave old new) := by
  have hclear : GroupFrame lost s ((List.finRange 4).foldl (fun s w => s.cacheClear w) s) :=
    .foldl (fun s w => s.cacheClear w) (fun _ _ => .of_regs_eq rfl rfl rfl) _ s
  exact hclear.trans (.of_regs_eq rfl rfl rfl)

theorem groupFrame_failColls (lost : Prop) (s : State) (k st : Nat) : GroupFrame lost s (s.failColls k st) := by
  refine .foldl _ (fun u g => ?_) _ s
  dsimp only
  split
  · exact .of_regs_eq rfl rfl rfl
  · exact .refl u

theorem groupFrame_linkDown (lost : Prop) (s : State) (n : Nat) : GroupFrame lost s (s.linkDown n) := by
  unfold State.linkDown
  split
  · refine GroupFrame.noise ?_ ((Noise.refl _).event ..)
    exact .of_regs_eq rfl rfl rfl
  · exact .refl s

theorem groupFrame_bumpPeersLost {lost : Prop} (h : lost) (s : State) (n : Nat) : GroupFrame lost s (s.bump Off.fabPeersLost n) :=
  ⟨rfl, rfl, fun _ _ _ hne => State.reg_bump_other s n (hne h)⟩

theorem groupFrame_peerLost {lost : Prop} (h : lost) (s : State) (k : Nat) : GroupFrame lost s (s.peerLost k) := by
  unfold State.peerLost
  refine GroupFrame.trans ?_ (groupFrame_failColls ..)
  refine GroupFrame.noise ?_ ((Noise.refl _).event ..)
  refine GroupFrame.trans ?_ (groupFrame_bumpPeersLost h _ 1)
  exact .of_regs_eq rfl rfl rfl

theorem groupFrame_portDown {lost : Prop} (h : lost) (s : State) (n : Nat) : GroupFrame lost s (s.portDown n) := by
  unfold State.portDown
  split
  · exact .refl s
  · have hdown : GroupFrame lost s { s.linkDown n with fab := { (s.linkDown n).fab with realign := setMark (s.linkDown n).fab.realign n true } } :=
      (groupFrame_linkDown lost s n).trans (.of_regs_eq rfl rfl rfl)
    dsimp only
    split
    · exact hdown.trans (.foldl _ (fun u k => groupFrame_peerLost h u k) _ _)
    · exact hdown

/-- Only FAB's effects reach the counter of lost peers (R397). -/
theorem groupFrame_applyGroup (s : State) (g old new : Nat) : GroupFrame (g = 3) s (s.applyGroup g old new) := by
  unfold State.applyGroup
  split
  · exact .refl s
  · exact .refl s
  · exact groupFrame_applyInterleave ..
  · exact .foldl _ (fun u n => groupFrame_portDown rfl u n) _ s
  · exact groupFrame_applySplit ..

/-! ### Held writes land (R13) -/

/-- The staged copy of a register of fields `fs` after a list of writes, oldest first. -/
def landed (fs : List WField) (l : List (Nat × Reg)) (r : Reg) : Reg :=
  l.foldl (fun r e => BitVec.ofNat 64 (writeFields fs r.toNat e.2.toNat)) r

/-- A list of writes staged, oldest first. -/
def stageAll (l : List (Nat × Reg)) (s : State) : State := l.foldl (fun s e => s.stage e.1 e.2.toNat) s

theorem stageAll_rest (l : List (Nat × Reg)) (s : State) : { stageAll l s with staged := s.staged } = s := by
  induction l generalizing s with
  | nil => rfl
  | cons e l ih =>
    have h := ih (s.stage e.1 e.2.toNat)
    exact congrArg (fun u : State => { u with staged := s.staged }) h

theorem stagedReg_stageAll_same {o : Nat} {i : RegInfo} (hi : regInfo o = some i) (l : List (Nat × Reg)) (hl : ∀ e ∈ l, e.1 = o) (s : State) :
    (stageAll l s).stagedReg o = landed i.fields l (s.stagedReg o) := by
  induction l generalizing s with
  | nil => rfl
  | cons e l ih =>
    obtain ⟨he, hl⟩ := List.forall_mem_cons.1 hl
    have hstep := stagedReg_stage_same s o e.2.toNat hi
    calc (stageAll l (s.stage e.1 e.2.toNat)).stagedReg o
        = landed i.fields l ((s.stage e.1 e.2.toNat).stagedReg o) := ih hl _
      _ = landed i.fields (e :: l) (s.stagedReg o) := by rw [he, hstep]; rfl

theorem stagedReg_stageAll_other {o p : Nat} (hp : p ≠ o) (l : List (Nat × Reg)) (hl : ∀ e ∈ l, e.1 = o) (s : State) :
    (stageAll l s).stagedReg p = s.stagedReg p := by
  induction l generalizing s with
  | nil => rfl
  | cons e l ih =>
    obtain ⟨he, hl⟩ := List.forall_mem_cons.1 hl
    exact (ih hl _).trans (stagedReg_stage_other s _ (he ▸ hp))

/-- The writes held for a group. -/
def heldFor (s : State) (g : Nat) : List (Nat × Reg) := s.heldWrites.filter (fun e => decide (e.1 = groupReg g))

theorem mem_heldFor {s : State} {g : Nat} {e : Nat × Reg} (h : e ∈ heldFor s g) : e.1 = groupReg g := of_decide_eq_true (List.mem_filter.1 h).2

theorem landHeld_eq (s : State) (g : Nat) :
    s.landHeld g = stageAll (heldFor s g) { s with heldWrites := s.heldWrites.filter (fun e => !decide (e.1 = groupReg g)) } := rfl

theorem landHeld_rest (s : State) (g : Nat) :
    { s.landHeld g with staged := s.staged } = { s with heldWrites := s.heldWrites.filter (fun e => !decide (e.1 = groupReg g)) } :=
  stageAll_rest (heldFor s g) _

theorem landHeld_fields (s : State) (g : Nat) :
    (s.landHeld g).regs = s.regs ∧ (s.landHeld g).heldWrites = s.heldWrites.filter (fun e => !decide (e.1 = groupReg g)) ∧
    (s.landHeld g).commits = s.commits ∧ (s.landHeld g).rooms = s.rooms ∧ (s.landHeld g).srv = s.srv ∧ (s.landHeld g).hif = s.hif ∧
    (s.landHeld g).err = s.err ∧ (s.landHeld g).pwr = s.pwr ∧ (s.landHeld g).sec = s.sec ∧ (s.landHeld g).rbk = s.rbk := by
  have h := landHeld_rest s g
  refine ⟨?_, ?_, ?_, ?_, ?_, ?_, ?_, ?_, ?_, ?_⟩
  · exact (congrArg State.regs h :)
  · exact (congrArg State.heldWrites h :)
  · exact (congrArg State.commits h :)
  · exact (congrArg State.rooms h :)
  · exact (congrArg State.srv h :)
  · exact (congrArg State.hif h :)
  · exact (congrArg State.err h :)
  · exact (congrArg State.pwr h :)
  · exact (congrArg State.sec h :)
  · exact (congrArg State.rbk h :)

/-! ### A commit -/

@[simp] theorem marked_setMark_same (m : Sparse Bool) (k : Nat) (b : Bool) : marked (setMark m k b) k = b := Sparse.get_set_same ..

theorem marked_setMark_other (m : Sparse Bool) {k j : Nat} (b : Bool) (h : j ≠ k) : marked (setMark m k b) j = marked m j :=
  Sparse.get_set_other _ _ _ h

/-- The register of a group is none of the counters that applying it may write. -/
theorem groupReg_ne_counters : ∀ g : BitVec 3,
    groupReg g.toNat ≠ Off.hifEventsLost ∧ groupReg g.toNat ≠ Off.hifMsixSent ∧ groupReg g.toNat ≠ Off.fabPeersLost := by decide

/-- The state between a group's effects and the landing of its held writes: its staged copy in force, its commit no longer pending. -/
def committed (s : State) (g : Nat) : State :=
  let u := (s.setReg (groupReg g) (s.stagedReg (groupReg g))).applyGroup g (s.regN (groupReg g)) (s.stagedReg (groupReg g)).toNat
  { u with commits := setMark u.commits g false }

theorem applyCommit_eq (s : State) (g : Nat) : s.applyCommit g = ((committed s g).landHeld g).event 0x36 0 g 0 0 := rfl

/-- A commit at its safe point, in a quiet state, is the committed state with the held writes landed, and records to the host. -/
theorem commitApplied_noise {s : State} {g : Nat} (hm : marked s.commits g = true) (hs : s.safePoint g = true) (hq : Quiet s) :
    Noise ((committed s g).landHeld g) (s.commitApplied g) := by
  have hframe := groupFrame_applyGroup (s.setReg (groupReg g) (s.stagedReg (groupReg g))) g (s.regN (groupReg g)) (s.stagedReg (groupReg g)).toNat
  obtain ⟨herr, hstalled⟩ := hframe.quiet hq
  obtain ⟨-, -, -, -, -, lhif, lerr, -⟩ := landHeld_fields (committed s g) g
  have hquiet : Quiet ((committed s g).landHeld g) := ⟨lerr ▸ herr, lhif ▸ hstalled⟩
  have hevent : Noise ((committed s g).landHeld g) (s.applyCommit g) := (Noise.refl _).event ..
  have heq : s.commitApplied g = (s.applyCommit g).finish := by simp [State.commitApplied, hm, hs]
  rw [heq]
  exact hevent.trans (noise_finish (hevent.quiet hquiet))

theorem commitApplied_not_due {s : State} {g : Nat} (h : marked s.commits g = false ∨ s.safePoint g = false) : s.commitApplied g = s := by
  rcases h with h | h <;> simp [State.commitApplied, h]

/-- What a group's commit at its safe point leaves in the registers. -/
theorem reg_commitApplied {s : State} {g : BitVec 3} (hm : marked s.commits g.toNat = true) (hs : s.safePoint g.toNat = true) (hq : Quiet s) :
    (s.commitApplied g.toNat).reg (groupReg g.toNat) = s.stagedReg (groupReg g.toNat) ∧
    ∀ p, p ≠ groupReg g.toNat → p ≠ Off.hifEventsLost → p ≠ Off.hifMsixSent → (g.toNat = 3 → p ≠ Off.fabPeersLost) →
      (s.commitApplied g.toNat).reg p = s.reg p := by
  have hnoise := commitApplied_noise hm hs hq
  have hframe := groupFrame_applyGroup (s.setReg (groupReg g.toNat) (s.stagedReg (groupReg g.toNat))) g.toNat (s.regN (groupReg g.toNat))
    (s.stagedReg (groupReg g.toNat)).toNat
  obtain ⟨lregs, -⟩ := landHeld_fields (committed s g.toNat) g.toNat
  have hland : ∀ p, ((committed s g.toNat).landHeld g.toNat).reg p = (committed s g.toNat).reg p := fun p => by simp only [State.reg, lregs]
  obtain ⟨h1, h2, h3⟩ := groupReg_ne_counters g
  refine ⟨?_, fun p hp p1 p2 p3 => ?_⟩
  · rw [hnoise.regs _ h1 h2, hland]
    exact (hframe.regs _ h1 h2 fun _ => h3).trans (State.reg_setReg_same ..)
  · rw [hnoise.regs _ p1 p2, hland]
    exact (hframe.regs _ p1 p2 p3).trans (State.reg_setReg_other _ _ hp)

/-- What a group's commit at its safe point leaves beside the registers. -/
theorem fields_commitApplied {s : State} {g : Nat} (hm : marked s.commits g = true) (hs : s.safePoint g = true) (hq : Quiet s) :
    (s.commitApplied g).commits = setMark s.commits g false ∧ (s.commitApplied g).rooms = s.rooms ∧ (s.commitApplied g).srv = s.srv ∧
    (s.commitApplied g).sec = s.sec ∧ (s.commitApplied g).rbk = s.rbk ∧ (s.commitApplied g).pwr = s.pwr ∧
    (s.commitApplied g).heldWrites = s.heldWrites.filter (fun e => !decide (e.1 = groupReg g)) := by
  obtain ⟨-, -, -, nheld, ncommits, nrooms, -, nsrv, -, -, -, -, npwr, nsec, nrbk, -⟩ := (commitApplied_noise hm hs hq).fields
  obtain ⟨-, lheld, lcommits, lrooms, lsrv, -, -, lpwr, lsec, lrbk⟩ := landHeld_fields (committed s g) g
  obtain ⟨-, gheld, gcommits, grooms, gsrv, -, gpwr, gsec, grbk⟩ :=
    (groupFrame_applyGroup (s.setReg (groupReg g) (s.stagedReg (groupReg g))) g (s.regN (groupReg g)) (s.stagedReg (groupReg g)).toNat).fields
  refine ⟨?_, ?_, ?_, ?_, ?_, ?_, ?_⟩
  · exact (ncommits.trans lcommits).trans (congrArg (setMark · g false) gcommits)
  · exact (nrooms.trans lrooms).trans grooms
  · exact (nsrv.trans lsrv).trans gsrv
  · exact (nsec.trans lsec).trans gsec
  · exact (nrbk.trans lrbk).trans grbk
  · exact (npwr.trans lpwr).trans gpwr
  · exact (nheld.trans lheld).trans (congrArg (List.filter _) gheld)

/-- The staged copies after a commit: that of the group with its held writes landed, every other as before (R13). -/
theorem stagedReg_commitApplied {s : State} {g : Nat} (hm : marked s.commits g = true) (hs : s.safePoint g = true) (hq : Quiet s) :
    (∀ i, regInfo (groupReg g) = some i →
      (s.commitApplied g).stagedReg (groupReg g) = landed i.fields (heldFor s g) (s.stagedReg (groupReg g))) ∧
    ∀ o, o ≠ groupReg g → (s.commitApplied g).stagedReg o = s.stagedReg o := by
  obtain ⟨-, -, nstaged, -⟩ := (commitApplied_noise hm hs hq).fields
  obtain ⟨gstaged, gheld, -⟩ :=
    (groupFrame_applyGroup (s.setReg (groupReg g) (s.stagedReg (groupReg g))) g (s.regN (groupReg g)) (s.stagedReg (groupReg g)).toNat).fields
  have hland : ∀ o, (s.commitApplied g).stagedReg o = ((committed s g).landHeld g).stagedReg o := fun o => by simp only [State.stagedReg, nstaged]
  have hheld : heldFor (committed s g) g = heldFor s g := congrArg (List.filter _) gheld
  have hstaged : ∀ o, (committed s g).stagedReg o = s.stagedReg o := fun o => congrArg (Sparse.get regReset · o) gstaged
  refine ⟨fun i hi => ?_, fun o ho => ?_⟩
  · rw [hland, landHeld_eq, stagedReg_stageAll_same hi _ (fun _ => mem_heldFor), hheld]
    exact congrArg _ (hstaged _)
  · rw [hland, landHeld_eq, stagedReg_stageAll_other ho _ (fun _ => mem_heldFor)]
    exact hstaged o

/-! ### The obligation -/

theorem exec_glbCommit {s : State} (hon : s.bar0On = true) (v : BitVec 64) : exec (.glbCommit v) s = .next (s.glbCommit v.toNat) := by
  show Host.Outcome.next (s.viaBar0 (fun s => s.glbCommit v.toNat)) = _
  simp [State.viaBar0, hon]

theorem exec_commitApplied (g : BitVec 3) (s : State) : exec (.commitApplied g) s = .next (s.commitApplied g.toNat) := rfl

/-- Settles O6: what a commit's effects change is a `GroupFrame`, what follows them is the landing of held writes and `Noise`. -/
theorem commitGroups : Obligations.CommitGroups := by
  unfold Obligations.CommitGroups
  refine ⟨fun s v hon => ⟨fun hid => ?_, fun hid => ?_⟩, fun s g => ⟨fun hm hs hq => ?_, fun off wide v i hon hok hi ha hm => ?_, fun h => ?_⟩⟩
  · rw [exec_glbCommit hon, State.glbCommit, if_pos hid]
    exact ⟨_, rfl, marked_setMark_same s.commits _ true, fun _ hg => marked_setMark_other s.commits true hg, rfl⟩
  · rw [exec_glbCommit hon, State.glbCommit, if_neg (by omega)]
    exact ⟨_, rfl, State.reg_setReg_same .., fun _ hp => State.reg_setReg_other s _ hp, rfl⟩
  · obtain ⟨hreg, hregs⟩ := reg_commitApplied hm hs hq
    obtain ⟨hcommits, hrooms, hsrv, hsec, hrbk, hpwr, hheld⟩ := fields_commitApplied hm hs hq
    obtain ⟨hstaged, hother⟩ := stagedReg_commitApplied hm hs hq
    refine ⟨_, exec_commitApplied g s, hreg, ?_, fun h hne => ?_, hregs, hrooms, hsrv, hsec, hrbk, hpwr, hheld, hstaged, hother⟩
    · rw [hcommits, marked_setMark_same]
    · rw [hcommits, marked_setMark_other _ _ hne]
  · rw [exec_registerWrite, regWrite_cm hon hok hi ha, State.cmWrite, if_pos hm, BitVec.ofNat_toNat, BitVec.setWidth_eq]
  · rw [exec_commitApplied, commitApplied_not_due h]

end Sys2Proof
end

section
/-! SUPPORT and PROOFS. The delivery of a descriptor that nothing makes wait (R15, R321, R324, R326): what the command then does, the refusal of privileged
operations, and obligation O40. -/

namespace Sys2Proof

open Sys2Proof.Machine

/-! ### Delivery -/

/-- A command of descriptors delivers its descriptor and ends. -/
theorem exec_of_descOf {c : Instr} {d : Desc} {op : DescOp} (h : descOf c = some (d, op)) (s : State) : exec c s = .next (s.deliverOp d op).finish := by
  cases c
  case undefinedOpcode d' k =>
    change (if definedOpcode k then none else some (d', DescOp.undefined k)) = some (d, op) at h
    split at h
    · cases h
    · rename_i hk
      cases h
      show Host.Outcome.next (if definedOpcode k then s else (s.deliverOp d (.undefined k)).finish) = _
      rw [if_neg hk]
  all_goals cases h <;> rfl

theorem claim_of_offered {s : State} {c : Instr} {d : Desc} {op : DescOp} {f : Fetched} (h : Offered s c d op f) : s.claim d op = (some f.desc, s) := by
  obtain ⟨-, -, -, hfetched, hnew, hstalled, hfits⟩ := h
  simp only [State.claim, hfetched, hnew, hstalled, hfits, Bool.not_false, Bool.and_true, if_true]

/-- A descriptor that nothing makes wait is applied by its command, and then what waited for it is offered again. -/
theorem exec_of_applies {s u : State} {c : Instr} {d : Desc} {op : DescOp} {f : Fetched} (h : Applies s c d op f)
    (ha : (s.markDelivered f.desc).applyOp d op f.desc = (true, u)) : exec c s = .next u.pump.finish := by
  obtain ⟨hoffer, hstate, horder, hsec⟩ := h
  have hclaim := claim_of_offered hoffer
  obtain ⟨hdesc, hmid, hdawn, -⟩ := hoffer
  have htry : s.tryOp false d op f.desc = (true, u) := by
    simp only [State.tryOp, hstate, horder, hsec, Bool.or_self, Bool.false_eq_true, if_false, ha]
  have hdeliver : s.deliverOp d op = u.pump := by
    simp only [State.deliverOp, hmid, hdawn, or_self, if_false, hclaim, htry, if_true]
  rw [exec_of_descOf hdesc, hdeliver]

/-! ### Statuses in the order of R15 -/

@[simp] theorem firstStatus_cons_zero (l : List Nat) : firstStatus (0 :: l) = firstStatus l := rfl

theorem firstStatus_cons_of_ne {a : Nat} (h : a ≠ 0) (l : List Nat) : firstStatus (a :: l) = a := by
  simp [firstStatus, h]

/-- Of conditions of which NOT_PERMITTED is one, and BAD_OPCODE none, it is the status. -/
theorem inOrder15_notPermitted {l : List Nat} (h : 0x13 ∈ l) (h10 : 0x10 ∉ l) : inOrder15 l = 0x13 := by
  simp [inOrder15, h, h10]

theorem checkPiece_ne_badOpcode (s : State) (t : Option Nat) (w : Bool) (p : Nat × Nat) : s.checkPiece t w p ≠ 0x10 := by
  unfold State.checkPiece State.checkWindow State.checkPeer
  dsimp only
  split
  · split <;> decide
  · repeat' split
    all_goals decide
  · repeat' split
    all_goals decide
  · decide

/-- No access check answers BAD_OPCODE. -/
theorem checkAccess_ne_badOpcode (s : State) (t : Option Nat) (w : Bool) (a n : Nat) : s.checkAccess t w a n ≠ 0x10 := by
  have hfold : ∀ (l : List (Nat × Nat)) (st : Nat), st ≠ 0x10 → l.foldl (fun st p => if st ≠ 0 then st else s.checkPiece t w p) st ≠ 0x10 := by
    intro l
    induction l with
    | nil => exact fun _ h => h
    | cons p l ih =>
      intro st h
      refine ih _ ?_
      show (if st ≠ 0 then st else s.checkPiece t w p) ≠ 0x10
      split
      · exact h
      · exact checkPiece_ne_badOpcode s t w p
  unfold State.checkAccess
  split
  · exact checkPiece_ne_badOpcode s t w _
  · exact hfold _ 0 (by decide)

section
variable {s : State} {d : Desc} {op : DescOp}

theorem denied_of_unprivileged (hp : opPriv op = true) (hpriv : s.privOf d = false) : s.denied d op = true := by
  simp [State.denied, hp, hpriv]

theorem plainChecks_denied (h : s.denied d op = true) (handleBad argBad : Bool) : s.plainChecks d op handleBad argBad = 0x13 := by
  rw [State.plainChecks, h]
  exact firstStatus_cons_of_ne (by decide) _

theorem secChecks_denied (h : s.denied d op = true) : s.secChecks d op = 0x13 := by
  rw [State.secChecks, plainChecks_denied h]
  cases s.recoveryDenies op <;> rfl

end

/-! ### Privileged operations (R321, R326, R423) -/

section
variable {s : State} {d : Desc}

theorem ringCreateStatus_denied {o : RingCreateOp} (h : s.denied d (.ringCreate o) = true) : s.ringCreateStatus d o = 0x13 := by
  simp only [State.ringCreateStatus, plainChecks_denied h]
  exact firstStatus_cons_of_ne (by decide) _

theorem ringDestroyStatus_denied {k : BitVec 2} (h : s.denied d (.ringDestroy k) = true) : s.ringDestroyStatus d k = 0x13 := by
  simp only [State.ringDestroyStatus, h, Bool.true_or]
  exact firstStatus_cons_of_ne (by decide) _

theorem kvPoolStatus_denied {o : KvPoolOp} (h : s.denied d (.kvPool o) = true) : s.kvPoolStatus d o = 0x13 := by
  simp only [State.kvPoolStatus, h, Bool.true_or]
  exact firstStatus_cons_of_ne (by decide) _

theorem memCopyStatus_denied {o : MemCopyOp} {x : Ext} (h : s.denied d (.memCopy o x) = true) : s.memCopyStatus d o x = 0x13 := by
  simp only [State.memCopyStatus, h, Bool.true_or]
  refine inOrder15_notPermitted (by simp [failIf]) ?_
  have hdst := checkAccess_ne_badOpcode s (some (s.tenantOf d)) true o.dst.toNat o.length.toNat
  have hsrc := checkAccess_ne_badOpcode s (some (s.tenantOf d)) false o.src.toNat o.length.toNat
  simp only [failIf, List.mem_cons, List.not_mem_nil, or_false, not_or]
  refine ⟨by decide, hdst.symm, ?_, ?_, ?_⟩
  · split
    · decide
    · exact hsrc.symm
  all_goals split <;> decide

theorem stopsetWriteOp_denied {src : BitVec 48} {x : Ext} (h : s.denied d (.stopsetWrite src x) = true) (c : DescRef) :
    s.stopsetWriteOp d src x c = s.complete c 0x13 0 0 := by
  have hst : ∀ b : Bool, inOrder15 [failIf b 0x13, 0x13, s.checkAccess (some (s.tenantOf d)) false src.toNat 768] = 0x13 := fun b => by
    refine inOrder15_notPermitted (by simp) ?_
    have hsrc := checkAccess_ne_badOpcode s (some (s.tenantOf d)) false src.toNat 768
    cases b <;> simp [failIf, hsrc.symm]
  simp [State.stopsetWriteOp, plainChecks_denied h, hst]

/-- An operation that requires a privileged ring, on a ring that is not, completes with NOT_PERMITTED and changes nothing more. -/
theorem applyOp_unprivileged {op : DescOp} (hp : opPriv op = true) (hpriv : s.privOf d = false) (c : DescRef) :
    s.applyOp d op c = (true, s.complete c 0x13 0 0) := by
  have hd := denied_of_unprivileged hp hpriv
  cases op with
  | ringCreate o => simp [State.applyOp, State.ringCreateOp, ringCreateStatus_denied hd]
  | ringDestroy k => simp [State.applyOp, State.ringDestroyOp, ringDestroyStatus_denied hd]
  | ringReset => simp [State.applyOp, State.ringResetOp, plainChecks_denied hd]
  | hostWindow o => simp [State.applyOp, State.hostWindowOp, plainChecks_denied hd]
  | tenantQuota o => simp [State.applyOp, State.tenantQuotaOp, plainChecks_denied hd]
  | tenantRules w => simp [State.applyOp, State.tenantRulesOp, plainChecks_denied hd]
  | stopsetWrite src x => simp [State.applyOp, stopsetWriteOp_denied hd]
  | lessonInstall o x => simp [State.applyOp, State.lessonInstallOp, hd, failIf, firstStatus_cons_of_ne]
  | lessonRemove w => simp [State.applyOp, State.lessonRemoveOp, plainChecks_denied hd]
  | memClass o => simp [State.applyOp, State.memClassOp, plainChecks_denied hd, firstStatus_cons_of_ne]
  | kvPool o => simp [State.applyOp, State.kvPoolOp, kvPoolStatus_denied hd]
  | memCopy o x => simp [State.applyOp, State.memCopyOp, memCopyStatus_denied hd]
  | modelLoad o x => simp [State.applyOp, State.modelLoadOp, plainChecks_denied hd]
  | modelUnload => simp [State.applyOp, State.modelUnloadOp, plainChecks_denied hd, firstStatus_cons_of_ne]
  | modelGolden g g2 => simp [State.applyOp, State.modelGoldenOp, plainChecks_denied hd, firstStatus_cons_of_ne]
  | fwQuery dst x => simp [State.applyOp, State.fwQueryOp, secChecks_denied hd]
  | fwStage o x => simp [State.applyOp, State.fwStageOp, secChecks_denied hd, firstStatus_cons_of_ne]
  | fwActivate b => simp [State.applyOp, State.fwActivateOp, secChecks_denied hd]
  | fwCommit k => simp [State.applyOp, State.fwCommitOp, secChecks_denied hd, firstStatus_cons_of_ne]
  | rbkFwStage o x => simp [State.applyOp, State.rbkFwStageOp, secChecks_denied hd, firstStatus_cons_of_ne]
  | ownerEnroll src x => simp [State.applyOp, State.ownerEnrollOp, secChecks_denied hd]
  | configWrite src x => simp [State.applyOp, State.configWriteOp, secChecks_denied hd]
  | permitInstall src x => simp [State.applyOp, State.permitInstallOp, secChecks_denied hd]
  | permitRevoke => simp [State.applyOp, State.permitRevokeOp, secChecks_denied hd]
  | nop => cases hp
  | undefined k => cases hp
  | modelQuery dst x => cases hp
  | msetInstall o x => cases hp
  | msetRemove n => cases hp
  | msetQuery dst x => cases hp
  | sessionOpen o => cases hp
  | turn o x => cases hp
  | abortTurn => cases hp
  | pause o => cases hp
  | resume => cases hp
  | sessionEnd => cases hp
  | sessionRewind n => cases hp
  | sessionQuery dst x => cases hp

end

/-- A NOP is denied nowhere: it completes with OK, or with BAD_ARG when a reserved bit of its descriptor is set. -/
theorem plainChecks_nop (s : State) (d : Desc) : s.plainChecks d .nop false false = failIf (badBits d .nop) 0x11 := by
  have hd : s.denied d .nop = false := by simp [State.denied, opPriv, ringOnly]
  simp [State.plainChecks, hd, failIf]
  cases badBits d .nop <;> rfl

theorem applyOp_nop (s : State) (d : Desc) (c : DescRef) : s.applyOp d .nop c = (true, s.complete c (failIf (badBits d .nop) 0x11) 0 0) := by
  rw [← plainChecks_nop s d]; rfl

/-- Settles O40: every privileged operation checks its ring before all else. -/
theorem privilegedOperationsAreRefused : Obligations.PrivilegedOperationsAreRefused := by
  unfold Obligations.PrivilegedOperationsAreRefused CompletesIn
  refine ⟨fun s c d op f h hp hpriv => ?_, fun s d f h => ?_⟩
  · have hpriv' : (s.markDelivered f.desc).privOf d = false := hpriv
    exact exec_of_applies h (applyOp_unprivileged hp hpriv' f.desc)
  · have hnop := exec_of_applies h (applyOp_nop _ d f.desc)
    refine ⟨fun hrsv hhandle => ?_, fun hbad => ?_⟩
    · have hb : badBits d .nop = false := by simp [badBits, hrsv, hhandle]
      rwa [hb] at hnop
    · have hb : badBits d .nop = true := by
        rcases hbad with hrsv | hhandle
        · simp [badBits, hrsv]
        · simpa [badBits, opNoHandle] using .inr hhandle
      rwa [hb] at hnop

end Sys2Proof
end

section
/-! SUPPORT and PROOFS. The context command (R352, R353): its three commands, the end of the collectives that use a context, and obligation O53. -/

namespace Sys2Proof

open Sys2Proof.Machine

/-! ### The commands -/

section
variable {s : State}

theorem exec_ctxWrite (hon : s.bar0On = true) : exec .ctxWrite s = .next s.ctxWriteCmd := by
  show Host.Outcome.next (s.viaBar0 State.ctxWriteCmd) = _
  rw [State.viaBar0, if_pos hon]

theorem exec_ctxRead (hon : s.bar0On = true) : exec .ctxRead s = .next s.ctxReadCmd := by
  show Host.Outcome.next (s.viaBar0 State.ctxReadCmd) = _
  rw [State.viaBar0, if_pos hon]

theorem exec_ctxFree (hon : s.bar0On = true) : exec .ctxFree s = .next s.ctxFreeCmd := by
  show Host.Outcome.next (s.viaBar0 State.ctxFreeCmd) = _
  rw [State.viaBar0, if_pos hon]

end

@[simp] theorem ctx_setCtx_same (s : State) (k : Nat) (c : Ctx) : (s.setCtx k c).ctx k = c := Sparse.get_set_same ..

@[simp] theorem setCtx_regs (s : State) (k : Nat) (c : Ctx) : (s.setCtx k c).regs = s.regs := rfl
@[simp] theorem setCtx_mem (s : State) (k : Nat) (c : Ctx) : (s.setCtx k c).mem = s.mem := rfl
@[simp] theorem setCtx_asm (s : State) (k : Nat) (c : Ctx) : (s.setCtx k c).asm = s.asm := rfl

theorem ctx_setCtx_other (s : State) {k j : Nat} (c : Ctx) (h : j ≠ k) : (s.setCtx k c).ctx j = s.ctx j := Sparse.get_set_other _ _ _ h

@[simp] theorem group_setGroup_same (s : State) (g : Nat) (x : Group) : (s.setGroup g x).group g = x := Sparse.get_set_same ..

theorem group_setGroup_other (s : State) {g h : Nat} (x : Group) (hne : h ≠ g) : (s.setGroup g x).group h = s.group h :=
  Sparse.get_set_other _ _ _ hne

@[simp] theorem reg_ctxStatus (s : State) (st : Nat) : (s.ctxStatus st).reg Off.fabCtxCmd = BitVec.ofNat 64 (st * 256) := State.reg_setReg_same ..

theorem reg_ctxStatus_zero (s : State) : (s.ctxStatus 0).reg Off.fabCtxCmd = 0 := (reg_ctxStatus s 0).trans rfl

theorem reg_ctxStatus_other (s : State) (st : Nat) {p : Nat} (h : p ≠ Off.fabCtxCmd) : (s.ctxStatus st).reg p = s.reg p :=
  State.reg_setReg_other s _ h

@[simp] theorem ctxStatus_fab (s : State) (st : Nat) : (s.ctxStatus st).fab = s.fab := rfl
@[simp] theorem ctxStatus_mem (s : State) (st : Nat) : (s.ctxStatus st).mem = s.mem := rfl
@[simp] theorem ctxStatus_asm (s : State) (st : Nat) : (s.ctxStatus st).asm = s.asm := rfl
@[simp] theorem ctxStatus_ctx (s : State) (st k : Nat) : (s.ctxStatus st).ctx k = s.ctx k := rfl
@[simp] theorem ctxStatus_group (s : State) (st g : Nat) : (s.ctxStatus st).group g = s.group g := rfl

/-! ### WRITE and READ -/

section
variable {s : State} {k : Nat}

theorem ctxWriteCmd_badArg (h : s.ctxFieldsOk (ctxClean (s.ctxData.take 48)) = false) : s.ctxWriteCmd = s.ctxStatus 0x11 := by
  simp [State.ctxWriteCmd, h]

theorem ctxWriteCmd_busy (hk : k = s.regField Off.fabCtxSel 0 12) (h : s.ctxFieldsOk (ctxClean (s.ctxData.take 48)) = true) (hlive : (s.ctx k).state = 1) :
    s.ctxWriteCmd = s.ctxStatus 0x21 := by
  subst hk
  simp [State.ctxWriteCmd, h, hlive]

theorem ctxWriteCmd_makes (hk : k = s.regField Off.fabCtxSel 0 12) (h : s.ctxFieldsOk (ctxClean (s.ctxData.take 48)) = true) (hfree : (s.ctx k).state ≠ 1) :
    s.ctxWriteCmd =
      (s.setCtx k { s.madeCtx (ctxClean (s.ctxData.take 48)) with inj0 := (s.ctx k).inj0, inj1 := (s.ctx k).inj1 }).ctxStatus 0 := by
  subst hk
  simp [State.ctxWriteCmd, h, hfree]

/-- A good WRITE: the command's status, the context, the other contexts, memory and the groups. -/
theorem ctxWriteCmd_made (hk : k = s.regField Off.fabCtxSel 0 12) (h : s.ctxFieldsOk (ctxClean (s.ctxData.take 48)) = true) (hfree : (s.ctx k).state ≠ 1) :
    s.ctxWriteCmd.reg Off.fabCtxCmd = 0 ∧
    s.ctxWriteCmd.ctx k = { s.madeCtx (ctxClean (s.ctxData.take 48)) with inj0 := (s.ctx k).inj0, inj1 := (s.ctx k).inj1 } ∧
    (∀ j, j ≠ k → s.ctxWriteCmd.ctx j = s.ctx j) ∧ s.ctxWriteCmd.mem = s.mem ∧ s.ctxWriteCmd.asm = s.asm := by
  rw [ctxWriteCmd_makes hk h hfree]
  refine ⟨reg_ctxStatus_zero _, ?_, fun j hj => ?_, ?_, ?_⟩
  · rw [ctxStatus_ctx, ctx_setCtx_same]
  · rw [ctxStatus_ctx, ctx_setCtx_other s _ hj]
  · rw [ctxStatus_mem, setCtx_mem]
  · rw [ctxStatus_asm, setCtx_asm]

end

/-- Storing values in the first `n` data registers leaves everything but registers. -/
theorem storeData_rest (v : Nat → Reg) (n : Nat) (s : State) :
    { (List.range n).foldl (fun s k => s.setReg (Off.fabCtxData k) (v k)) s with regs := s.regs } = s := by
  induction n with
  | zero => rfl
  | succ n ih =>
    rw [List.range_succ, List.foldl_append]
    exact ih

theorem reg_storeData (v : Nat → Reg) {n j : Nat} (hj : j < n) (s : State) :
    ((List.range n).foldl (fun s k => s.setReg (Off.fabCtxData k) (v k)) s).reg (Off.fabCtxData j) = v j := by
  induction n with
  | zero => omega
  | succ n ih =>
    rw [List.range_succ, List.foldl_append, List.foldl_cons, List.foldl_nil]
    by_cases h : j = n
    · rw [h, State.reg_setReg_same]
    · have hne : Off.fabCtxData j ≠ Off.fabCtxData n := by unfold Off.fabCtxData; omega
      rw [State.reg_setReg_other _ _ hne, ih (by omega)]

/-- READ: the data registers hold the record; the command's status, the fabric and memory. -/
theorem ctxReadCmd_copies {s : State} {k : Nat} (hk : k = s.regField Off.fabCtxSel 0 12) :
    (∀ j, j < 8 → s.ctxReadCmd.reg (Off.fabCtxData j) = BitVec.ofNat 64 (hfield (s.ctx k).record (8 * j) 8)) ∧
    s.ctxReadCmd.reg Off.fabCtxCmd = 0 ∧ s.ctxReadCmd.fab = s.fab ∧ s.ctxReadCmd.mem = s.mem := by
  subst hk
  have hrest := storeData_rest (fun j => BitVec.ofNat 64 (hfield (s.ctx (s.regField Off.fabCtxSel 0 12)).record (8 * j) 8)) 8 s
  refine ⟨fun j hj => ?_, reg_ctxStatus_zero _, (congrArg State.fab hrest :), (congrArg State.mem hrest :)⟩
  have hne : Off.fabCtxData j ≠ Off.fabCtxCmd := by unfold Off.fabCtxData Off.fabCtxCmd; omega
  exact (reg_ctxStatus_other _ 0 hne).trans (reg_storeData _ hj s)

/-! ### FREE -/

/-- A collective of a context that goes: one without a result fails with `st`, one that has its result keeps it. -/
def collEnd (st : Nat) (c : Coll) : Coll := if c.result.isNone then c.fail st else c

theorem collEnd_of_isSome (st : Nat) {c : Coll} (h : c.result.isSome = true) : collEnd st c = c := by
  rw [collEnd, if_neg]
  rw [Option.isNone_iff_eq_none, ← ne_eq, Option.ne_none_iff_isSome]
  exact h

theorem collEnd_of_none (st : Nat) {c : Coll} (h : c.result = none) : collEnd st c = c.fail st := by
  rw [collEnd, if_pos]
  simpa using h

/-- One group's part in `State.failColls`. -/
def failGroup (k st : Nat) (s : State) (g : Nat) : State :=
  if s.groupOn g ∧ (s.entryOf g k).isSome then s.setGroup g { s.group g with colls := (s.group g).colls.map (collEnd st) } else s

theorem failColls_eq (s : State) (k st : Nat) : s.failColls k st = (List.range 16).foldl (failGroup k st) s := rfl

theorem failGroup_rest (k st : Nat) (s : State) (g : Nat) : { failGroup k st s g with asm := s.asm } = s := by
  unfold failGroup
  split <;> rfl

theorem failGroups_rest (k st n : Nat) (s : State) : { (List.range n).foldl (failGroup k st) s with asm := s.asm } = s := by
  induction n with
  | zero => rfl
  | succ n ih =>
    rw [List.range_succ, List.foldl_append]
    have h := failGroup_rest k st ((List.range n).foldl (failGroup k st) s) n
    exact (congrArg (fun u : State => { u with asm := s.asm }) h).trans ih

/-- Whether a group is enabled and which contexts it names stand in registers. -/
theorem groupOn_entryOf_congr {s t : State} (h : t.regs = s.regs) (g k : Nat) : t.groupOn g = s.groupOn g ∧ t.entryOf g k = s.entryOf g k := by
  have hfield : ∀ o n, t.groupField g o n = s.groupField g o n := fun o n => by simp only [State.groupField, State.regN, State.reg, h]
  have hentry : t.ctxEntry g = s.ctxEntry g := funext fun i => hfield _ 2
  exact ⟨by rw [State.groupOn, hfield, State.groupOn], by rw [State.entryOf, hentry, State.entryOf]⟩

theorem group_failGroup_other (k st : Nat) (s : State) {g h : Nat} (hne : h ≠ g) : (failGroup k st s g).group h = s.group h := by
  unfold failGroup
  split
  · exact group_setGroup_other s _ hne
  · rfl

/-- After the first `n` groups, one of them that uses the context has its collectives ended, and the others stand as before. -/
theorem group_failGroups (k st : Nat) (s : State) {g : Nat} (hon : s.groupOn g = true) (huse : (s.entryOf g k).isSome = true) (n : Nat) :
    ((List.range n).foldl (failGroup k st) s).group g =
      if g < n then { s.group g with colls := (s.group g).colls.map (collEnd st) } else s.group g := by
  induction n with
  | zero => rfl
  | succ n ih =>
    rw [List.range_succ, List.foldl_append, List.foldl_cons, List.foldl_nil]
    by_cases h : g = n
    · subst h
      have hregs : ((List.range g).foldl (failGroup k st) s).regs = s.regs := (congrArg State.regs (failGroups_rest k st g s) :)
      obtain ⟨hon', huse'⟩ := groupOn_entryOf_congr hregs g k
      rw [if_neg (Nat.lt_irrefl g)] at ih
      rw [failGroup, if_pos ⟨hon'.trans hon, huse' ▸ huse⟩, group_setGroup_same, ih, if_pos (Nat.lt_succ_self g)]
    · rw [group_failGroup_other k st _ h, ih]
      simp only [Nat.lt_succ_iff, Nat.le_iff_lt_or_eq, h, or_false]

theorem group_failColls (k st : Nat) (s : State) {g : Nat} (hg : g < 16) (hon : s.groupOn g = true) (huse : (s.entryOf g k).isSome = true) :
    (s.failColls k st).group g = { s.group g with colls := (s.group g).colls.map (collEnd st) } := by
  rw [failColls_eq, group_failGroups k st s hon huse, if_pos hg]

/-- The end of collectives changes groups alone. -/
theorem failColls_rest (k st : Nat) (s : State) : { s.failColls k st with asm := s.asm } = s := failGroups_rest k st 16 s

/-- No frame of context `k` waits for its port any longer. -/
theorem waiting_dropWaiting (s : State) (k : Nat) :
    Sparse.get (fun _ => []) (s.dropWaiting k).fab.waiting (s.ctx k).port =
      (Sparse.get (fun _ => []) s.fab.waiting (s.ctx k).port).filter (fun f => decide (f.ctx ≠ k)) := Sparse.get_set_same ..

/-- What FREE leaves of a context: its bytes, its sequence numbers, its rate and its injection. -/
def freedCtx (c : Ctx) : Ctx := { Ctx.free with bytes := c.bytes, txPsn := c.txPsn, rxPsn := c.rxPsn, rate := c.rate, inj0 := c.inj0, inj1 := c.inj1 }

/-- The state in which a FREE of context `k` ends its collectives. -/
def ctxFreed (s : State) (k : Nat) : State := (s.dropWaiting k).setCtx k (freedCtx (s.ctx k))

theorem ctxFreeCmd_eq {s : State} {k : Nat} (hk : k = s.regField Off.fabCtxSel 0 12) : s.ctxFreeCmd = ((ctxFreed s k).failColls k 0x40).ctxStatus 0 := by
  subst hk; rfl

/-- FREE: the command's status, the context, the other contexts, the frames that wait for the context's port, and memory. -/
theorem ctxFreeCmd_frees {s : State} {k : Nat} (hk : k = s.regField Off.fabCtxSel 0 12) :
    s.ctxFreeCmd.reg Off.fabCtxCmd = 0 ∧ s.ctxFreeCmd.ctx k = freedCtx (s.ctx k) ∧ (∀ j, j ≠ k → s.ctxFreeCmd.ctx j = s.ctx j) ∧
    Sparse.get (fun _ => []) s.ctxFreeCmd.fab.waiting (s.ctx k).port =
      (Sparse.get (fun _ => []) s.fab.waiting (s.ctx k).port).filter (fun f => decide (f.ctx ≠ k)) ∧ s.ctxFreeCmd.mem = s.mem := by
  have hrest := failColls_rest k 0x40 (ctxFreed s k)
  have hfab : s.ctxFreeCmd.fab = (ctxFreed s k).fab := by rw [ctxFreeCmd_eq hk]; exact (congrArg State.fab hrest :)
  have hmem : s.ctxFreeCmd.mem = s.mem := by rw [ctxFreeCmd_eq hk]; exact (congrArg State.mem hrest :)
  have hctx : ∀ j, s.ctxFreeCmd.ctx j = (ctxFreed s k).ctx j := fun j => by simp only [State.ctx, hfab]
  refine ⟨by rw [ctxFreeCmd_eq hk, reg_ctxStatus_zero], ?_, fun j hj => ?_, ?_, hmem⟩
  · rw [hctx, ctxFreed, ctx_setCtx_same]
  · rw [hctx, ctxFreed, ctx_setCtx_other _ _ hj]; rfl
  · rw [hfab]; exact waiting_dropWaiting s k

theorem group_ctxFreeCmd {s : State} {k g : Nat} (hk : k = s.regField Off.fabCtxSel 0 12) (hg : g < 16) (hon : s.groupOn g = true)
    (huse : (s.entryOf g k).isSome = true) : (s.ctxFreeCmd.group g).colls = (s.group g).colls.map (collEnd 0x40) := by
  have hregs : (ctxFreed s k).regs = s.regs := rfl
  obtain ⟨hon', huse'⟩ := groupOn_entryOf_congr hregs g k
  have hgroup := group_failColls k 0x40 (ctxFreed s k) hg (hon'.trans hon) (huse' ▸ huse)
  rw [ctxFreeCmd_eq hk, ctxStatus_group, hgroup]
  rfl

/-- Settles O53, one command at a time. -/
theorem contextCommands : Obligations.ContextCommands := by
  unfold Obligations.ContextCommands
  intro s k hon hk
  rw [exec_ctxWrite hon, exec_ctxRead hon, exec_ctxFree hon]
  refine ⟨fun hok hlive => ?_, fun hbad => ?_, fun hfree hok => ?_, ?_, ?_⟩
  · rw [ctxWriteCmd_busy hk hok hlive]; rfl
  · rw [ctxWriteCmd_badArg hbad]; rfl
  · obtain ⟨hcmd, hctx, hother, hmem, hasm⟩ := ctxWriteCmd_made hk hok hfree
    refine ⟨_, rfl, hcmd, ?_, ?_, ?_, ?_, ?_, ?_, hother, hmem, hasm⟩ <;> rw [hctx] <;> rfl
  · obtain ⟨hdata, hcmd, hfab, hmem⟩ := ctxReadCmd_copies hk
    exact ⟨_, rfl, hdata, hcmd, hfab, hmem⟩
  · obtain ⟨hcmd, hctx, hother, hwaiting, hmem⟩ := ctxFreeCmd_frees hk
    refine ⟨_, rfl, hcmd, ?_, ?_, ?_, fun f hf => ?_, ?_, ?_, ?_, hother, hmem, fun g hg hgon huse => ?_⟩
    · rw [hctx]; rfl
    · rw [hctx]; rfl
    · rw [hctx]; rfl
    · rw [hwaiting] at hf
      exact of_decide_eq_true (List.mem_filter.1 hf).2
    · rw [hctx]; rfl
    · rw [hctx]; rfl
    · rw [hctx]; rfl
    · rw [group_ctxFreeCmd hk hg hgon huse]
      refine ⟨List.length_map .., fun i c hc => ⟨collEnd 0x40 c, ?_, collEnd_of_isSome 0x40, fun hnone => ?_⟩⟩
      · rw [List.getElem?_map, hc]; rfl
      · rw [collEnd_of_none 0x40 hnone]
        exact ⟨rfl, rfl⟩

end Sys2Proof
end

section
/-! SUPPORT. What the Expander's commands share (R99, R107, R137, R155, R165, R183): what an accepted dispatch leaves, what a report of an error or a fault leaves and counts, what a change of
one Expander leaves, and what the Slate holds after a write. -/

namespace Sys2Proof

open Sys2Proof.Machine

/-! ### A change of one Expander -/

theorem ex_of_room {s t : State} {k j : Fin 32} (h : t.room k = s.room j) : t.ex k = s.ex j := congrArg Classroom.ex h

@[simp] theorem ex_modEx_same (s : State) (k : Fin 32) (f : Expander → Expander) : (s.modEx k f).ex k = f (s.ex k) :=
  congrArg Classroom.ex (State.room_modRoom_same ..)

@[simp] theorem room_modEx_same (s : State) (k : Fin 32) (f : Expander → Expander) :
    (s.modEx k f).room k = { s.room k with ex := f (s.ex k) } := State.room_modRoom_same ..

theorem room_modEx_other (s : State) {k j : Fin 32} (f : Expander → Expander) (h : j ≠ k) : (s.modEx k f).room j = s.room j :=
  State.room_modRoom_other s _ h

@[simp] theorem reg_modEx (s : State) (k : Fin 32) (f : Expander → Expander) (p : Nat) : (s.modEx k f).reg p = s.reg p := rfl
@[simp] theorem seq_modEx (s : State) (k : Fin 32) (f : Expander → Expander) (w : Wing) : (s.modEx k f).seq w = s.seq w := rfl
@[simp] theorem holding_modEx (s : State) (k : Fin 32) (f : Expander → Expander) (w : Wing) (q : HoldReq) :
    (s.modEx k f).holding w q = s.holding w q := rfl

theorem UnitFrame.modEx {k : Fin 32} {s t : State} (h : UnitFrame k s t) (f : Expander → Expander) : UnitFrame k s (t.modEx k f) := h.modRoom _

/-- A Classroom that a change leaves as it is leaves the state as it is. -/
theorem modRoom_of_fixed {s : State} {k : Fin 32} {f : Classroom → Classroom} (h : f (s.room k) = s.room k) : s.modRoom k f = s := by
  have hset : s.rooms.set k.val (f (s.room k)) k.isLt = s.rooms := by
    rw [h]; exact Vector.set_getElem_self ..
  exact congrArg (fun r => { s with rooms := r }) hset

theorem modEx_of_fixed {s : State} {k : Fin 32} {f : Expander → Expander} (h : f (s.ex k) = s.ex k) : s.modEx k f = s :=
  modRoom_of_fixed (congrArg (fun e => { s.room k with ex := e }) h)

/-! ### Requests for the Hold (R143, R144) -/

@[simp] theorem room_holdOn (s : State) (w : Wing) (n : Nat) (q : HoldReq) (j : Fin 32) : (s.holdOn w n q).room j = s.room j := by
  unfold State.holdOn
  dsimp only
  rw [State.modSeq_room]
  split
  · rfl
  · rw [State.bump_room]

@[simp] theorem ex_holdOn (s : State) (w : Wing) (n : Nat) (q : HoldReq) (j : Fin 32) : (s.holdOn w n q).ex j = s.ex j := ex_of_room (room_holdOn ..)

@[simp] theorem room_holdOff (s : State) (w : Wing) (q : HoldReq) (j : Fin 32) : (s.holdOff w q).room j = s.room j := rfl
@[simp] theorem ex_holdOff (s : State) (w : Wing) (q : HoldReq) (j : Fin 32) : (s.holdOff w q).ex j = s.ex j := rfl
@[simp] theorem reg_holdOff (s : State) (w : Wing) (q : HoldReq) (p : Nat) : (s.holdOff w q).reg p = s.reg p := rfl

theorem seq_holdOn (s : State) (w : Wing) (n : Nat) (q : HoldReq) :
    (s.holdOn w n q).seq w = { s.seq w with
      held := true, holdT := if (s.seq w).held then min (s.seq w).holdT n else n
      holds := if (s.seq w).holds.contains q then (s.seq w).holds else (s.seq w).holds ++ [q] } := by
  unfold State.holdOn
  dsimp only
  rw [State.seq_modSeq_same]
  split
  · rfl
  · rename_i h; rw [State.bump_seq, if_neg h]

theorem held_holdOn (s : State) (w : Wing) (n : Nat) (q : HoldReq) : ((s.holdOn w n q).seq w).held = true := by rw [seq_holdOn]

theorem holding_holdOn (s : State) (w : Wing) (n : Nat) (q : HoldReq) : (s.holdOn w n q).holding w q = true := by
  unfold State.holding
  rw [seq_holdOn]
  dsimp only
  split
  · assumption
  · simp

/-- Under a request for cycle `n` the counter reads below `n` (R143). -/
theorem count_holdOn (s : State) (w : Wing) (n : Nat) (q : HoldReq) : ((s.holdOn w n q).seq w).count ≤ n - 1 := by
  have hT : ((s.holdOn w n q).seq w).holdT ≤ n := by
    rw [seq_holdOn]
    dsimp only
    split
    · exact Nat.min_le_right ..
    · exact Nat.le_refl n
  rw [Sequencer.count, if_pos (held_holdOn ..)]
  omega

@[simp] theorem seq_holdOff (s : State) (w : Wing) (q : HoldReq) :
    (s.holdOff w q).seq w = { s.seq w with holds := (s.seq w).holds.filter (fun x => x != q) } := State.seq_modSeq_same ..

theorem holding_holdOff_same (s : State) (w : Wing) (q : HoldReq) : (s.holdOff w q).holding w q = false := by
  simp [State.holding]

/-- Once withdrawn, a request stays so while others are withdrawn. -/
theorem holding_holdOff_of_not {s : State} {w : Wing} {q : HoldReq} (h : s.holding w q = false) (r : HoldReq) : (s.holdOff w r).holding w q = false := by
  simp only [State.holding, seq_holdOff, List.contains_eq_mem, decide_eq_false_iff_not] at h ⊢
  exact fun hm => h (List.mem_filter.1 hm).1

/-! ### Reports of errors and faults -/

/-- `t` is `s` but for what a report of an error or a fault changes: no Classroom, and of a Sequencer only its error mark and its faults. -/
structure ReportFrame (s t : State) : Prop where
  rooms : t.rooms = s.rooms
  seqs : ∀ w, { t.seq w with error := (s.seq w).error, faults := (s.seq w).faults } = s.seq w

theorem ReportFrame.refl (s : State) : ReportFrame s s := ⟨rfl, fun _ => rfl⟩

theorem ReportFrame.trans {s t u : State} (h : ReportFrame s t) (g : ReportFrame t u) : ReportFrame s u := by
  refine ⟨g.rooms.trans h.rooms, fun w => ?_⟩
  have h := h.seqs w; have g := g.seqs w
  rw [← h, ← g]

section
variable {s t : State}

theorem ReportFrame.room (h : ReportFrame s t) (j : Fin 32) : t.room j = s.room j := congrArg (fun r => r.get j) h.rooms

theorem ReportFrame.ex (h : ReportFrame s t) (j : Fin 32) : t.ex j = s.ex j := ex_of_room (h.room j)

theorem ReportFrame.holding (h : ReportFrame s t) (w : Wing) (q : HoldReq) : t.holding w q = s.holding w q := by
  have hw : (t.seq w).holds = (s.seq w).holds := by rw [← h.seqs w]
  rw [State.holding, State.holding, hw]

theorem ReportFrame.setReg (h : ReportFrame s t) (o : Nat) (v : Reg) : ReportFrame s (t.setReg o v) := h.trans ⟨rfl, fun _ => rfl⟩

theorem ReportFrame.bump (h : ReportFrame s t) (o n : Nat) : ReportFrame s (t.bump o n) := h.setReg ..

/-- A change of a Sequencer's error mark and faults alone. -/
theorem ReportFrame.modSeq (h : ReportFrame s t) (w : Wing) (f : Sequencer → Sequencer)
    (hf : ∀ q, { f q with error := q.error, faults := q.faults } = q) : ReportFrame s (t.modSeq w f) := by
  refine h.trans ⟨rfl, fun v => ?_⟩
  by_cases hv : v = w
  · subst hv; rw [State.seq_modSeq_same]; exact hf _
  · rw [State.seq_modSeq_other _ _ hv]

theorem ReportFrame.markErrorIn (h : ReportFrame s t) (k : Fin 32) : ReportFrame s (t.markErrorIn k) :=
  (h.modSeq (wingOf k) (fun q => { q with error := true }) fun _ => rfl).trans ⟨rfl, fun _ => rfl⟩

theorem ReportFrame.noise (h : ReportFrame s t) {u : State} (g : Noise t u) : ReportFrame s u := by
  obtain ⟨-, -, -, -, -, hrooms, hwings, -⟩ := g.fields
  have hw : ∀ w, u.seq w = t.seq w := fun w => congrArg (fun x : Vector WingSt 4 => (x.get w).seq) hwings
  exact h.trans ⟨hrooms, fun w => by rw [hw w]⟩

theorem ReportFrame.noteSlate (h : ReportFrame s t) (k : Fin 32) (req : Nat) (ws : List Nat) : ReportFrame s (t.noteSlate k req ws) := by
  unfold State.noteSlate
  extract_lets r bad cor v
  have hv : ReportFrame s v := by
    show ReportFrame s (if cor = [] then t else t.bump _ _)
    split
    · exact h
    · exact h.bump ..
  split
  · exact hv
  · exact ((hv.bump ..).setReg ..).markErrorIn k

theorem ReportFrame.slateRead (h : ReportFrame s t) (k : Fin 32) (req a n : Nat) : ReportFrame s (t.slateRead k req a n).2 := h.noteSlate ..

theorem ReportFrame.expFault (h : ReportFrame s t) (u : Cr) (ref : WordRef) (unit status addr : Nat) : ReportFrame s (t.expFault u ref unit status addr) := by
  unfold State.expFault State.lessonFault
  refine ReportFrame.noise ?_ ((Noise.refl _).event ..)
  exact (((h.bump ..).bump ..).setReg ..).modSeq u.w _ fun _ => rfl

end

/-! ### Registers that reports write -/

theorem reg_bump_one (s : State) (o : Nat) : (s.bump o 1).reg o = s.reg o + 1 := State.reg_bump_same s o 1

/-- The registers in which the Slate of Classroom `k` reports errors (R183). -/
def slateRegs (k : Fin 32) : List Nat := [Off.sltCorrected k, Off.sltUncorrectable k, Off.sltErrAddr k]

theorem reg_noteSlate {k : Fin 32} {p : Nat} (h : p ∉ slateRegs k) (s : State) (req : Nat) (ws : List Nat) : (s.noteSlate k req ws).reg p = s.reg p := by
  simp only [slateRegs, List.mem_cons, List.not_mem_nil, or_false, not_or] at h
  obtain ⟨hcor, hbad, haddr⟩ := h
  unfold State.noteSlate
  extract_lets r bad cor v
  have hv : v.reg p = s.reg p := by
    show (if cor = [] then s else s.bump _ _).reg p = _
    split
    · rfl
    · exact State.reg_bump_other s _ hcor
  split
  · exact hv
  · rw [State.markErrorIn_reg, State.reg_setReg_other _ _ haddr, State.reg_bump_other _ _ hbad, hv]

/-- A report of the Slate's words adds no lesson fault. -/
theorem faults_noteSlate (s : State) (k : Fin 32) (req : Nat) (ws : List Nat) (w : Wing) : ((s.noteSlate k req ws).seq w).faults = (s.seq w).faults := by
  have hmark : ∀ v : State, ((v.markErrorIn k).seq w).faults = (v.seq w).faults := by
    intro v
    show ((v.modSeq (wingOf k) (fun q => { q with error := true })).seq w).faults = _
    by_cases hw : w = wingOf k
    · subst hw; rw [State.seq_modSeq_same]
    · rw [State.seq_modSeq_other _ _ hw]
  unfold State.noteSlate
  extract_lets r bad cor v
  have hv : v.seq w = s.seq w := by
    show (if cor = [] then s else s.bump _ _).seq w = _
    split
    · rfl
    · rw [State.bump_seq]
  split
  · rw [hv]
  · rw [hmark, State.setReg_seq, State.bump_seq, hv]

theorem error_markErrorIn (s : State) (k : Fin 32) : ((s.markErrorIn k).seq (wingOf k)).error = true := by
  show ((s.modSeq (wingOf k) (fun q => { q with error := true })).seq (wingOf k)).error = true
  rw [State.seq_modSeq_same]

/-- The registers of a Classroom, those of its Wing and those of records to the host stand at different offsets (R467). -/
theorem expFaults_ne (k : Fin 32) (w : Wing) :
    Off.expFaults k ≠ Off.seqFaults w ∧ Off.expFaults k ≠ Off.seqFaultInfo w ∧ Off.expFaults k ≠ Off.hifEventsLost ∧ Off.expFaults k ≠ Off.hifMsixSent := by
  revert k w; decide

theorem seqFault_ne (w : Wing) :
    Off.seqFaults w ≠ Off.seqFaultInfo w ∧ Off.seqFaults w ≠ Off.hifEventsLost ∧ Off.seqFaults w ≠ Off.hifMsixSent ∧
    Off.seqFaultInfo w ≠ Off.hifEventsLost ∧ Off.seqFaultInfo w ≠ Off.hifMsixSent := by
  revert w; decide

/-- What a lesson fault leaves (R155): it is noted, and beside it only the two registers of records to the host change. -/
theorem lessonFault_noted (s : State) (w : Wing) (ref : WordRef) (unit : Nat) (room : Option Room) (status detail2 : Nat) :
    FaultNoted w ref unit status s (s.lessonFault w ref unit room status detail2) ∧
    ∀ p, p ≠ Off.seqFaults w → p ≠ Off.seqFaultInfo w → p ≠ Off.hifEventsLost → p ≠ Off.hifMsixSent →
      (s.lessonFault w ref unit room status detail2).reg p = s.reg p := by
  obtain ⟨hci, hcl, hcs, hil, his⟩ := seqFault_ne w
  unfold State.lessonFault
  extract_lets v0 v1 v2 subject
  have hn : Noise v2 (v2.event 0x02 status subject (faultInfo ref status unit) detail2) := (Noise.refl v2).event ..
  obtain ⟨-, -, -, -, -, -, hwings, -⟩ := hn.fields
  have h2 : ∀ p, v2.reg p = v1.reg p := fun p => State.modSeq_reg ..
  refine ⟨⟨?_, ?_, ?_⟩, fun p hc hi hl hs => ?_⟩
  · rw [hn.regs _ hcl hcs, h2, State.reg_setReg_other _ _ hci]
    exact State.reg_bump_same ..
  · rw [hn.regs _ hil his, h2]
    exact State.reg_setReg_same ..
  · have hseq : (v2.event 0x02 status subject (faultInfo ref status unit) detail2).seq w = v2.seq w := by
      rw [State.seq, State.wing, hwings, State.seq, State.wing]
    rw [hseq, State.seq_modSeq_same, State.setReg_seq, State.bump_seq]
  · rw [hn.regs p hl hs, h2, State.reg_setReg_other _ _ hi, State.reg_bump_other _ _ hc]

/-- A fault that the Expander raises is a lesson fault, counted in EXP_FAULTS besides (R99, R155). -/
theorem expFault_noted (s : State) (u : Cr) (ref : WordRef) (unit status addr : Nat) :
    FaultNoted u.w ref unit status s (s.expFault u ref unit status addr) ∧
    (s.expFault u ref unit status addr).reg (Off.expFaults u.idx) = s.reg (Off.expFaults u.idx) + 1 := by
  obtain ⟨hcount, hinfo, hlost, hsent⟩ := expFaults_ne u.idx u.w
  obtain ⟨⟨hc, hi, hf⟩, hrest⟩ := lessonFault_noted (s.bump (Off.expFaults u.idx) 1) u.w ref unit (some u.c) status addr
  rw [State.reg_bump_other _ _ hcount.symm] at hc
  rw [State.bump_seq] at hf
  unfold State.expFault
  refine ⟨⟨hc, hi, hf⟩, ?_⟩
  rw [hrest _ hcount hinfo hlost hsent, reg_bump_one]

/-! ### Accepted dispatches (R132, R137) -/

/-- What an accepted dispatch leaves: of Classroom `u` only the time its units are busy changes, of the Sequencers only what is in the skids. -/
structure Dispatched (u : Cr) (s t : State) : Prop where
  rooms : ∀ j, j ≠ u.idx → t.room j = s.room j
  room : { t.room u.idx with busy := (s.room u.idx).busy } = s.room u.idx
  seqs : ∀ w, { t.seq w with sent := (s.seq w).sent } = s.seq w
  regs : t.regs = s.regs
  frame : UnitFrame u.idx s t

theorem Dispatched.takeOp (s : State) (u : Cr) (unit : Nat) (o : SlotOp) : Dispatched u s (s.takeOp u unit o).2 := by
  refine ⟨?_, ?_, ?_, ?_, frame_takeOp s u unit o⟩ <;> unfold State.takeOp <;> dsimp only <;> split
  · exact fun _ _ => rfl
  · exact fun _ _ => rfl
  · rfl
  · rfl
  · intro w
    by_cases hw : w = u.w
    · subst hw; rw [State.seq_modSeq_same]
    · rw [State.seq_modSeq_other _ _ hw]
  · exact fun _ => rfl
  · rfl
  · rfl

theorem Dispatched.setBusy {u : Cr} {s t : State} (h : Dispatched u s t) (f : Sparse Nat → Sparse Nat) :
    Dispatched u s (t.modRoom u.idx (fun r => { r with busy := f r.busy })) := by
  refine ⟨fun j hj => (State.room_modRoom_other t _ hj).trans (h.rooms j hj), ?_, h.seqs, h.regs, h.frame.modRoom _⟩
  rw [State.room_modRoom_same]
  exact h.room

/-- A dispatch that answers an operation answers the one asked, in range, and changes what `Dispatched` names. -/
theorem dispatch_some {s : State} {u : Cr} {unit : Nat} {o : SlotOp} {x : WaitOp SlotOp} (h : (s.dispatch u unit o).1 = some x) :
    x.op = o ∧ opInRange o = true ∧ Dispatched u s (s.dispatch u unit o).2 := by
  have ht := Dispatched.takeOp s u unit o
  revert h
  unfold State.dispatch
  revert ht
  rcases s.takeOp u unit o with ⟨e, v⟩
  rcases v.issuer u unit e with ⟨ref, un⟩
  intro ht
  dsimp only
  split
  · exact nofun
  · split
    · exact nofun
    · rename_i hrange
      split
      · exact nofun
      · intro h
        refine ⟨?_, by simpa using hrange, ht.setBusy fun b => Sparse.set (fun _ => 0) b unit (s.opCycle u unit o + opBusy o)⟩
        rw [← Option.some.inj h]

section
variable {u : Cr} {s t : State}

theorem Dispatched.ex (h : Dispatched u s t) (j : Fin 32) : t.ex j = s.ex j := by
  by_cases hj : j = u.idx
  · subst hj
    show (t.room u.idx).ex = (s.room u.idx).ex
    rw [← h.room]
  · exact ex_of_room (h.rooms j hj)

theorem Dispatched.slate (h : Dispatched u s t) : (t.room u.idx).slate = (s.room u.idx).slate := by rw [← h.room]

theorem Dispatched.slateBytes (h : Dispatched u s t) (a n : Nat) : (t.room u.idx).slateBytes a n = (s.room u.idx).slateBytes a n := by
  unfold Classroom.slateBytes
  rw [h.slate]

theorem Dispatched.reg (h : Dispatched u s t) (p : Nat) : t.reg p = s.reg p := by rw [State.reg, State.reg, h.regs]

theorem Dispatched.faults (h : Dispatched u s t) (w : Wing) : (t.seq w).faults = (s.seq w).faults := by rw [← h.seqs w]

end

/-- The Expander dispatches an operation that nothing refuses as every unit does (R99). -/
theorem expDispatch_accepted {s : State} {u : Cr} {op : SlotOp} {x : WaitOp SlotOp} (h : (s.dispatch u 1 op).1 = some x) :
    s.expDispatch u op = (some x, (s.dispatch u 1 op).2) := by
  rw [State.expDispatch, if_pos (.inl (by rw [h]; rfl)), ← h]

/-! ### Writes of the Slate (R158, R165) -/

/-- After a store of at most the whole Slate, a byte within reach holds the byte stored there and every other what it held. -/
theorem read_slateStore (r : Classroom) (a : Nat) (bs : List Byte) (hlen : bs.length ≤ slateSize) {b : Nat} (hb : b < slateSize) :
    Memory.read (r.slateStore a bs).slate b =
      if (b + slateSize - a % slateSize) % slateSize < bs.length then bs.getD ((b + slateSize - a % slateSize) % slateSize) 0
      else Memory.read r.slate b := by
  unfold Classroom.slateStore
  dsimp only
  obtain ⟨l, rfl⟩ : ∃ l : List Byte, bs = l.reverse := ⟨bs.reverse, bs.reverse_reverse.symm⟩
  induction l with
  | nil => rfl
  | cons x l ih =>
    rw [List.reverse_cons] at hlen ⊢
    generalize l.reverse = bs at ih hlen ⊢
    rw [List.length_append, List.length_singleton] at hlen ⊢
    have hzip : (List.range (bs.length + 1)).zip (bs ++ [x]) = (List.range bs.length).zip bs ++ [(bs.length, x)] := by
      rw [List.range_succ, List.zip_append (by simp)]; rfl
    have hat : b = (a + bs.length) % slateSize ↔ (b + slateSize - a % slateSize) % slateSize = bs.length := by
      unfold slateSize at *; omega
    rw [hzip, List.foldl_append, List.foldl_cons, List.foldl_nil, Memory.read_write, ih (by omega)]
    generalize (b + slateSize - a % slateSize) % slateSize = d at hat ⊢
    by_cases hd : d = bs.length
    · subst hd
      rw [if_pos (hat.2 rfl), if_pos (by omega)]
      simp
    · rw [if_neg (fun h => hd (hat.1 h))]
      by_cases hlt : d < bs.length
      · rw [if_pos hlt, if_pos (by omega), List.getD_eq_getElem?_getD, List.getD_eq_getElem?_getD, List.getElem?_append_left hlt]
      · rw [if_neg hlt, if_neg (by omega)]

/-- Reading back what was just stored gives it. -/
theorem slateBytes_slateStore (r : Classroom) (a : Nat) (bs : List Byte) (hlen : bs.length ≤ slateSize) :
    (r.slateStore a bs).slateBytes a bs.length = bs := by
  refine List.ext_getElem (by simp [Classroom.slateBytes]) fun i _ hi => ?_
  have hat : ((a + i) % slateSize + slateSize - a % slateSize) % slateSize = i := by unfold slateSize at *; omega
  have hlt : (a + i) % slateSize < slateSize := Nat.mod_lt _ (by decide)
  simp only [Classroom.slateBytes, List.getElem_map, List.getElem_range]
  rw [read_slateStore r a bs hlen hlt, hat, if_pos hi]
  exact (List.getElem_eq_getD 0).symm

@[simp] theorem ex_slateStore (r : Classroom) (a : Nat) (bs : List Byte) : (r.slateStore a bs).ex = r.ex := rfl

@[simp] theorem room_slateWrite (s : State) (k : Fin 32) (req a : Nat) (bs : List Byte) :
    (s.slateWrite k req a bs).room k = (s.room k).slateStore a bs := by
  rw [State.slateWrite, State.room_modRoom_same, ((ReportFrame.refl s).noteSlate ..).room]

theorem reg_slateWrite {k : Fin 32} {p : Nat} (h : p ∉ slateRegs k) (s : State) (req a : Nat) (bs : List Byte) :
    (s.slateWrite k req a bs).reg p = s.reg p := reg_noteSlate h s ..

/-- A write of at most the whole Slate, in a state whose Classroom differs from `s` in the time its units are busy alone. -/
theorem slateBecomes_slateWrite {s v : State} {k : Fin 32} (hroom : { v.room k with busy := (s.room k).busy } = s.room k) (hframe : UnitFrame k s v)
    (req a : Nat) {bs : List Byte} (hlen : bs.length ≤ slateSize) : SlateBecomes s (v.slateWrite k req a bs) k a bs := by
  have hslate : (s.room k).slate = (v.room k).slate := by rw [← hroom]
  have hbad : (s.room k).slateBad = (v.room k).slateBad := by rw [← hroom]
  have hcorr : (s.room k).slateCorr = (v.room k).slateCorr := by rw [← hroom]
  refine ⟨fun b hb => ?_, ?_, hframe.slateWrite ..⟩
  · rw [room_slateWrite, read_slateStore _ _ _ hlen hb, hslate]
  · rw [room_slateWrite, hslate, hbad, hcorr]
    exact hroom

theorem SlateBecomes.bump {s t : State} {k : Fin 32} {a : Nat} {bs : List Byte} (h : SlateBecomes s t k a bs) (o n : Nat) :
    SlateBecomes s (t.bump o n) k a bs := by
  obtain ⟨hread, hroom, hframe⟩ := h
  exact ⟨hread, hroom, hframe.bump ..⟩

end Sys2Proof
end

section
/-! SUPPORT and PROOFS. The entry of items into the Expander's queue (R107-R109): the item that a dispatch queues, what else queueing it changes, and obligation O9. -/

namespace Sys2Proof

open Sys2Proof.Machine

/-! ### The commands -/

theorem exec_itemCmd {u : Cr} {op : SlotOp} {c : Instr} (h : itemCmd u op = some c) (s : State) : exec c s = .next (s.expItem u op) := by
  unfold itemCmd at h
  split at h
  · cases h; rfl
  · cases h; rfl
  · cases h; rfl
  · cases h; rfl
  · cases h

theorem exec_expQueueEntryFree (u : Cr) (s : State) : exec (.expQueueEntryFree u) s = .next (s.expEntryFree u) := rfl

/-! ### The header (R91, R107) -/

/-- The header that a dispatch reads is a matter of the Slate's bytes alone. -/
theorem itemHeader_congr {s t : State} {k : Fin 32} (h : ∀ a n, (t.room k).slateBytes a n = (s.room k).slateBytes a n) (op : SlotOp) :
    (t.itemHeader k op).1 = (s.itemHeader k op).1 := by
  have hafter : ∀ (v : State) (req a n : Nat), (v.slateRead k req a n).2.room k = v.room k := fun v _ _ _ => ((ReportFrame.refl v).slateRead ..).room k
  have hread : ∀ (v : State) (req a n : Nat), (v.slateRead k req a n).1 = (v.room k).slateBytes a n := fun _ _ _ _ => rfl
  cases op with
  | expTile o =>
    simp only [State.itemHeader, hread, h]
    split
    · simp only [hafter, h]
    · rfl
  | expAct o => exact h ..
  | _ => rfl

theorem reportFrame_itemHeader (s : State) (k : Fin 32) (op : SlotOp) : ReportFrame s (s.itemHeader k op).2 := by
  have hread : ∀ a n, ReportFrame s (s.slateRead k 1 a n).2 := fun a n => (ReportFrame.refl s).slateRead k 1 a n
  cases op with
  | expTile o =>
    simp only [State.itemHeader]
    split
    · exact (hread (itemAddr (.expTile o)) 32).slateRead k 1 (itemAddr (.expTile o) + 32) 128
    · exact hread (itemAddr (.expTile o)) 32
  | expAct o => exact hread (itemAddr (.expAct o)) 16
  | _ => exact .refl s

/-! ### The queue -/

/-- The item that operation `x` with header `h` enters the queue of Expander `e` as: its fault, zero mark and phase lengths are those the header shows, its due cycle the one of the
shadow schedule (R107-R109). -/
def queuedItem (e : Expander) (x : WaitOp SlotOp) (h : List Byte) : ExpItem :=
  let p := itemPlan e x.op h
  let b := itemBudget x.op (max p.2.2.1 p.2.2.2)
  { op := x.op, ref := x.ref, unit := x.unit, phase := .queued, hdr := h, r := p.2.2.1, x := p.2.2.2, faulted := p.1.isSome, zero := p.2.1
    payload := [], tile := [], bytes := [], due := max (max (x.t + 4) (e.sr + e.sb) + b) (e.sx + e.sb) + b, held := false }

/-- Queueing an item reports what its header shows, then appends it and moves the shadow schedule on. -/
theorem enqueue_eq (s : State) (u : Cr) (x : WaitOp SlotOp) :
    ∃ (v : State) (sr sx sb : Nat), ReportFrame s v ∧ s.enqueue u x = v.modEx u.idx (fun e =>
      { e with queue := e.queue ++ [queuedItem (s.ex u.idx) x (s.itemHeader u.idx x.op).1], sr := sr, sx := sx, sb := sb }) := by
  have hread := reportFrame_itemHeader s u.idx x.op
  unfold State.enqueue queuedItem
  revert hread
  rcases s.itemHeader u.idx x.op with ⟨h, v⟩
  intro hread
  dsimp only at hread ⊢
  rw [hread.ex u.idx]
  rcases itemPlan (s.ex u.idx) x.op h with ⟨fault, zero, r, xp⟩
  dsimp only
  refine ⟨_, _, _, _, ?_, rfl⟩
  have hfault : ReportFrame s (match fault with | some st => v.expFault u x.ref x.unit st (itemAddr x.op) | none => v) := by
    cases fault with
    | none => exact hread
    | some st => exact hread.expFault ..
  split
  · exact hfault.bump ..
  · exact hfault

section
variable (s : State) (u : Cr) (x : WaitOp SlotOp)

theorem room_enqueue : ∃ sr sx sb, (s.enqueue u x).room u.idx = { s.room u.idx with
    ex := { s.ex u.idx with queue := (s.ex u.idx).queue ++ [queuedItem (s.ex u.idx) x (s.itemHeader u.idx x.op).1], sr := sr, sx := sx, sb := sb } } := by
  obtain ⟨v, sr, sx, sb, hv, heq⟩ := enqueue_eq s u x
  rw [heq, room_modEx_same, hv.room, hv.ex]
  exact ⟨sr, sx, sb, rfl⟩

theorem queue_enqueue : ((s.enqueue u x).ex u.idx).queue = (s.ex u.idx).queue ++ [queuedItem (s.ex u.idx) x (s.itemHeader u.idx x.op).1] := by
  obtain ⟨sr, sx, sb, h⟩ := room_enqueue s u x
  rw [State.ex, h]

theorem waiting_enqueue : ((s.enqueue u x).ex u.idx).waiting = (s.ex u.idx).waiting := by
  obtain ⟨sr, sx, sb, h⟩ := room_enqueue s u x
  rw [State.ex, h]

theorem slate_enqueue : ((s.enqueue u x).room u.idx).slate = (s.room u.idx).slate := by
  obtain ⟨sr, sx, sb, h⟩ := room_enqueue s u x
  rw [h]

theorem room_enqueue_other {j : Fin 32} (hj : j ≠ u.idx) : (s.enqueue u x).room j = s.room j := by
  obtain ⟨v, sr, sx, sb, hv, heq⟩ := enqueue_eq s u x
  rw [heq, room_modEx_other v _ hj, hv.room]

end

/-! ### Dispatch -/

section
variable {s : State} {u : Cr} {op : SlotOp} {x : WaitOp SlotOp}

theorem expItem_enqueues (hx : (s.dispatch u 1 op).1 = some x) (hfree : (s.ex u.idx).queue.length < 8) (hnone : (s.ex u.idx).waiting = []) :
    s.expItem u op = (s.dispatch u 1 op).2.enqueue u x := by
  obtain ⟨-, -, hd⟩ := dispatch_some hx
  rw [State.expItem, expDispatch_accepted hx]
  dsimp only
  rw [hd.ex, if_pos ⟨hfree, hnone⟩]

/-- With the queue full, and room among the decode buffers for what is at its head, the item waits and holds the Wing (R107). -/
theorem expItem_waits (hx : (s.dispatch u 1 op).1 = some x) (hfull : 8 ≤ (s.ex u.idx).queue.length) (hfits : (s.ex u.idx).stuck 1 = false) :
    s.expItem u op =
      ((s.dispatch u 1 op).2.modEx u.idx (fun e => { e with waiting := e.waiting ++ [x] })).holdOn u.w x.t (fullHold u.c) := by
  obtain ⟨-, -, hd⟩ := dispatch_some hx
  rw [State.expItem, expDispatch_accepted hx]
  dsimp only
  rw [hd.ex, if_neg (fun h => by omega), hfits]
  rfl

theorem expEntryFree_enqueues {xs : List (WaitOp SlotOp)} (hw : (s.ex u.idx).waiting = x :: xs) (hfree : (s.ex u.idx).queue.length < 8) :
    s.expEntryFree u =
      let v := (s.modEx u.idx (fun e => { e with waiting := xs })).enqueue u x
      if xs = [] then v.holdOff u.w (fullHold u.c) else v := by
  rw [State.expEntryFree, hw]
  dsimp only
  rw [if_pos hfree]

end

/-- Settles O9: an accepted dispatch leaves the Expander as it was, so that what queueing appends is `queuedItem` of that Expander. -/
theorem expanderQueuesItems : Obligations.ExpanderQueuesItems := by
  unfold Obligations.ExpanderQueuesItems
  refine ⟨fun s u op c x hc hx hfree hnone => ?_, fun s u op c x hc hx hfull hfits => ?_, fun s u x xs hw hfree => ?_⟩
  · obtain ⟨hop, -, hd⟩ := dispatch_some hx
    rw [exec_itemCmd hc, expItem_enqueues hx hfree hnone]
    refine ⟨_, _, rfl, (queue_enqueue ..).trans (by rw [hd.ex]), hop, rfl, rfl, ?_, ?_, ?_, (slate_enqueue ..).trans hd.slate, fun j hj => ?_⟩
    · show (State.itemHeader _ _ x.op).1 = _
      rw [hop, itemHeader_congr hd.slateBytes]
    · rw [← hop]; rfl
    · rw [← hop]; rfl
    · rw [room_enqueue_other _ _ _ hj, hd.rooms j hj]
  · obtain ⟨-, -, hd⟩ := dispatch_some hx
    rw [exec_itemCmd hc, expItem_waits hx hfull hfits]
    refine ⟨_, rfl, ?_, ?_, held_holdOn .., holding_holdOn .., (hd.frame.modEx _).holdOn (wingOf_idx u) ..⟩
    · rw [ex_holdOn, ex_modEx_same, hd.ex]
    · rw [ex_holdOn, ex_modEx_same, hd.ex]
  · rw [exec_expQueueEntryFree, expEntryFree_enqueues hw hfree]
    refine ⟨_, queuedItem ((s.modEx u.idx (fun e => { e with waiting := xs })).ex u.idx) x
      ((s.modEx u.idx (fun e => { e with waiting := xs })).itemHeader u.idx x.op).1, rfl, ?_, ?_, rfl, rfl, fun hxs => ?_⟩
    · dsimp only
      split
      · rw [ex_holdOff, waiting_enqueue, ex_modEx_same]
      · rw [waiting_enqueue, ex_modEx_same]
    · dsimp only
      split
      · rw [ex_holdOff, queue_enqueue, ex_modEx_same]
      · rw [queue_enqueue, ex_modEx_same]
    · dsimp only
      rw [if_pos hxs]
      exact holding_holdOff_same ..

end Sys2Proof
end

section
/-! SUPPORT and PROOFS. Codebook loads and the Layer-output compressor (R100-R104, R113-R115): what the read of a codebook image does to its slot, how long a packed item is, and obligation
O12. -/

namespace Sys2Proof

open Sys2Proof.Machine

/-! ### The commands -/

theorem exec_expCbload (u : Cr) (o : ExpCbloadOp) (s : State) : exec (.expCbload u o) s = .next (s.expCbload u o) := rfl
theorem exec_codebookRead (u : Cr) (s : State) : exec (.codebookRead u) s = .next (s.codebookServe u) := rfl
theorem exec_locPack (u : Cr) (o : LocPackOp) (s : State) : exec (.locPack u o) s = .next (s.locPack u o) := rfl

/-! ### The read of a codebook image (R102) -/

/-- The state in which codebook slot `i` of Classroom `k` holds `c`. -/
def fillSlot (s : State) (k : Fin 32) (i : Nat) (c : CbSlot) : State :=
  s.modEx k (fun e => { e with slots := Sparse.set (fun _ => CbSlot.empty) e.slots i c })

theorem slot_fillSlot_same (s : State) (k : Fin 32) (i : Nat) (c : CbSlot) : ((fillSlot s k i c).ex k).slot i = c := by
  unfold fillSlot Expander.slot
  rw [ex_modEx_same]
  exact Sparse.get_set_same ..

theorem slot_fillSlot_other (s : State) (k : Fin 32) {i j : Nat} (c : CbSlot) (h : j ≠ i) : ((fillSlot s k i c).ex k).slot j = (s.ex k).slot j := by
  unfold fillSlot Expander.slot
  rw [ex_modEx_same]
  exact Sparse.get_set_other _ _ _ h

/-- The code lengths that the read of image `bs` gives its slot: none when CHECK or the lengths are wrong (R101, R102). -/
def imageLens (bs : List Byte) : Option (List Nat) :=
  if crc16 (bs.take 124) = hfield bs 124 2 ∧ cbValid (cbLens bs) = true then some (cbLens bs) else none

/-- What the read of image `bs` reports: nothing of a good one, an error of one whose CHECK is wrong, a lesson fault of one whose lengths are not valid (R102). -/
def reportImage (s : State) (u : Cr) (bs : List Byte) (ref : WordRef) (unit addr : Nat) : State :=
  if crc16 (bs.take 124) ≠ hfield bs 124 2 then (s.bump (Off.expCheck u.idx) 1).markErrorIn u.idx
  else if cbValid (cbLens bs) = true then s
  else s.expFault u ref unit 0x11 addr

theorem reportFrame_reportImage (s : State) (u : Cr) (bs : List Byte) (ref : WordRef) (unit addr : Nat) :
    ReportFrame s (reportImage s u bs ref unit addr) := by
  unfold reportImage
  split
  · exact ((ReportFrame.refl s).bump ..).markErrorIn _
  · split
    · exact .refl s
    · exact (ReportFrame.refl s).expFault ..

/-- A codebook load reads its image, reports what it found, and fills or empties the slot under the next generation. -/
theorem codebookRead_eq (s : State) (u : Cr) (o : ExpCbloadOp) (ref : WordRef) (unit : Nat) :
    s.codebookRead u o ref unit =
      let bs := (s.room u.idx).slateBytes (32 * o.src.toNat) 128
      fillSlot (reportImage (s.slateRead u.idx 1 (32 * o.src.toNat) 128).2 u bs ref unit (32 * o.src.toNat)) u.idx o.slot.toNat
        { lens := imageLens bs, gen := (((s.ex u.idx).slot o.slot.toNat).gen + 1) % 256, failed := (imageLens bs).isNone } := by
  have hex := ((ReportFrame.refl s).slateRead u.idx 1 (32 * o.src.toNat) 128).ex u.idx
  have hbytes : (s.slateRead u.idx 1 (32 * o.src.toNat) 128).1 = (s.room u.idx).slateBytes (32 * o.src.toNat) 128 := rfl
  unfold State.codebookRead imageLens reportImage
  dsimp only
  rw [hex, hbytes]
  generalize (s.room u.idx).slateBytes (32 * o.src.toNat) 128 = bs
  by_cases hcrc : crc16 (bs.take 124) = hfield bs 124 2
  · by_cases hlens : cbValid (cbLens bs) = true
    · simp only [hcrc, hlens, ne_eq, not_true_eq_false, if_false, if_true, and_self]; rfl
    · simp only [hcrc, hlens, ne_eq, not_true_eq_false, if_false, and_false, Bool.false_eq_true]; rfl
  · simp only [hcrc, ne_eq, not_false_eq_true, if_true, false_and, if_false]; rfl

theorem expRegs_notMem_slateRegs (k : Fin 32) (w : Wing) :
    Off.expCheck k ∉ slateRegs k ∧ Off.expFaults k ∉ slateRegs k ∧ Off.seqFaults w ∉ slateRegs k := by
  revert k w; decide

section
variable (s : State) (u : Cr) (o : ExpCbloadOp) (ref : WordRef) (unit : Nat)

/-- The read changes the slots of its Expander alone, and reports. -/
theorem codebookRead_frame : ∃ v, ReportFrame s v ∧ ∃ c, s.codebookRead u o ref unit = fillSlot v u.idx o.slot.toNat c := by
  rw [codebookRead_eq]
  exact ⟨_, ((ReportFrame.refl s).slateRead ..).trans (reportFrame_reportImage ..), _, rfl⟩

theorem room_codebookRead :
    ∃ slots, (s.codebookRead u o ref unit).room u.idx = { s.room u.idx with ex := { s.ex u.idx with slots := slots } } := by
  obtain ⟨v, hv, c, heq⟩ := codebookRead_frame s u o ref unit
  rw [heq, fillSlot, room_modEx_same, hv.room, hv.ex]
  exact ⟨_, rfl⟩

theorem room_codebookRead_other {j : Fin 32} (hj : j ≠ u.idx) : (s.codebookRead u o ref unit).room j = s.room j := by
  obtain ⟨v, hv, c, heq⟩ := codebookRead_frame s u o ref unit
  rw [heq, fillSlot, room_modEx_other v _ hj, hv.room]

theorem holding_codebookRead (w : Wing) (q : HoldReq) : (s.codebookRead u o ref unit).holding w q = s.holding w q := by
  obtain ⟨v, hv, c, heq⟩ := codebookRead_frame s u o ref unit
  rw [heq, fillSlot, holding_modEx, hv.holding]

/-- The read of its image does to the slot what R102 says. -/
theorem codebookRead_fills : CodebookFilled s (s.codebookRead u o ref unit) u o ref unit := by
  obtain ⟨hcheck, hfault, hseq⟩ := expRegs_notMem_slateRegs u.idx u.w
  have hv := (ReportFrame.refl s).slateRead u.idx 1 (32 * o.src.toNat) 128
  rw [codebookRead_eq]
  dsimp only
  refine ⟨?_, fun j hj => ?_, ?_⟩
  · rw [slot_fillSlot_same]
  · rw [slot_fillSlot_other _ _ _ hj, (reportFrame_reportImage ..).ex, hv.ex]
  · dsimp only
    rw [slot_fillSlot_same]
    generalize (s.room u.idx).slateBytes (32 * o.src.toNat) 128 = bs
    refine ⟨fun hcrc hlens => ?_, fun hcrc => ?_, fun hcrc hlens => ?_⟩
    · have hl : imageLens bs = some (cbLens bs) := if_pos ⟨hcrc, hlens⟩
      rw [hl]
      exact ⟨rfl, rfl⟩
    · have hl : imageLens bs = none := if_neg fun h => hcrc h.1
      rw [hl, reportImage, if_pos hcrc]
      refine ⟨rfl, rfl, ?_, ?_⟩
      · rw [fillSlot, reg_modEx, State.markErrorIn_reg, reg_bump_one, State.slateRead, reg_noteSlate hcheck]
      · rw [fillSlot, seq_modEx]
        have he := error_markErrorIn ((s.slateRead u.idx 1 (32 * o.src.toNat) 128).2.bump (Off.expCheck u.idx) 1) u.idx
        rwa [wingOf_idx] at he
    · have hl : imageLens bs = none := if_neg fun h => by simp [hlens] at h
      rw [hl, reportImage, if_neg (not_not_intro hcrc), if_neg (by simp [hlens])]
      obtain ⟨⟨hcount, hinfo, hfaults⟩, hexp⟩ :=
        expFault_noted (s.slateRead u.idx 1 (32 * o.src.toNat) 128).2 u ref unit 0x11 (32 * o.src.toNat)
      rw [State.slateRead, reg_noteSlate hfault] at hexp
      rw [State.slateRead, reg_noteSlate hseq] at hcount
      rw [State.slateRead, faults_noteSlate] at hfaults
      exact ⟨rfl, rfl, hexp, hcount, hfaults, hinfo⟩

end

/-- What a read does counts from any state that agrees on the slots, the Slate, the registers and the faults. -/
theorem CodebookFilled.of_agree {s v t : State} {u : Cr} {o : ExpCbloadOp} {ref : WordRef} {unit : Nat} (h : CodebookFilled v t u o ref unit)
    (hslot : ∀ j, (v.ex u.idx).slot j = (s.ex u.idx).slot j) (hslate : ∀ a n, (v.room u.idx).slateBytes a n = (s.room u.idx).slateBytes a n)
    (hreg : ∀ p, v.reg p = s.reg p) (hfaults : (v.seq u.w).faults = (s.seq u.w).faults) : CodebookFilled s t u o ref unit := by
  unfold CodebookFilled at h ⊢
  simp only [hslot, hslate, hreg, hfaults] at h
  exact h

/-! ### Codebook loads (R104) -/

section
variable {s : State} {u : Cr} {o : ExpCbloadOp} {x : WaitOp SlotOp}

theorem expCbload_reads (hx : (s.dispatch u 1 (.expCbload o)).1 = some x) (hfree : (s.ex u.idx).uses o.slot.toNat = 0) :
    s.expCbload u o = (s.dispatch u 1 (.expCbload o)).2.codebookRead u o x.ref x.unit := by
  obtain ⟨-, -, hd⟩ := dispatch_some hx
  rw [State.expCbload, expDispatch_accepted hx]
  dsimp only
  rw [hd.ex, if_pos hfree]

/-- A load of a slot in use waits and holds the Wing, unless the items that use it can never complete (R104, R109). -/
theorem expCbload_waits (hx : (s.dispatch u 1 (.expCbload o)).1 = some x) (huse : 0 < (s.ex u.idx).uses o.slot.toNat)
    (hfits : (s.ex u.idx).stuck ((s.ex u.idx).lastUse o.slot.toNat) = false) :
    s.expCbload u o =
      ((s.dispatch u 1 (.expCbload o)).2.modEx u.idx (fun e =>
        { e with cbLoad := some { op := o, ref := x.ref, unit := x.unit, t := x.t, frames := x.frames } })).holdOn u.w (x.t + 1) (cbHold u.c) := by
  obtain ⟨-, -, hd⟩ := dispatch_some hx
  rw [State.expCbload, expDispatch_accepted hx]
  dsimp only
  rw [hd.ex, if_neg (by omega), hfits]
  rfl

theorem codebookServe_reads {y : WaitOp ExpCbloadOp} (hy : (s.ex u.idx).cbLoad = some y) (hfree : (s.ex u.idx).uses y.op.slot.toNat = 0) :
    s.codebookServe u =
      ((s.modEx u.idx (fun e => { e with cbLoad := none })).holdOff u.w (cbHold u.c)).codebookRead u y.op y.ref y.unit := by
  rw [State.codebookServe, hy]
  dsimp only
  rw [if_neg (by omega)]

theorem codebookServe_waits (h : ∀ y, (s.ex u.idx).cbLoad = some y → 0 < (s.ex u.idx).uses y.op.slot.toNat) : s.codebookServe u = s := by
  unfold State.codebookServe
  split
  · rfl
  · rename_i y hy; rw [if_pos (h y hy)]

end

/-! ### The Layer-output compressor (R113-R115) -/

/-- A packed item is a header of 16 bytes and a payload no longer than the blocks it packs. -/
theorem packAct_length_le {n : Nat} {dense : List Byte} (h : dense.length = 512 * n) : (packAct n dense).1.length ≤ 512 * n + 16 := by
  unfold packAct
  simp only [List.length_append, leBytes_length]
  split
  · omega
  · rename_i hraw
    have : (packGroups 0 (groupsOf64 (8 * n) dense)).length ≤ 512 * n := by simpa using hraw
    omega

theorem locRegs_ne (k : Fin 32) : Off.locBlocks k ∉ slateRegs k ∧ Off.locRaw k ∉ slateRegs k ∧ Off.locBlocks k ≠ Off.locRaw k := by
  revert k; decide

/-- The state in which LOC_PACK has written its item `p`, before it counts a raw one. -/
def locWritten (s : State) (u : Cr) (o : LocPackOp) (p : List Byte) : State :=
  (((s.dispatch u 4 (.locPack o)).2.slateRead u.idx 7 (512 * o.src.toNat) (512 * o.blocks.toNat)).2.slateWrite u.idx 7 (32 * o.dst.toNat) p).bump
    (Off.locBlocks u.idx) o.blocks.toNat

section
variable {s : State} {u : Cr} {o : LocPackOp} {x : WaitOp SlotOp}

/-- The dispatched LOC_PACK writes the item that packs its blocks, then counts. -/
theorem locPack_eq (hx : (s.dispatch u 4 (.locPack o)).1 = some x) :
    s.locPack u o =
      let p := packAct o.blocks.toNat ((s.room u.idx).slateBytes (512 * o.src.toNat) (512 * o.blocks.toNat))
      if p.2 then (locWritten s u o p.1).bump (Off.locRaw u.idx) 1 else locWritten s u o p.1 := by
  obtain ⟨-, -, hd⟩ := dispatch_some hx
  unfold State.locPack locWritten
  rw [← hd.slateBytes]
  revert hx
  rcases s.dispatch u 4 (.locPack o) with ⟨y, v⟩
  rintro ⟨⟩
  rfl

theorem slateBecomes_locWritten (hx : (s.dispatch u 4 (.locPack o)).1 = some x) {p : List Byte} (hp : p.length ≤ slateSize) :
    SlateBecomes s (locWritten s u o p) u.idx (32 * o.dst.toNat) p := by
  obtain ⟨-, -, hd⟩ := dispatch_some hx
  have hread := (ReportFrame.refl (s.dispatch u 4 (.locPack o)).2).slateRead u.idx 7 (512 * o.src.toNat) (512 * o.blocks.toNat)
  refine (slateBecomes_slateWrite ?_ (hd.frame.slateRead ..) 7 _ hp).bump ..
  rw [hread.room]
  exact hd.room

theorem reg_locWritten (hx : (s.dispatch u 4 (.locPack o)).1 = some x) (p : List Byte) :
    (locWritten s u o p).reg (Off.locBlocks u.idx) = s.reg (Off.locBlocks u.idx) + BitVec.ofNat 64 o.blocks.toNat ∧
    (locWritten s u o p).reg (Off.locRaw u.idx) = s.reg (Off.locRaw u.idx) := by
  obtain ⟨-, -, hd⟩ := dispatch_some hx
  obtain ⟨hblocks, hraw, hne⟩ := locRegs_ne u.idx
  unfold locWritten
  refine ⟨?_, ?_⟩
  · rw [State.reg_bump_same, reg_slateWrite hblocks, State.slateRead, reg_noteSlate hblocks, hd.reg]
  · rw [State.reg_bump_other _ _ hne.symm, reg_slateWrite hraw, State.slateRead, reg_noteSlate hraw, hd.reg]

/-- At most 64 blocks are packed, so that the Slate takes the item. -/
theorem packAct_fits (hx : (s.dispatch u 4 (.locPack o)).1 = some x) (r : Classroom) :
    (packAct o.blocks.toNat (r.slateBytes (512 * o.src.toNat) (512 * o.blocks.toNat))).1.length ≤ slateSize := by
  obtain ⟨-, hrange, -⟩ := dispatch_some hx
  simp only [opInRange, Bool.and_eq_true, decide_eq_true_eq] at hrange
  obtain ⟨-, -, hblocks⟩ := hrange
  have hlen := packAct_length_le (n := o.blocks.toNat) (dense := r.slateBytes (512 * o.src.toNat) (512 * o.blocks.toNat)) (by simp [Classroom.slateBytes])
  unfold slateSize
  omega

end

/-- Settles O12: what the read of an image does is `codebookRead_fills`, from the state its dispatch or the end of its wait leaves; LOC_PACK's item is never longer than the Slate. -/
theorem codebookLoadsAndLocPack : Obligations.CodebookLoadsAndLocPack := by
  unfold Obligations.CodebookLoadsAndLocPack
  refine ⟨⟨fun s u o x hx hfree => ?_, fun s u o hacc huse hfits => ?_, fun s u x hload hfree => ?_, fun s u h => ?_⟩, fun s u o hacc => ?_⟩
  · obtain ⟨-, -, hd⟩ := dispatch_some hx
    rw [exec_expCbload, expCbload_reads hx hfree]
    obtain ⟨slots, hroom⟩ := room_codebookRead (s.dispatch u 1 (.expCbload o)).2 u o x.ref x.unit
    refine ⟨_, rfl, ?_, ?_, ?_, ?_, fun j hj => ?_⟩
    · exact (codebookRead_fills ..).of_agree (fun j => by rw [hd.ex]) hd.slateBytes hd.reg (hd.faults u.w)
    · rw [hroom]; exact hd.slate
    · rw [hroom, ← hd.room]
    · rw [State.ex, hroom, hd.ex]
    · rw [room_codebookRead_other _ _ _ _ _ hj, hd.rooms j hj]
  · obtain ⟨x, hx⟩ := Option.isSome_iff_exists.1 hacc
    obtain ⟨-, -, hd⟩ := dispatch_some hx
    rw [exec_expCbload, expCbload_waits hx huse hfits]
    refine ⟨_, rfl, ?_, ?_, held_holdOn .., holding_holdOn .., (hd.frame.modEx _).holdOn (wingOf_idx u) ..⟩
    · rw [ex_holdOn, ex_modEx_same, hd.ex]
    · rw [ex_holdOn, ex_modEx_same]; rfl
  · rw [exec_codebookRead, codebookServe_reads hload hfree]
    generalize hv : (s.modEx u.idx (fun e => { e with cbLoad := none })).holdOff u.w (cbHold u.c) = v
    have hvroom : v.room u.idx = { s.room u.idx with ex := { s.ex u.idx with cbLoad := none } } := by rw [← hv, room_holdOff, room_modEx_same]
    obtain ⟨slots, hroom⟩ := room_codebookRead v u x.op x.ref x.unit
    have hvex : v.ex u.idx = { s.ex u.idx with cbLoad := none } := congrArg Classroom.ex hvroom
    refine ⟨_, rfl, ?_, ?_, ?_, ?_, ?_⟩
    · rw [State.ex, hroom, hvex]
    · rw [holding_codebookRead, ← hv]
      exact holding_holdOff_same ..
    · refine (codebookRead_fills ..).of_agree (fun j => ?_) (fun a n => ?_) (fun p => ?_) ?_
      · rw [hvex]; rfl
      · rw [hvroom]; rfl
      · rw [← hv, reg_holdOff, reg_modEx]
      · rw [← hv, seq_holdOff, seq_modEx]
    · rw [hroom, hvroom]
    · rw [State.ex, hroom, hvex]
  · rw [exec_codebookRead, codebookServe_waits h]
  · obtain ⟨x, hx⟩ := Option.isSome_iff_exists.1 hacc
    rw [exec_locPack, locPack_eq hx]
    dsimp only
    have hbecomes := slateBecomes_locWritten hx (packAct_fits hx (s.room u.idx))
    obtain ⟨hblocks, hraw⟩ := reg_locWritten hx (packAct o.blocks.toNat ((s.room u.idx).slateBytes (512 * o.src.toNat) (512 * o.blocks.toNat))).1
    obtain ⟨-, -, hne⟩ := locRegs_ne u.idx
    split
    · refine ⟨_, rfl, hbecomes.bump .., ?_, ?_⟩
      · rw [State.reg_bump_other _ _ hne, hblocks]
      · rw [reg_bump_one, hraw]
    · refine ⟨_, rfl, hbecomes, hblocks, ?_⟩
      exact hraw.trans (BitVec.add_zero _).symm

end Sys2Proof
end

section
/-! SUPPORT and PROOFS. The phases of the Expander and due cycles (R108, R109): what each phase does to the item it takes, where a completed item goes, how an item that reaches its due cycle
holds the Wing or fails, the Timetable of a quiet Wing, and obligation O10. -/

namespace Sys2Proof

open Sys2Proof.Machine

/-! ### The commands -/

theorem exec_expReaderPhaseStart (u : Cr) (s : State) : exec (.expReaderPhaseStart u) s = .next (s.readerStart u) := rfl
theorem exec_expExpandPhaseStart (u : Cr) (s : State) : exec (.expExpandPhaseStart u) s = .next (s.expandStart u) := rfl
theorem exec_expItemDue (u : Cr) (s : State) : exec (.expItemDue u) s = .next (s.itemDue u) := rfl
theorem exec_expItemComplete (e : CrAt) (s : State) :
    exec (.expItemComplete e) s = .next ((s.runTo e.cr.w e.cycle.toNat).itemComplete e.cr) := rfl

/-! ### The Reader (R108) -/

section
variable (s : State) (u : Cr) (i : ExpItem)

/-- Fetching an item's input reports errors of the Slate alone. -/
theorem itemInput_frame : ReportFrame s (s.itemInput u.idx i).2 ∧ UnitFrame u.idx s (s.itemInput u.idx i).2 := by
  have hread : ∀ (v : State) (a n : Nat), ReportFrame s v ∧ UnitFrame u.idx s v →
      ReportFrame s (v.slateRead u.idx 1 a n).2 ∧ UnitFrame u.idx s (v.slateRead u.idx 1 a n).2 :=
    fun v a n h => ⟨h.1.slateRead .., h.2.slateRead ..⟩
  have hrefl : ReportFrame s s ∧ UnitFrame u.idx s s := ⟨.refl s, .refl _ s⟩
  unfold State.itemInput
  split
  · exact hread _ _ _ hrefl
  · exact hread _ _ _ hrefl
  · exact hread _ _ _ hrefl
  · exact hread _ _ _ (hread _ _ _ hrefl)
  · exact hrefl

/-- What the check of the fetched input `bs` reports: one whose CRC differs from the header's is an error (R98). -/
def checkInput (v : State) (bs : List Byte) : State :=
  match itemCheck i with
  | some c => if crc16 bs = c then v else (v.bump (Off.expCheck u.idx) 1).markErrorIn u.idx
  | none => v

theorem checkInput_frame {v : State} (hrep : ReportFrame s v) (hunit : UnitFrame u.idx s v) (bs : List Byte) :
    ReportFrame s (checkInput u i v bs) ∧ UnitFrame u.idx s (checkInput u i v bs) := by
  unfold checkInput
  split
  · split
    · exact ⟨hrep, hunit⟩
    · exact ⟨(hrep.bump ..).markErrorIn _, (hunit.bump ..).markErrorIn⟩
  · exact ⟨hrep, hunit⟩

/-- What the Reader does with an item without a fault: it holds its input, and errors are reported. -/
theorem readItem_reads (h : i.faulted = false) :
    (s.readItem u i).1 = { i with phase := .reading, payload := (s.itemInput u.idx i).1 } ∧ ReportFrame s (s.readItem u i).2 ∧
    UnitFrame u.idx s (s.readItem u i).2 := by
  have hin := itemInput_frame s u i
  unfold State.readItem
  rw [h, if_neg Bool.false_ne_true]
  revert hin
  rcases s.itemInput u.idx i with ⟨bs, v⟩
  rintro ⟨hrep, hunit⟩
  obtain ⟨hcrep, hcunit⟩ := checkInput_frame s u i hrep hunit bs
  refine ⟨rfl, ?_⟩
  dsimp only
  split
  · exact ⟨hcrep.bump .., hcunit.bump ..⟩
  · exact ⟨hcrep, hcunit⟩

end

theorem readerStart_eq {s : State} {u : Cr} {n : Nat} {i : ExpItem} (hn : (s.ex u.idx).queue.findIdx? (fun j => j.phase == .queued) = some n)
    (hi : (s.ex u.idx).queue[n]? = some i) :
    s.readerStart u = (s.readItem u i).2.modEx u.idx (fun e => e.fetchDone.setEntry n (s.readItem u i).1) := by
  rw [State.readerStart, hn]
  dsimp only
  rw [hi]

/-! ### The expand phase (R108, R110) -/

theorem expandStart_expands {s : State} {u : Cr} {i : ExpItem} {rest : List ExpItem} {d : Sparse (BitVec 3) × List Byte}
    (hq : (s.ex u.idx).queue = i :: rest) (hphase : i.phase = .fetched ∨ i.phase = .reading)
    (hfree : needsBuffer i.op = true → 0 < (s.room u.idx).freeBuffers) (hout : itemOutput (s.ex u.idx) i = some d) :
    s.expandStart u = s.modEx u.idx (fun e => { e with queue := { i with phase := .expanding, tile := d.1, bytes := d.2 } :: rest }) := by
  have hready : ((i.phase == .queued) || (i.phase == .expanding)) = false := by
    rcases hphase with h | h <;> rw [h] <;> rfl
  have hbuffer : (needsBuffer i.op && decide ((s.room u.idx).freeBuffers = 0)) = false := by
    by_cases hneeds : needsBuffer i.op = true
    · have := hfree hneeds
      simp only [hneeds, Bool.true_and, decide_eq_false_iff_not]; omega
    · simp [hneeds]
  rw [State.expandStart, hq]
  dsimp only
  rw [hready, hbuffer, hout]
  rfl

/-! ### Completion (R108) -/

/-- The state in which the head of the queue has left it with its output in place, and is counted. -/
def delivered (v : State) (u : Cr) (i : ExpItem) (rest : List ExpItem) : State :=
  ((v.modEx u.idx (fun e => { e with queue := rest })).deliver u i).bump (Off.expItems u.idx) 1

theorem serveLoad_of_none {s : State} {u : Cr} (h : (s.ex u.idx).waitLoad = none) : s.serveLoad u = s := by
  rw [State.serveLoad, h]

section
variable {v : State} {u : Cr} {i : ExpItem} {rest : List ExpItem}

/-- With no EXP_LOAD waiting, a completion delivers the item, and withdraws the Hold's request when no item is late any more. -/
theorem itemComplete_eq (hq : (v.ex u.idx).queue = i :: rest) (hphase : i.phase = .expanding) (hload : ((delivered v u i rest).ex u.idx).waitLoad = none) :
    v.itemComplete u = if rest.any (fun j => j.held) then delivered v u i rest else (delivered v u i rest).holdOff u.w (dueHold u.c) := by
  have hexpanding : (!(i.phase == .expanding)) = false := by rw [hphase]; rfl
  rw [State.itemComplete, hq]
  dsimp only
  rw [hexpanding, if_neg Bool.false_ne_true, ← delivered]
  split
  · exact serveLoad_of_none hload
  · refine serveLoad_of_none ?_
    rw [ex_holdOff, hload]

/-- A tile, or a plane tile, goes to a decode buffer. -/
theorem deliver_tile (h : needsBuffer i.op = true) (s : State) : s.deliver u i = s.modEx u.idx (fun e => { e with full := e.full ++ [i.tile] }) := by
  unfold needsBuffer at h
  unfold State.deliver
  split at h
  · rename_i o ho; rw [ho]
  · rename_i o ho; rw [ho]
  · cases h

theorem delivered_tile (h : needsBuffer i.op = true) :
    delivered v u i rest = ((v.modEx u.idx (fun e => { e with queue := rest })).modEx u.idx (fun e => { e with full := e.full ++ [i.tile] })).bump
      (Off.expItems u.idx) 1 := by
  rw [delivered, deliver_tile h]

theorem room_delivered_tile (h : needsBuffer i.op = true) : (delivered v u i rest).room u.idx =
    { v.room u.idx with ex := { v.ex u.idx with queue := rest, full := (v.ex u.idx).full ++ [i.tile] } } := by
  rw [delivered_tile h, State.bump_room, room_modEx_same, room_modEx_same, ex_modEx_same]

/-- Activation bytes go to the Slate. -/
theorem deliver_bytes {dst : Nat} (h : (∃ o, i.op = .expAct o ∧ dst = o.dst.toNat) ∨ (∃ o, i.op = .expBf16 o ∧ dst = o.dst.toNat)) (s : State) :
    s.deliver u i = s.slateWrite u.idx 1 (64 * dst) i.bytes := by
  unfold State.deliver
  rcases h with ⟨o, ho, rfl⟩ | ⟨o, ho, rfl⟩ <;> rw [ho]

theorem delivered_bytes {dst : Nat} (h : (∃ o, i.op = .expAct o ∧ dst = o.dst.toNat) ∨ (∃ o, i.op = .expBf16 o ∧ dst = o.dst.toNat)) :
    delivered v u i rest =
      ((v.modEx u.idx (fun e => { e with queue := rest })).slateWrite u.idx 1 (64 * dst) i.bytes).bump (Off.expItems u.idx) 1 := by
  rw [delivered, deliver_bytes h]

theorem room_delivered_bytes {dst : Nat} (h : (∃ o, i.op = .expAct o ∧ dst = o.dst.toNat) ∨ (∃ o, i.op = .expBf16 o ∧ dst = o.dst.toNat)) :
    (delivered v u i rest).room u.idx = { v.room u.idx with ex := { v.ex u.idx with queue := rest } }.slateStore (64 * dst) i.bytes := by
  rw [delivered_bytes h, State.bump_room, room_slateWrite, room_modEx_same]

/-- What a completion keeps of what has been delivered: everything but the Hold's request. -/
theorem itemComplete_delivered (hq : (v.ex u.idx).queue = i :: rest) (hphase : i.phase = .expanding)
    (hload : ((delivered v u i rest).ex u.idx).waitLoad = none) :
    (v.itemComplete u).room u.idx = (delivered v u i rest).room u.idx ∧ (∀ p, (v.itemComplete u).reg p = (delivered v u i rest).reg p) ∧
    (UnitFrame u.idx v (delivered v u i rest) → UnitFrame u.idx v (v.itemComplete u)) := by
  rw [itemComplete_eq hq hphase hload]
  split
  · exact ⟨rfl, fun _ => rfl, id⟩
  · exact ⟨room_holdOff .., fun _ => reg_holdOff .., fun h => h.holdOff (wingOf_idx u) _⟩

end

theorem expItems_notMem_slateRegs (k : Fin 32) : Off.expItems k ∉ slateRegs k := by
  revert k; decide

/-! ### Due cycles and deadlock (R109) -/

/-- The requests that a deadlock withdraws are gone, the fault is noted and counted, and nothing is queued. -/
theorem deadlock_faults (v : State) (u : Cr) (ref : WordRef) (unit addr : Nat) :
    ((v.deadlock u ref unit addr).ex u.idx).queue = [] ∧ FaultNoted u.w ref unit 0x11 v (v.deadlock u ref unit addr) ∧
    (v.deadlock u ref unit addr).reg (Off.expFaults u.idx) = v.reg (Off.expFaults u.idx) + 1 ∧
    (v.deadlock u ref unit addr).holding u.w (dueHold u.c) = false := by
  unfold State.deadlock
  generalize hr : ((v.holdOff u.w (dueHold u.c)).holdOff u.w (fullHold u.c)).holdOff u.w (cbHold u.c) = r
  have hreg : ∀ p, r.reg p = v.reg p := fun p => by rw [← hr, reg_holdOff, reg_holdOff, reg_holdOff]
  have hseq : (r.seq u.w).faults = (v.seq u.w).faults := by rw [← hr, seq_holdOff, seq_holdOff, seq_holdOff]
  have hhold : r.holding u.w (dueHold u.c) = false := by
    rw [← hr]
    exact holding_holdOff_of_not (holding_holdOff_of_not (holding_holdOff_same ..) _) _
  obtain ⟨⟨hcount, hinfo, hfaults⟩, hexp⟩ := expFault_noted r u ref unit 0x11 addr
  rw [hreg] at hcount hexp
  rw [hseq] at hfaults
  refine ⟨?_, ⟨hcount, hinfo, hfaults⟩, hexp, ?_⟩
  · dsimp only
    rw [ex_modEx_same]
  · dsimp only
    rw [holding_modEx, ((ReportFrame.refl r).expFault ..).holding, hhold]

theorem itemDue_eq {s : State} {u : Cr} {n : Nat} {i : ExpItem} (hn : (s.ex u.idx).queue.findIdx? (fun j => !j.held) = some n)
    (hi : (s.ex u.idx).queue[n]? = some i) :
    s.itemDue u =
      let v := s.runTo u.w (i.due - 4)
      if (v.ex u.idx).stuck (n + 1) then v.deadlock u i.ref i.unit (itemAddr i.op)
      else (v.modEx u.idx (fun e => e.setEntry n { i with held := true })).holdOn u.w i.due (dueHold u.c) := by
  rw [State.itemDue, hn]
  dsimp only
  rw [hi]

/-! ### The Timetable of a quiet Wing (R144) -/

/-- A fold whose every step leaves the value it begins with ends with that value. -/
theorem foldl_of_fixed {α β : Type} {f : β → α → β} {b : β} (h : ∀ a, f b a = b) (l : List α) : l.foldl f b = b := by
  induction l with
  | nil => rfl
  | cons a l ih => rw [List.foldl_cons, h, ih]

section
variable {s : State} {w : Wing}

theorem swapFeed_of_quiet {r : Classroom} (h : arrayQuiet r) : r.swapFeed = none := by
  obtain ⟨hfeeds, -, -⟩ := h
  rw [Classroom.swapFeed, hfeeds]

theorem swapDue_of_quiet {u : Cr} (h : arrayQuiet (s.room u.idx)) (t : Nat) : s.swapDue t u = s := by
  rw [State.swapDue, swapFeed_of_quiet h]

theorem arrayTo_of_quiet {k : Fin 32} (h : arrayQuiet (s.room k)) (t : Nat) : s.arrayTo k t = s := by
  obtain ⟨hfeeds, hpipe, hdrain⟩ := h
  rw [State.arrayTo, if_pos ⟨hfeeds, hpipe, hdrain⟩]

theorem nextLoads_of_none {u : Cr} (h : (s.ex u.idx).next = []) (t : Nat) : s.nextLoads t u = s := by
  unfold State.nextLoads
  dsimp only
  rw [h, List.filter_nil, List.foldl_nil]
  refine modEx_of_fixed ?_
  rw [h, List.filter_nil, ← h]

theorem swapCap_of_quiet (h : wingQuiet s w) (t : Nat) : s.swapCap w t = t := by
  refine foldl_of_fixed (fun c => ?_) _
  obtain ⟨hquiet, -⟩ := h c
  show (match (s.room (roomIndex w c)).swapFeed with | some f => _ | none => t) = t
  rw [swapFeed_of_quiet hquiet]

theorem roundTo_of_quiet (h : wingQuiet s w) (t : Nat) : s.roundTo w t = s := by
  unfold State.roundTo
  rw [swapCap_of_quiet h]
  refine foldl_of_fixed (fun c => ?_) _
  obtain ⟨hquiet, hnext⟩ := h c
  rw [swapDue_of_quiet (u := ⟨w, c⟩) hquiet, nextLoads_of_none (u := ⟨w, c⟩) hnext, arrayTo_of_quiet hquiet]

/-- With nothing on its way in the Arrays and no Hold, only the Timetable counter moves. -/
theorem runTo_of_quiet (h : wingQuiet s w) (hheld : (s.seq w).held = false) (t : Nat) : s.runTo w t = s.modSeq w (fun q => { q with t := max q.t t }) := by
  unfold State.runTo
  rw [if_neg (by simp [hheld])]
  dsimp only
  rw [roundTo_of_quiet h, roundTo_of_quiet h, if_neg (by simp [hheld])]

end

/-- Settles O10, one phase at a time; the frames are of the state to which the Timetable has run. -/
theorem expanderPhasesAndDueCycle : Obligations.ExpanderPhasesAndDueCycle := by
  unfold Obligations.ExpanderPhasesAndDueCycle
  refine ⟨⟨fun s u n i hn hi hfault => ?_, fun s u i rest d hq hphase hfree hout => ?_, fun s v e i rest hv hq hphase hneeds hload => ?_,
    fun s v e i rest dst hv hq hphase hop hlen hload => ?_⟩, fun s v u n i hn hi hv hfits => ?_, fun s v u n i hn hi hv hstuck => ?_,
    fun s w T hquiet hheld => ?_⟩
  · obtain ⟨hitem, hrep, hunit⟩ := readItem_reads s u i hfault
    rw [exec_expReaderPhaseStart, readerStart_eq hn hi, hitem]
    refine ⟨_, rfl, ?_, ?_, hunit.modEx _⟩
    · rw [ex_modEx_same, hrep.ex]; rfl
    · rw [room_modEx_same, hrep.room]
  · rw [exec_expExpandPhaseStart, expandStart_expands hq hphase hfree hout]
    exact ⟨_, rfl, by rw [ex_modEx_same], (UnitFrame.refl ..).modEx _⟩
  · have hroom := room_delivered_tile (v := v) (u := e.cr) (rest := rest) hneeds
    obtain ⟨hcroom, hcreg, hcframe⟩ := itemComplete_delivered hq hphase (by rw [State.ex, hroom, hload])
    rw [exec_expItemComplete, ← hv]
    refine ⟨_, rfl, ?_, ?_, ?_, fun p hp => ?_, ?_, hcframe ?_⟩
    · rw [State.ex, hcroom, hroom]
    · rw [State.ex, hcroom, hroom]
    · rw [hcreg, delivered_tile hneeds, reg_bump_one, reg_modEx, reg_modEx]
    · rw [hcreg, delivered_tile hneeds, State.reg_bump_other _ _ hp, reg_modEx, reg_modEx]
    · rw [hcroom, hroom]
    · rw [delivered_tile hneeds]
      exact (((UnitFrame.refl ..).modEx _).modEx _).bump ..
  · have hroom := room_delivered_bytes (v := v) (u := e.cr) (rest := rest) hop
    have hex : (delivered v e.cr i rest).ex e.cr.idx = { v.ex e.cr.idx with queue := rest } := by
      rw [State.ex, hroom, ex_slateStore]
    obtain ⟨hcroom, hcreg, hcframe⟩ := itemComplete_delivered hq hphase (by rw [hex, hload])
    rw [exec_expItemComplete, ← hv]
    refine ⟨_, rfl, ?_, ?_, ?_, hcframe ?_⟩
    · rw [ex_of_room hcroom, hex]
    · rw [hcroom, hroom, slateBytes_slateStore _ _ _ hlen]
    · rw [hcreg, delivered_bytes hop, reg_bump_one, reg_slateWrite (expItems_notMem_slateRegs _), reg_modEx]
    · rw [delivered_bytes hop]
      exact (((UnitFrame.refl ..).modEx _).slateWrite ..).bump ..
  · rw [exec_expItemDue, itemDue_eq hn hi, ← hv]
    dsimp only
    rw [hfits, if_neg Bool.false_ne_true]
    refine ⟨_, rfl, ?_, held_holdOn .., holding_holdOn .., count_holdOn .., ((UnitFrame.refl ..).modEx _).holdOn (wingOf_idx u) ..⟩
    rw [ex_holdOn, ex_modEx_same]; rfl
  · rw [exec_expItemDue, itemDue_eq hn hi, ← hv]
    dsimp only
    rw [hstuck, if_pos rfl]
    exact ⟨_, rfl, deadlock_faults ..⟩
  · rw [runTo_of_quiet hquiet hheld]
    exact ⟨rfl, rfl, rfl, by rw [State.seq_modSeq_same]⟩

end Sys2Proof
end
